-- ==== Sys2Proof/Word.lean ====
section
/-! DEFINITION. The word types of the LB4120: bytes on its links, its 32-bit counts, its 4-bit telegram sequences and its four channel numbers. -/

namespace Sys2Proof

/-- One byte of the console link or of a radio data line. -/
abbrev Byte := BitVec 8

/-- A 32-bit count that wraps: the dispatch clock (R198), the assignment counter (R21), an admission counter (R162). -/
abbrev Word32 := BitVec 32

/-- A telegram sequence, 0..15, that advances modulo 16 (R17, R136). -/
abbrev Seq := BitVec 4

/-- A radio channel number, 0..3. -/
abbrev Chan := Fin 4

end Sys2Proof
end

