-- ==== Sys2Proof/Machine/Bytes.lean ====
section
/-! DEFINITION. Bytes on the links: the pair sum (R125), multi-byte fields (most significant byte first), and the field codings of 10.6. -/

namespace Sys2Proof.Machine

/-- One byte taken into the accumulators A and B of the pair sum (R125). -/
def pairStep (ab : Nat × Nat) (x : Byte) : Nat × Nat :=
  ((ab.1 + x.toNat) % 251, (ab.2 + (ab.1 + x.toNat) % 251) % 251)

/-- The accumulators A and B after a byte sequence (R125). -/
def pairAcc (bs : List Byte) : Nat × Nat := bs.foldl pairStep (0, 0)

/-- The pair sum B × 256 + A of a byte sequence (R125). -/
def pairSum (bs : List Byte) : Nat := (pairAcc bs).2 * 256 + (pairAcc bs).1

/-- A one-byte field. -/
def u8 (n : Nat) : List Byte := [BitVec.ofNat 8 n]

/-- A two-byte field, most significant byte first. -/
def u16 (n : Nat) : List Byte := [BitVec.ofNat 8 (n / 256), BitVec.ofNat 8 n]

/-- A four-byte field, most significant byte first. -/
def u32 (w : Word32) : List Byte := u16 (w.toNat / 65536) ++ u16 w.toNat

/-- The check bytes of a byte sequence, B and then A (R125). -/
def checkBytes (bs : List Byte) : List Byte := u8 (pairAcc bs).2 ++ u8 (pairAcc bs).1

/-- The value of a two-byte field. -/
def be16 (h l : Byte) : Nat := h.toNat * 256 + l.toNat

/-- The value of a four-byte field. -/
def be32 (a b c d : Byte) : Word32 := BitVec.ofNat 32 (be16 a b * 65536 + be16 c d)

/-- A mark: 0 clear, 1 set (10.6). -/
def mark (b : Bool) : List Byte := u8 (if b then 1 else 0)

/-- A countdown in seconds: 65535 for stopped (10.6). -/
def countdown (x : Option Nat) : List Byte := u16 (x.getD 65535)

/-- An optional field of a given size: a presence byte, then the field, or zeros when absent (10.6). -/
def optional (size : Nat) (x : Option (List Byte)) : List Byte :=
  match x with
  | some b => u8 1 ++ b
  | none => u8 0 ++ List.replicate size 0

/-- A list: an item count, then the items in order (10.6). -/
def itemList (items : List (List Byte)) : List Byte := u8 items.length ++ items.flatten

end Sys2Proof.Machine
end

