-- ==== Sys2Proof/Syntax.lean ====
section
/-! DEFINITION. The commands of the LB4120: one constructor per row of spec/opcode_table.json, with what the outside world gives with it. -/

namespace Sys2Proof

/-- The console transfer that carries a request: how many bytes were clocked each way (R191), and the tag of its request frame (R192). -/
structure Xfer where
  clocks : Nat
  tag    : Byte
  deriving DecidableEq, Repr

/-- What an alarm stands for: a worker, by badge, or a crew as a whole, by crew slot (5.7). -/
inductive AlarmRef where
  | worker (badge : Nat)
  | crew   (slot : Nat)
  deriving DecidableEq, Repr

/-- The commands. A console request carries its transfer and its parameter bytes exactly as shifted in, so that the fit
check of R195 is part of its meaning. An event names the channel or the record it happens to; a received frame carries the
bytes that arrived. -/
inductive Instr where
  | powerOnReset
  | readTransfer   (clocks : Nat)
  | frameError     (bytes : List Byte)
  | unknownRequest (x : Xfer) (code : Byte) (params : List Byte)
  | identify       (x : Xfer) (params : List Byte)
  | readNotices    (x : Xfer) (params : List Byte)
  | readClock      (x : Xfer) (params : List Byte)
  | setClock       (x : Xfer) (params : List Byte)
  | readParam      (x : Xfer) (params : List Byte)
  | setParam       (x : Xfer) (params : List Byte)
  | queryChannel   (x : Xfer) (params : List Byte)
  | signOn         (x : Xfer) (params : List Byte)
  | signOff        (x : Xfer) (params : List Byte)
  | addMember      (x : Xfer) (params : List Byte)
  | removeMember   (x : Xfer) (params : List Byte)
  | setChannels    (x : Xfer) (params : List Byte)
  | queryCrew      (x : Xfer) (params : List Byte)
  | queryWorker    (x : Xfer) (params : List Byte)
  | createOrder    (x : Xfer) (params : List Byte)
  | assignOrder    (x : Xfer) (params : List Byte)
  | unassignOrder  (x : Xfer) (params : List Byte)
  | cancelOrder    (x : Xfer) (params : List Byte)
  | bindPermit     (x : Xfer) (params : List Byte)
  | retireOrder    (x : Xfer) (params : List Byte)
  | queryOrder     (x : Xfer) (params : List Byte)
  | listQueue      (x : Xfer) (params : List Byte)
  | loadDevice     (x : Xfer) (params : List Byte)
  | setPosition    (x : Xfer) (params : List Byte)
  | unloadDevice   (x : Xfer) (params : List Byte)
  | queryDevice    (x : Xfer) (params : List Byte)
  | draftPermit    (x : Xfer) (params : List Byte)
  | startSwitching (x : Xfer) (params : List Byte)
  | grantSurrender (x : Xfer) (params : List Byte)
  | denySurrender  (x : Xfer) (params : List Byte)
  | retryPermit    (x : Xfer) (params : List Byte)
  | reassignHolder (x : Xfer) (params : List Byte)
  | cancelPermit   (x : Xfer) (params : List Byte)
  | retirePermit   (x : Xfer) (params : List Byte)
  | queryPermit    (x : Xfer) (params : List Byte)
  | startWatch     (x : Xfer) (params : List Byte)
  | stopWatch      (x : Xfer) (params : List Byte)
  | ackAlarm       (x : Xfer) (params : List Byte)
  | clearAlarm     (x : Xfer) (params : List Byte)
  | reviewWorker   (x : Xfer) (params : List Byte)
  | enableChannel  (x : Xfer) (params : List Byte)
  | disableChannel (x : Xfer) (params : List Byte)
  | restartChannel (x : Xfer) (params : List Byte)
  | sendText       (x : Xfer) (params : List Byte)
  | readMessage    (x : Xfer) (params : List Byte)
  | tick
  | acceptanceExpiry  (order : Nat)
  | readbackExpiry    (serial : Nat)
  | intervalExpiry    (badge : Nat)
  | restExpiry        (badge : Nat)
  | graceExpiry       (badge : Nat)
  | escalationExpiry  (alarm : AlarmRef)
  | failoverExpiry    (c : Chan)
  | failbackExpiry    (c : Chan)
  | holdOffExpiry     (c : Chan) (place : Nat)
  | replyWindowExpiry (c : Chan)
  | repeatWaitExpiry  (c : Chan)
  | readyActive       (c : Chan)
  | readyInactive     (c : Chan)
  | carrierActive     (c : Chan)
  | carrierInactive   (c : Chan)
  | frameReceived      (c : Chan) (bytes : List Byte)
  | replyFrameReceived (c : Chan) (bytes : List Byte)
  | attemptStart      (c : Chan)
  | sendComplete      (c : Chan)
  | answerSent        (c : Chan)
  deriving DecidableEq, Repr

end Sys2Proof
end

