-- ==== Sys2Proof/Decode.lean ====
section
/-! DEFINITION. The reading of a console transfer as a command (R191, R192, R195) and the bytes that carry a request. The rows of the table carry no bits, so no table word spells a command. -/

namespace Sys2Proof

open Machine

/-- The command a word of the table's bits spells: the table gives no row any bits. -/
def decodeTableWord (_nbits _w : Nat) : Option Instr := none

/-- The request a code names (10.6); a code that is not in the table is an unknown request (R195). -/
def requestOf (x : Xfer) (code : Byte) (params : List Byte) : Instr :=
  match code.toNat with
  | 0x01 => .identify x params | 0x02 => .readNotices x params | 0x03 => .readClock x params
  | 0x04 => .setClock x params | 0x05 => .readParam x params | 0x06 => .setParam x params
  | 0x07 => .queryChannel x params
  | 0x10 => .signOn x params | 0x11 => .signOff x params | 0x12 => .addMember x params
  | 0x13 => .removeMember x params | 0x14 => .setChannels x params | 0x15 => .queryCrew x params
  | 0x16 => .queryWorker x params
  | 0x20 => .createOrder x params | 0x21 => .assignOrder x params | 0x22 => .unassignOrder x params
  | 0x23 => .cancelOrder x params | 0x24 => .bindPermit x params | 0x25 => .retireOrder x params
  | 0x26 => .queryOrder x params | 0x27 => .listQueue x params
  | 0x30 => .loadDevice x params | 0x31 => .setPosition x params | 0x32 => .unloadDevice x params
  | 0x33 => .queryDevice x params
  | 0x40 => .draftPermit x params | 0x41 => .startSwitching x params | 0x42 => .grantSurrender x params
  | 0x43 => .denySurrender x params | 0x44 => .retryPermit x params | 0x45 => .reassignHolder x params
  | 0x46 => .cancelPermit x params | 0x47 => .retirePermit x params | 0x48 => .queryPermit x params
  | 0x50 => .startWatch x params | 0x51 => .stopWatch x params | 0x52 => .ackAlarm x params
  | 0x53 => .clearAlarm x params | 0x54 => .reviewWorker x params
  | 0x60 => .enableChannel x params | 0x61 => .disableChannel x params | 0x62 => .restartChannel x params
  | 0x63 => .sendText x params | 0x64 => .readMessage x params
  | _ => .unknownRequest x code params

/-- The body of a request frame behind its start byte: the code, the tag and the parameters, or none when the length or the
check is in error (R192). -/
def readFrameBody : List Byte → Option (Byte × Byte × List Byte)
  | n :: code :: tag :: rest =>
    if 2 ≤ n.toNat ∧ n.toNat ≤ 122 ∧ n.toNat ≤ rest.length
        ∧ (rest.drop (n.toNat - 2)).take 2 = checkBytes (n :: code :: tag :: rest.take (n.toNat - 2)) then
      some (code, tag, rest.take (n.toNat - 2))
    else none
  | _ => none

/-- The request frame of a transfer, or none when it is in error (R192). -/
def readRequest (bytes : List Byte) : Option (Byte × Byte × List Byte) :=
  match bytes.dropWhile (· == 0) with
  | start :: rest => if start = 0xA5 then readFrameBody rest else none
  | [] => none

/-- The command a console transfer carries: a read transfer, a frame in error, or a request (R191, R192, R195). -/
def decodeTransfer (bytes : List Byte) : Instr :=
  if bytes.all (· == 0) then .readTransfer bytes.length
  else
    match readRequest bytes with
    | some (code, tag, params) => requestOf ⟨bytes.length, tag⟩ code params
    | none => .frameError bytes

/-- The request frame of a code, a tag and parameters (10.6). -/
def requestFrame (code tag : Byte) (params : List Byte) : List Byte :=
  [0xA5] ++ (u8 (params.length + 2) ++ [code, tag] ++ params)
    ++ checkBytes (u8 (params.length + 2) ++ [code, tag] ++ params)

/-- The request frame followed by bytes of 0 up to the length of its transfer. -/
def requestTransfer (code : Byte) (x : Xfer) (params : List Byte) : List Byte :=
  requestFrame code x.tag params ++ List.replicate (x.clocks - (requestFrame code x.tag params).length) 0

/-- A request's code, transfer and parameters; none for a command that is not a request frame without error (10.6). -/
def Instr.request? : Instr → Option (Byte × Xfer × List Byte)
  | .identify x p => some (0x01, x, p) | .readNotices x p => some (0x02, x, p) | .readClock x p => some (0x03, x, p)
  | .setClock x p => some (0x04, x, p) | .readParam x p => some (0x05, x, p) | .setParam x p => some (0x06, x, p)
  | .queryChannel x p => some (0x07, x, p)
  | .signOn x p => some (0x10, x, p) | .signOff x p => some (0x11, x, p) | .addMember x p => some (0x12, x, p)
  | .removeMember x p => some (0x13, x, p) | .setChannels x p => some (0x14, x, p) | .queryCrew x p => some (0x15, x, p)
  | .queryWorker x p => some (0x16, x, p)
  | .createOrder x p => some (0x20, x, p) | .assignOrder x p => some (0x21, x, p)
  | .unassignOrder x p => some (0x22, x, p) | .cancelOrder x p => some (0x23, x, p) | .bindPermit x p => some (0x24, x, p)
  | .retireOrder x p => some (0x25, x, p) | .queryOrder x p => some (0x26, x, p) | .listQueue x p => some (0x27, x, p)
  | .loadDevice x p => some (0x30, x, p) | .setPosition x p => some (0x31, x, p) | .unloadDevice x p => some (0x32, x, p)
  | .queryDevice x p => some (0x33, x, p)
  | .draftPermit x p => some (0x40, x, p) | .startSwitching x p => some (0x41, x, p)
  | .grantSurrender x p => some (0x42, x, p) | .denySurrender x p => some (0x43, x, p)
  | .retryPermit x p => some (0x44, x, p) | .reassignHolder x p => some (0x45, x, p)
  | .cancelPermit x p => some (0x46, x, p) | .retirePermit x p => some (0x47, x, p) | .queryPermit x p => some (0x48, x, p)
  | .startWatch x p => some (0x50, x, p) | .stopWatch x p => some (0x51, x, p) | .ackAlarm x p => some (0x52, x, p)
  | .clearAlarm x p => some (0x53, x, p) | .reviewWorker x p => some (0x54, x, p)
  | .enableChannel x p => some (0x60, x, p) | .disableChannel x p => some (0x61, x, p)
  | .restartChannel x p => some (0x62, x, p) | .sendText x p => some (0x63, x, p) | .readMessage x p => some (0x64, x, p)
  | .unknownRequest x code p => some (code, x, p)
  | .powerOnReset | .readTransfer _ | .frameError _ | .tick | .acceptanceExpiry _ | .readbackExpiry _ | .intervalExpiry _
  | .restExpiry _ | .graceExpiry _ | .escalationExpiry _ | .failoverExpiry _ | .failbackExpiry _ | .holdOffExpiry _ _
  | .replyWindowExpiry _ | .repeatWaitExpiry _ | .readyActive _ | .readyInactive _ | .carrierActive _
  | .carrierInactive _ | .frameReceived _ _ | .replyFrameReceived _ _ | .attemptStart _ | .sendComplete _
  | .answerSent _ => none

/-- The bytes of a transfer that carries a command of the console link; none for an event of the radios or the tick. -/
def encodeTransfer (i : Instr) : Option (List Byte) :=
  match i with
  | .readTransfer clocks => some (List.replicate clocks 0)
  | .frameError bytes => some bytes
  | _ => i.request?.map fun r => requestTransfer r.1 r.2.1 r.2.2

end Sys2Proof
end

