-- ==== Sys2Proof/Config.lean ====
section
/-! DEFINITION. What the manual leaves open, as constants without a body: nothing can be proved of their values. -/

namespace Sys2Proof

/-- The choice the part makes, at its n-th choice, where the manual lets several things be taken in any order
(R169, R171: the space signals of several channels; 5.3, 5.4: lead prompts that fall due at one moment).
The number is taken modulo the number of things still to be taken, so every order is possible (assumption 34). Whether a carrier
comes at the moment of an expiry (R141) is such a choice too (assumption 41). -/
opaque Config.openChoice : Nat → Nat

end Sys2Proof
end

