-- ==== Sys2Proof/Machine/Types.lean ====
section
/-! DEFINITION. The records of the LB4120's blocks, as plain data: crews and workers (1.1, 1.2, 5.1), orders (2.1), devices (3.1), permits (4.1), telegrams (6.4), channels (7.2), queue entries (8.1), assemblies and messages (9.1, 9.5), parameters (10.3) and notices (10.5). -/

namespace Sys2Proof.Machine

/-! ### Crews and workers (Chapters 1 and 5) -/

/-- A crew's standing on the air (1.7). -/
inductive Reach where
  | reachable | suspect | lost
  deriving DecidableEq, Repr

/-- A worker's watch state (5.2). -/
inductive WatchState where
  | off | watching | resting | due | alarm | acknowledged
  deriving DecidableEq, Repr

/-- A crew alarm (5.1). -/
inductive CrewAlarm where
  | none | raised | acknowledged
  deriving DecidableEq, Repr

/-- The cause of an alarm (5.1). -/
inductive AlarmCause where
  | panic | manDown | timeout
  deriving DecidableEq, Repr

/-- What became of the last CHECK_PROMPT that named a worker (5.1). -/
inductive PromptStatus where
  | queued | inFlight | delivered | notSent | failed
  deriving DecidableEq, Repr

/-- A worker record with its watch fields (1.2, 5.1). A stopped countdown is none. -/
structure Worker where
  badge     : Nat
  crew      : Nat
  watch     : WatchState
  interval  : Nat
  grace     : Nat
  eff       : Option Nat
  lead      : Option Nat
  remaining : Option Nat
  graceLeft : Option Nat
  missed    : Nat
  leadOwed  : Bool
  prompt    : Option PromptStatus
  cause     : Option AlarmCause
  escal     : Option Nat
  escalated : Bool
  deriving DecidableEq, Repr

/-- A crew record (1.1), with its crew queue (2.3) and crew alarm fields (5.1).
waitingFor is the model's own: the waiting order and the WORKING head for which ORDER_WAITING has been posted (R37). -/
structure Crew where
  slot       : Nat
  unit       : Nat
  qual       : Nat
  home       : Chan
  alt        : Option Chan
  current    : Chan
  reach      : Reach
  failures   : Nat
  lastHeard  : Option Word32
  outSeq     : Seq
  inSeq      : Option Seq
  members    : List Nat
  alarm      : CrewAlarm
  alarmCause : Option AlarmCause
  escal      : Option Nat
  escalated  : Bool
  queue      : List Nat
  waitingFor : Option (Nat × Nat)
  deriving DecidableEq, Repr

/-! ### Orders (Chapter 2) -/

/-- An order's urgency (2.1); a lower rank goes first. -/
inductive Priority where
  | emergency | urgent | routine | deferred
  deriving DecidableEq, Repr

/-- The eleven order states (2.2). -/
inductive OrderState where
  | opened | assigned | sent | delivered | accepted | blocked | working | complete | returned | undelivered | cancelled
  deriving DecidableEq, Repr

/-- Why a head is deferred (2.1); FLOW and FULL are also the reasons a queue refuses an offer (8.3). -/
inductive Deferral where
  | flow | full | lost
  deriving DecidableEq, Repr

/-- Why an order is RETURNED (2.1). -/
inductive ReturnCause where
  | declined | unable
  deriving DecidableEq, Repr

/-- Where an order's own ORDER telegram stands (2.1); none is the absent value. -/
inductive Link where
  | queued | inFlight
  deriving DecidableEq, Repr

/-- The kind of an order's follow-up (2.9). -/
inductive FollowKind where
  | cancel | cleared
  deriving DecidableEq, Repr

/-- The status of an order's follow-up (2.1). -/
inductive FollowStatus where
  | owed | queued | inFlight | delivered | failed | dropped
  deriving DecidableEq, Repr

/-- An order record (2.1). -/
structure Order where
  number      : Nat
  priority    : Priority
  state       : OrderState
  crew        : Option Nat
  bound       : Option Nat
  text        : List Byte
  created     : Word32
  deliveredAt : Option Word32
  asgSeq      : Word32
  deferral    : Option Deferral
  returned    : Option ReturnCause
  acceptance  : Option Nat
  unanswered  : Bool
  link        : Option Link
  followUp    : Option (FollowKind × FollowStatus)
  deriving DecidableEq, Repr

/-! ### Devices (Chapter 3) -/

/-- The kinds of switching point (3.1). -/
inductive DeviceKind where
  | breaker | switch | fuse | ground
  deriving DecidableEq, Repr

/-- A device's position (3.1). -/
inductive Position where
  | opened | closed
  deriving DecidableEq, Repr

/-- The actions the part instructs (3.1). -/
inductive Action where
  | openDevice | applyGround | hangTag | removeTag | closeDevice | removeGround
  deriving DecidableEq, Repr

/-- The actions a step may be drafted with (4.2). -/
inductive Drafted where
  | openDevice | applyGround
  deriving DecidableEq, Repr

/-- The role of a claim (3.4). -/
inductive Role where
  | isolation | restoration
  deriving DecidableEq, Repr

/-- The answer to a claim (R54). -/
inductive ClaimAnswer where
  | wait | tagLimit | granted (a : Action)
  deriving DecidableEq, Repr

/-- A loaded device record (3.1). Its isolation position follows from its kind. -/
structure Device where
  number   : Nat
  kind     : DeviceKind
  position : Position
  tags     : List Nat
  restore  : Option Position
  pending  : Option (Nat × Action)
  waits    : List Nat
  deriving DecidableEq, Repr

/-! ### Permits (Chapter 4) -/

/-- The permit states (4.3). -/
inductive PermitState where
  | draft | switching | issuing | inForce | restoring | stalled | closed
  deriving DecidableEq, Repr

/-- The phase a permit stalled from (4.1). -/
inductive Phase where
  | switching | issuing | restoring
  deriving DecidableEq, Repr

/-- The cause of a stall (4.1). -/
inductive StallCause where
  | unable | undelivered | readback | tagLimit
  deriving DecidableEq, Repr

/-- The status of a permit's telegram (4.1). -/
inductive TgStatus where
  | deferred | queued | inFlight | delivered | failed | dropped
  deriving DecidableEq, Repr

/-- The four telegrams a permit may own at once (4.4). -/
inductive PermitTg where
  | instruct | issue | answer | closing
  deriving DecidableEq, Repr

/-- The answers to a surrender (R83). -/
inductive SurrenderAnswer where
  | granted | held | denied
  deriving DecidableEq, Repr

/-- The reasons of a surrender answer (R83); none is the absent value. -/
inductive SurrenderReason where
  | ordersOpen | alarm | notHolder | notInForce
  deriving DecidableEq, Repr

/-- One step of a step list: a device and its drafted action (4.1). -/
structure Step where
  device : Nat
  action : Drafted
  deriving DecidableEq, Repr

/-- An outstanding instruction (4.1). -/
structure Outstanding where
  index  : Nat
  device : Nat
  role   : Role
  action : Action
  status : TgStatus
  deriving DecidableEq, Repr

/-- A permit's answer telegram (4.1). -/
structure AnswerTg where
  answer : SurrenderAnswer
  reason : Option SurrenderReason
  status : TgStatus
  deriving DecidableEq, Repr

/-- A permit record (4.1). The applied stack has its top first. -/
structure Permit where
  serial       : Nat
  holder       : Nat
  minQual      : Nat
  state        : PermitState
  steps        : List Step
  k            : Nat
  stack        : List (Nat × Action)
  outstanding  : Option Outstanding
  lastReleased : Option Nat
  cancelWait   : Bool
  stall        : Option (Phase × StallCause)
  issueCount   : Nat
  issue        : Option TgStatus
  issueOwed    : Bool
  readback     : Option Nat
  digest       : Option Nat
  surrender    : Bool
  answer       : Option AnswerTg
  closing      : Option TgStatus
  hold         : Bool
  deferred     : Bool
  waiting      : Bool
  deriving DecidableEq, Repr

/-! ### Telegrams and queue entries (Chapters 6 and 8) -/

/-- The kinds of telegram the part sends from its queues (6.4). -/
inductive TgKind where
  | order | stepInstruct | permitIssue | permitClosed | surrenderAnswer | checkPrompt
  | orderCancel | orderCleared | alarmCall | text
  deriving DecidableEq, Repr

/-- The class of an outbound telegram (6.4); a lower rank goes first. -/
inductive TgClass where
  | emergency | safety | order | text
  deriving DecidableEq, Repr

/-- Who owns a queue entry (8.1). -/
inductive Owner where
  | order      (number : Nat)
  | followUp   (number : Nat)
  | permit     (tg : PermitTg) (serial : Nat)
  | freeAnswer (serial : Nat)
  | prompt     (slot : Nat)
  | alarmCall  (c : Chan)
  | text       (number : Nat)
  deriving DecidableEq, Repr

/-- The addressing of a queue entry (8.1). -/
inductive Addr where
  | crew  (slot unit : Nat)
  | group (selector mask : Nat)
  deriving DecidableEq, Repr

/-- The body of a queue entry (8.1): fixed at the offer, or a badge list that is built into bytes at each attempt, or none
until a send begins. -/
inductive Body where
  | bytes  (b : List Byte)
  | prompt (overdue : Bool) (badges : List Nat)
  | atSend
  deriving DecidableEq, Repr

/-- A queue entry (8.1). linked is the model's own: whether the owner's record still links this very telegram
(R67, R148). A group entry has no sequence of its own; an individual entry has no repeats left. -/
structure Entry where
  owner       : Owner
  kind        : TgKind
  cls         : TgClass
  addr        : Addr
  seq         : Option Seq
  body        : Body
  attempts    : Nat
  holdOff     : Nat
  blocksSent  : Nat
  repeats     : Option Nat
  rearm       : Bool
  inFlight    : Bool
  orphan      : Bool
  admission   : Word32
  linked      : Bool
  deriving DecidableEq, Repr

/-- The cause of a failed attempt (7.4). -/
inductive FailCause where
  | carrierLost | noReply | collision | busy | blocksExhausted
  deriving DecidableEq, Repr

/-- The result of an attempt (7.4); a rejection carries the answer code received. -/
inductive Result where
  | delivered
  | rejected (code : Nat)
  | failed   (cause : FailCause)
  | sent
  deriving DecidableEq, Repr

/-! ### Channels (Chapters 7 and 9) -/

/-- The channel states (7.2). -/
inductive ChState where
  | off | down | idle | sending | awaitReply | receiving | answering | awaitRepeat
  deriving DecidableEq, Repr

/-- The reception origin (7.2). -/
inductive Origin where
  | idle | awaitRepeat
  deriving DecidableEq, Repr

/-- Where a channel goes when its ANSWER has been sent (7.6). -/
inductive AfterAnswer where
  | finish | await
  deriving DecidableEq, Repr

/-- The attempt record (7.2): the entry in flight (by its admission sequence), whether the frame being sent is a repeat
frame, and the blocks still reported missing; with the body formed at the attempt's start, which is the body of the whole
attempt (R142), and the sequence its frames carry (R135, R136). -/
structure Attempt where
  entry   : Word32
  rpt     : Bool
  missing : List Nat
  body    : List Byte
  seq     : Seq
  deriving DecidableEq, Repr

/-- An assembly record that is not empty (9.1): the blocks held good stand at their numbers. -/
structure Assembly where
  src    : Nat
  seq    : Seq
  kind   : Nat
  len    : Nat
  blocks : List (Option (List Byte))
  deriving DecidableEq, Repr

/-- A crew message in a mailbox (R188). -/
structure Message where
  slot  : Nat
  unit  : Nat
  chan  : Chan
  clock : Word32
  seq   : Seq
  text  : List Byte
  deriving DecidableEq, Repr

/-- All that the part keeps for one channel: the channel record (7.2) with the port's lines (7.1), the Outbound Queue and its
admission counter (8.1, R162), the alarm set (R119), the two deferral lists (R29, R68), the assembly record (R178) and the
mailbox (R188). carrierSpent is R141's condition that CARRIER has stayed active since the end of a frame's reception, or through
a burst that it says begins no reception. txFrame is the frame being sent on the transmit data line, empty when none is.
ranOut is the model's own: the channel has reached IDLE by the expiry of its reply window or repeat wait, and no tick, no
CARRIER change and no attempt has come since, so that a CARRIER_ACTIVE can be of the same moment as that expiry
(R141, assumption 41). -/
structure Channel where
  state        : ChState
  attempt      : Option Attempt
  replyWindow  : Option Nat
  repeatWait   : Option Nat
  origin       : Option Origin
  failover     : Option Nat
  failback     : Option Nat
  groupSeq     : Seq
  flowHold     : Bool
  ready        : Bool
  carrier      : Bool
  carrierSpent : Bool
  ranOut       : Bool
  key          : Bool
  txFrame      : List Byte
  afterAnswer  : Option AfterAnswer
  queue        : List Entry
  admissions   : Word32
  alarmSet     : List AlarmRef
  permitDefer  : List Nat
  orderDefer   : List Nat
  assembly     : Option Assembly
  mailbox      : List Message
  deriving DecidableEq, Repr

/-- One thing for each of the four channels. -/
structure Four (α : Type) where
  c0 : α
  c1 : α
  c2 : α
  c3 : α
  deriving DecidableEq, Repr

/-! ### Parameters (10.3) -/

/-- The operating parameters, in the order of the table of R199. -/
structure Params where
  attemptLimit        : Nat
  retryHoldOff        : Nat
  replyWindow         : Nat
  repeatWait          : Nat
  blockAllowance      : Nat
  reachThreshold      : Nat
  failoverTime        : Nat
  highMark            : Nat
  lowMark             : Nat
  alarmRepeats        : Nat
  alarmRepeatInterval : Nat
  escalationTime      : Nat
  highRiskCap         : Nat
  promptLead          : Nat
  defaultInterval     : Nat
  defaultGrace        : Nat
  restLimit           : Nat
  acceptanceTimeout   : Nat
  issueLimit          : Nat
  readbackWait        : Nat
  deriving DecidableEq, Repr

/-! ### Responses and notices (Chapter 10) -/

/-- The status codes of R196. -/
inductive Status where
  | ok | adjusted | notFound | duplicate | full | badState | badValue | conflict | held | frameError | unknownRequest
  deriving DecidableEq, Repr

/-- The causes of an ORDER_STATE notice (R23); none is the absent value. -/
inductive OrderCause where
  | declined | unable | failed | rejected | cancel | preempted | evicted
  deriving DecidableEq, Repr

/-- The causes of a PERMIT_STATE notice (R66). -/
inductive PermitCause where
  | start | stepsDone | readbackOk | granted | restored | stalled (c : StallCause) | retry | cancel
  | answerFailed | closeFailed | holder
  deriving DecidableEq, Repr

/-- The causes of a crew move (R10). -/
inductive MoveCause where
  | setChannels | failover | failback | disable
  deriving DecidableEq, Repr

/-- The causes of a CHANNEL_STATE notice (R139). -/
inductive ChannelCause where
  | request | ready
  deriving DecidableEq, Repr

/-- The causes of a WATCH_STATE notice (R99). -/
inductive WatchCause where
  | request | telegram | expiry | member
  deriving DecidableEq, Repr

/-- The reasons of a STEP_REPORT_IGNORED notice (R73). -/
inductive IgnoreReason where
  | unknownPermit | notHolder | badOutcome | notOutstanding
  deriving DecidableEq, Repr

/-- Why a TEXT was dropped (R173). -/
inductive DropReason where
  | evicted | flushed | signedOff | moved
  deriving DecidableEq, Repr

/-- How a TEXT ended (R173). -/
inductive TextOutcome where
  | delivered
  | rejected (code : Nat)
  | failed   (cause : FailCause)
  | sent
  | dropped  (reason : DropReason)
  deriving DecidableEq, Repr

/-- Whom a TEXT was for, as its TEXT_RESULT names it (R173). -/
inductive TextTarget where
  | crew  (slot : Nat)
  | group (c : Chan) (selector mask : Nat)
  deriving DecidableEq, Repr

/-- The old state that an ALARM notice gives (R114): a worker's watch state or a crew alarm. -/
inductive AlarmOld where
  | worker (w : WatchState)
  | crew   (a : CrewAlarm)
  deriving DecidableEq, Repr

/-- A notice's kind with its subject fields, in the order of its posting rule (10.5, 10.6). -/
inductive Subject where
  | orderState (order : Nat) (crew : Option Nat) (old new : OrderState) (cause : Option OrderCause)
  | orderUnanswered (order : Nat) (crew : Option Nat) (deliveredAt : Word32)
  | orderWaiting (crew waiting head : Nat)
  | replyIgnored (crew order code : Nat) (state : Option OrderState)
  | crewReachability (crew unit : Nat) (old new : Reach) (failures : Nat)
  | crewMoved (crew unit : Nat) (a b : Chan) (cause : MoveCause)
  | stranger (c : Chan) (src kind : Nat) (seq : Seq)
  | channelState (c : Chan) (left entered : ChState) (cause : ChannelCause)
  | textResult (number : Nat) (target : TextTarget) (outcome : TextOutcome)
  | crewMessage (c : Chan) (crew unit len count : Nat)
  | permitState (serial holder : Nat) (old new : PermitState) (cause : PermitCause)
  | surrenderRequested (serial holder : Nat) (clock : Word32)
  | stepReportIgnored (crew kind serial index outcome : Nat) (reason : IgnoreReason)
  | lateReport (crew serial index outcome : Nat) (state : PermitState)
  | checkinDuringAlarm (badge crew kind : Nat) (state : WatchState)
  | watchState (badge crew : Nat) (old new : WatchState) (cause : WatchCause)
  | alarm (badge crew unit : Nat) (cause : AlarmCause) (old : AlarmOld)
  | alarmEscalated (badge crew unit : Nat) (cause : Option AlarmCause)
  | strangerEmergency (c : Chan) (src : Nat) (seq : Seq) (badge : Nat) (cause : AlarmCause)
  deriving DecidableEq, Repr

/-- A notice: the clock at its posting, and its kind with its subject. -/
structure Notice where
  clock   : Word32
  subject : Subject
  deriving DecidableEq, Repr

end Sys2Proof.Machine
end

