-- ==== Sys2Proof/Machine/State.lean ====
section
/-! DEFINITION. The state of the whole part, its value after power-on reset, and the reasons a step can stop. -/

namespace Sys2Proof.Machine

/-- Why the machine could stop with a fault. The manual names no condition that stops the part, so no step of this model
answers with a fault. -/
inductive Fault where
  /-- Raised by nothing: the manual gives the part no fault. It keeps the type inhabited. Safe. -/
  | noneSpecified
  deriving DecidableEq, Repr

/-- Why a command could have no meaning. -/
inductive Refusal where
  /-- Raised by an arm of exec whose command has no meaning yet (none is left). Safe. -/
  | notModelled (mnemonic : String)
  deriving DecidableEq, Repr

/-- The state of the part. The tables hold the records in use, by rising slot, badge, number or serial; a place that no
record names is free (R1, R2, R21, R47, R62).

The fields of the model's own, which the manual does not name as state, are: alarmOrder, the alarms that stand, in the order
in which they entered (R119); owed, the orders whose follow-up is OWED, in the order in which they became owed (R30); signals,
the channels whose queues owe a space signal within the step under way (R171), empty between steps; choices, the number of
open choices made so far (Config.openChoice); pending, the queue of commands; and linkOut, what the console link shifted out
in the last transfer (assumption 37). So are waitingFor of a crew, linked of a queue entry and ranOut of a channel (Types.lean). -/
structure State where
  crews         : List Crew
  workers       : List Worker
  orders        : List Order
  assignments   : Word32
  devices       : List Device
  permits       : List Permit
  serialCounter : Nat
  chans         : Four Channel
  textCounter   : Nat
  held          : Option (List Byte)
  responseLost  : Bool
  notices       : List Notice
  overflow      : Bool
  clock         : Word32
  params        : Params
  attn          : Bool
  linkOut       : List Byte
  alarmOrder    : List AlarmRef
  owed          : List Nat
  signals       : List Chan
  choices       : Nat
  pending       : List Instr
  deriving DecidableEq, Repr

/-- A channel after power-on reset (7.2, R29, R68, R98, R119, R136, R138, R162, R178, R188). The READY and CARRIER inputs are
driven from outside; the model starts them inactive (assumption 3). -/
def Channel.reset : Channel where
  state        := .off
  attempt      := none
  replyWindow  := none
  repeatWait   := none
  origin       := none
  failover     := none
  failback     := none
  groupSeq     := 0
  flowHold     := false
  ready        := false
  carrier      := false
  carrierSpent := false
  ranOut       := false
  key          := false
  txFrame      := []
  afterAnswer  := none
  queue        := []
  admissions   := 0
  alarmSet     := []
  permitDefer  := []
  orderDefer   := []
  assembly     := none
  mailbox      := []

/-- The defaults of the operating parameters (R199). -/
def Params.reset : Params where
  attemptLimit        := 3
  retryHoldOff        := 5
  replyWindow         := 600
  repeatWait          := 800
  blockAllowance      := 2
  reachThreshold      := 3
  failoverTime        := 60
  highMark            := 18
  lowMark             := 10
  alarmRepeats        := 2
  alarmRepeatInterval := 15
  escalationTime      := 120
  highRiskCap         := 900
  promptLead          := 120
  defaultInterval     := 1800
  defaultGrace        := 300
  restLimit           := 3600
  acceptanceTimeout   := 300
  issueLimit          := 3
  readbackWait        := 120

/-- The part right after power-on reset (R1, R2, R21, R47, R62, R98, R138, R162, R178, R188, R191, R198, R199, R202, R204). -/
def State.reset : State where
  crews         := []
  workers       := []
  orders        := []
  assignments   := 0
  devices       := []
  permits       := []
  serialCounter := 1
  chans         := ⟨Channel.reset, Channel.reset, Channel.reset, Channel.reset⟩
  textCounter   := 1
  held          := none
  responseLost  := false
  notices       := []
  overflow      := false
  clock         := 0
  params        := Params.reset
  attn          := false
  linkOut       := []
  alarmOrder    := []
  owed          := []
  signals       := []
  choices       := 0
  pending       := []

end Sys2Proof.Machine
end

