-- ==== Sys2Proof/Machine/Codes.lean ====
section
/-! DEFINITION. The codes of the part's enumerations on its links: as the owning chapter gives them, and otherwise by the position at which the chapter first names the value, from 1, with 0 for none (10.6). -/

namespace Sys2Proof.Machine

/-- Reachability (1.7). -/
def Reach.code : Reach → Nat
  | .reachable => 1 | .suspect => 2 | .lost => 3

/-- Watch states (5.1). -/
def WatchState.code : WatchState → Nat
  | .off => 1 | .watching => 2 | .resting => 3 | .due => 4 | .alarm => 5 | .acknowledged => 6

/-- Crew alarms (5.1); NONE is coded 0. -/
def CrewAlarm.code : CrewAlarm → Nat
  | .none => 0 | .raised => 1 | .acknowledged => 2

/-- Alarm causes (6.7). -/
def AlarmCause.code : AlarmCause → Nat
  | .panic => 1 | .manDown => 2 | .timeout => 3

/-- Prompt statuses (5.1). -/
def PromptStatus.code : PromptStatus → Nat
  | .queued => 1 | .inFlight => 2 | .delivered => 3 | .notSent => 4 | .failed => 5

/-- Priorities (2.1); the code is the rank. -/
def Priority.code : Priority → Nat
  | .emergency => 1 | .urgent => 2 | .routine => 3 | .deferred => 4

/-- The priority of a code, none outside 1..4 (R22). -/
def priorityOf : Nat → Option Priority
  | 1 => some .emergency | 2 => some .urgent | 3 => some .routine | 4 => some .deferred | _ => none

/-- Order states (2.2). -/
def OrderState.code : OrderState → Nat
  | .opened => 1 | .assigned => 2 | .sent => 3 | .delivered => 4 | .accepted => 5 | .blocked => 6
  | .working => 7 | .complete => 8 | .returned => 9 | .undelivered => 10 | .cancelled => 11

/-- Deferral causes (2.1). -/
def Deferral.code : Deferral → Nat
  | .flow => 1 | .full => 2 | .lost => 3

/-- Return causes (2.1). -/
def ReturnCause.code : ReturnCause → Nat
  | .declined => 1 | .unable => 2

/-- Telegram links (2.1). -/
def Link.code : Link → Nat
  | .queued => 1 | .inFlight => 2

/-- Follow-up kinds, by their telegram kind codes (6.7). -/
def FollowKind.code : FollowKind → Nat
  | .cancel => 0x17 | .cleared => 0x18

/-- Follow-up statuses (2.1). -/
def FollowStatus.code : FollowStatus → Nat
  | .owed => 1 | .queued => 2 | .inFlight => 3 | .delivered => 4 | .failed => 5 | .dropped => 6

/-- Device kinds (3.1). -/
def DeviceKind.code : DeviceKind → Nat
  | .breaker => 1 | .switch => 2 | .fuse => 3 | .ground => 4

/-- The device kind of a code, none outside 1..4 (R48). -/
def kindOf : Nat → Option DeviceKind
  | 1 => some .breaker | 2 => some .switch | 3 => some .fuse | 4 => some .ground | _ => none

/-- Positions (3.1). -/
def Position.code : Position → Nat
  | .opened => 1 | .closed => 2

/-- The position of a code, none outside 1..2 (R48, R49). -/
def positionOf : Nat → Option Position
  | 1 => some .opened | 2 => some .closed | _ => none

/-- Actions (3.1, 6.7). -/
def Action.code : Action → Nat
  | .openDevice => 1 | .applyGround => 2 | .hangTag => 3 | .removeTag => 4 | .closeDevice => 5 | .removeGround => 6

/-- Drafted actions (4.2). -/
def Drafted.code : Drafted → Nat
  | .openDevice => 1 | .applyGround => 2

/-- The drafted action of a code, none outside 1..2 (R64). -/
def draftedOf : Nat → Option Drafted
  | 1 => some .openDevice | 2 => some .applyGround | _ => none

/-- Roles of a claim (3.4). -/
def Role.code : Role → Nat
  | .isolation => 1 | .restoration => 2

/-- Claim answers, in the order of the table of R54. -/
def ClaimAnswer.code : ClaimAnswer → Nat
  | .wait => 1 | .tagLimit => 2 | .granted _ => 3

/-- Permit states (4.1). -/
def PermitState.code : PermitState → Nat
  | .draft => 1 | .switching => 2 | .issuing => 3 | .inForce => 4 | .restoring => 5 | .stalled => 6 | .closed => 7

/-- Phases of a stall record, by their own list (4.1), and not by their places in the list of permit states (assumption 13). -/
def Phase.code : Phase → Nat
  | .switching => 1 | .issuing => 2 | .restoring => 3

/-- Stall causes (4.1). -/
def StallCause.code : StallCause → Nat
  | .unable => 1 | .undelivered => 2 | .readback => 3 | .tagLimit => 4

/-- Permit telegram statuses (4.1). -/
def TgStatus.code : TgStatus → Nat
  | .deferred => 1 | .queued => 2 | .inFlight => 3 | .delivered => 4 | .failed => 5 | .dropped => 6

/-- Surrender answers (R83). -/
def SurrenderAnswer.code : SurrenderAnswer → Nat
  | .granted => 1 | .held => 2 | .denied => 3

/-- Surrender reasons (R83). -/
def SurrenderReason.code : SurrenderReason → Nat
  | .ordersOpen => 1 | .alarm => 2 | .notHolder => 3 | .notInForce => 4

/-- Telegram kinds the part sends (6.7). -/
def TgKind.code : TgKind → Nat
  | .order => 0x11 | .stepInstruct => 0x12 | .permitIssue => 0x13 | .permitClosed => 0x14 | .surrenderAnswer => 0x15
  | .checkPrompt => 0x16 | .orderCancel => 0x17 | .orderCleared => 0x18 | .alarmCall => 0x19 | .text => 0x30

/-- Telegram classes (10.6); the code is the rank. -/
def TgClass.code : TgClass → Nat
  | .emergency => 1 | .safety => 2 | .order => 3 | .text => 4

/-- Channel states (7.2). -/
def ChState.code : ChState → Nat
  | .off => 1 | .down => 2 | .idle => 3 | .sending => 4 | .awaitReply => 5 | .receiving => 6 | .answering => 7
  | .awaitRepeat => 8

/-- Statuses of a response (10.6). -/
def Status.code : Status → Nat
  | .ok => 0 | .adjusted => 1 | .notFound => 2 | .duplicate => 3 | .full => 4 | .badState => 5 | .badValue => 6
  | .conflict => 7 | .held => 8 | .frameError => 9 | .unknownRequest => 10

/-- Causes of an ORDER_STATE notice, in the order R23 names them, the two return causes each taking a place (assumption 13). -/
def OrderCause.code : OrderCause → Nat
  | .declined => 1 | .unable => 2 | .failed => 3 | .rejected => 4 | .cancel => 5 | .preempted => 6 | .evicted => 7

/-- Causes of a PERMIT_STATE notice, in the order R66 names them, the four stall causes standing in their place. -/
def PermitCause.code : PermitCause → Nat
  | .start => 1 | .stepsDone => 2 | .readbackOk => 3 | .granted => 4 | .restored => 5
  | .stalled c => 5 + c.code
  | .retry => 10 | .cancel => 11 | .answerFailed => 12 | .closeFailed => 13 | .holder => 14

/-- Causes of a crew move (R10). -/
def MoveCause.code : MoveCause → Nat
  | .setChannels => 1 | .failover => 2 | .failback => 3 | .disable => 4

/-- Causes of a CHANNEL_STATE notice (R139). -/
def ChannelCause.code : ChannelCause → Nat
  | .request => 1 | .ready => 2

/-- Causes of a WATCH_STATE notice (R99). -/
def WatchCause.code : WatchCause → Nat
  | .request => 1 | .telegram => 2 | .expiry => 3 | .member => 4

/-- Reasons of a STEP_REPORT_IGNORED notice (R73). -/
def IgnoreReason.code : IgnoreReason → Nat
  | .unknownPermit => 1 | .notHolder => 2 | .badOutcome => 3 | .notOutstanding => 4

/-- Causes of a failed attempt (7.4). -/
def FailCause.code : FailCause → Nat
  | .carrierLost => 1 | .noReply => 2 | .collision => 3 | .busy => 4 | .blocksExhausted => 5

/-- Why a TEXT was dropped, in the order of the table of R173. -/
def DropReason.code : DropReason → Nat
  | .evicted => 1 | .flushed => 2 | .signedOff => 3 | .moved => 4

/-- The result of a TEXT, in the order of the table of R173. -/
def TextOutcome.code : TextOutcome → Nat
  | .delivered => 1 | .rejected _ => 2 | .failed _ => 3 | .sent => 4 | .dropped _ => 5

/-- The cause or reason that goes with a TEXT's result (R173). -/
def TextOutcome.causeCode : TextOutcome → Nat
  | .delivered => 0 | .rejected c => c | .failed c => c.code | .sent => 0 | .dropped r => r.code

/-- The old state of an ALARM notice (R114). -/
def AlarmOld.code : AlarmOld → Nat
  | .worker w => w.code | .crew a => a.code

/-- The code of an optional enumeration: 0 for none (10.6) (assumption 13). -/
def codeOf {α : Type} (code : α → Nat) : Option α → Nat
  | none => 0
  | some a => code a

end Sys2Proof.Machine
end

