-- ==== Sys2Proof/Machine/Telegram.lean ====
section
/-! DEFINITION. Field telegrams on the air (Chapter 6): frames, blocks and their checks, the judgement of a received frame, and the bodies the part sends. -/

namespace Sys2Proof.Machine

/-- The header fields of a frame (R123). -/
structure Header where
  kind : Nat
  flags : Nat
  dest : Nat
  mask : Nat
  src  : Nat
  seq  : Seq
  len  : Nat
  map  : Nat
  deriving DecidableEq, Repr

/-- A well-formed frame as received: its header and its good blocks, by number (R126). -/
structure Frame where
  header : Header
  good   : List (Nat × List Byte)
  deriving DecidableEq, Repr

/-- The number of blocks of a body of n bytes (R122). -/
def blockCount (n : Nat) : Nat := (n + 15) / 16

/-- The size of block j of a body of n bytes (R122). -/
def blockSize (n j : Nat) : Nat := min 16 (n - 16 * j)

/-- The bytes of block j of a body (R122). -/
def blockBytes (body : List Byte) (j : Nat) : List Byte := (body.drop (16 * j)).take 16

/-- The block check: the final A of the pair sum over the block's bytes (R126). -/
def blockCheck (bs : List Byte) : Byte := BitVec.ofNat 8 (pairAcc bs).1

/-- The block map that names a list of blocks (R123). -/
def mapOf (blocks : List Nat) : Nat := blocks.foldl (fun m j => m ||| 2 ^ j) 0

/-- The map with bits 0..b - 1 set (R128, R181). -/
def fullMap (b : Nat) : Nat := 2 ^ b - 1

/-- The first eleven bytes of a header (6.7). -/
def headerBytes (h : Header) : List Byte :=
  u8 h.kind ++ u8 h.flags ++ u16 h.dest ++ u16 h.mask ++ u16 h.src ++ u8 h.seq.toNat ++ u8 h.len ++ u8 h.map

/-- A whole frame: the header, its check, then each carried block with its check, in ascending order (R122). -/
def frameBytes (h : Header) (body : List Byte) (blocks : List Nat) : List Byte :=
  headerBytes h ++ checkBytes (headerBytes h)
    ++ (blocks.map fun j => blockBytes body j ++ [blockCheck (blockBytes body j)]).flatten

/-- The header of a received frame, or none when the frame is malformed (R127): fewer than 13 bytes, a header check that
fails (R125), an address field above 8191, or a body length above 80. -/
def readHeader : List Byte → Option Header
  | k :: f :: d1 :: d0 :: m1 :: m0 :: s1 :: s0 :: q :: n :: bm :: cb :: ca :: _ =>
    if checkBytes [k, f, d1, d0, m1, m0, s1, s0, q, n, bm] = [cb, ca]
        ∧ be16 d1 d0 ≤ 8191 ∧ be16 m1 m0 ≤ 8191 ∧ be16 s1 s0 ≤ 8191 ∧ n.toNat ≤ 80 then
      some { kind := k.toNat, flags := f.toNat, dest := be16 d1 d0, mask := be16 m1 m0, src := be16 s1 s0,
             seq := q.setWidth 4, len := n.toNat, map := bm.toNat }
    else none
  | _ => none

/-- The blocks a frame carries: those among 0..b - 1 whose map bits are set (R124). -/
def Header.carried (h : Header) : List Nat := (List.range (blockCount h.len)).filter fun j => h.map.testBit j

/-- The length of a frame, known from its header alone (R122). -/
def Header.extent (h : Header) : Nat := 13 + (h.carried.map fun j => blockSize h.len j + 1).sum

/-- The group mark (R123, 6.7). -/
def Header.group (h : Header) : Bool := h.flags.testBit 0

/-- A frame addressed to the base station: group mark clear and destination 0 (R133). -/
def Header.toBase (h : Header) : Bool := !h.group && h.dest == 0

/-- The good blocks among the carried ones: every byte and the check byte arrived, and the check fits (R126). -/
def goodBlocks (n : Nat) : List Nat → List Byte → List (Nat × List Byte)
  | [], _ => []
  | j :: js, bs =>
    match bs.drop (blockSize n j) with
    | [] => []
    | c :: rest =>
      if blockCheck (bs.take (blockSize n j)) = c then (j, bs.take (blockSize n j)) :: goodBlocks n js rest
      else goodBlocks n js rest

/-- The frame received, or none when it is malformed (R126, R127). -/
def readFrame (bytes : List Byte) : Option Frame :=
  (readHeader bytes).map fun h => { header := h, good := goodBlocks h.len h.carried (bytes.drop 13) }

/-- Whether reception is over (R141): CARRIER is inactive, or every byte the header names has arrived. A whole header that
fails its tests names nothing to wait for (assumption 9). -/
def receptionOver (carrier : Bool) (bytes : List Byte) : Bool :=
  !carrier || (13 ≤ bytes.length && match readHeader bytes with
    | none => true
    | some h => decide (h.extent ≤ bytes.length))

/-- A block of a received frame, if it is good. -/
def Frame.block? (f : Frame) (j : Nat) : Option (List Byte) := (f.good.find? fun p => p.1 == j).map (·.2)

/-- The answer code and good-block map of a readable ANSWER (R129). -/
def Frame.answer? (f : Frame) : Option (Nat × Nat) :=
  if f.header.kind = 1 ∧ f.header.len = 2 then
    match f.block? 0 with
    | some [code, m] => if 1 ≤ code.toNat ∧ code.toNat ≤ 4 then some (code.toNat, m.toNat) else none
    | _ => none
  else none

/-- The answer code and map when the frame is the answer to a telegram sent to a unit under a sequence: readable, addressed to
the base station, from that unit and under that sequence (R129, R133). -/
def Frame.answerTo? (f : Frame) (unit : Nat) (seq : Seq) : Option (Nat × Nat) :=
  if f.header.toBase ∧ f.header.src = unit ∧ f.header.seq = seq then f.answer? else none

/-- The blocks among 0..b - 1 whose bits are clear in a good-block map (R145). -/
def missingBlocks (b m : Nat) : List Nat := (List.range b).filter fun j => !m.testBit j

/-- The answer codes (R128). -/
def ackCode : Nat := 1
def nakBusyCode : Nat := 2
def nakRejectedCode : Nat := 3
def nakUnknownCode : Nat := 4

/-- An ANSWER frame of the part: source 0, all marks clear, one block (R128, R154). -/
def answerFrame (dest : Nat) (seq : Seq) (code map : Nat) : List Byte :=
  frameBytes { kind := 1, flags := 0, dest := dest, mask := 0, src := 0, seq := seq, len := 2, map := 1 }
    (u8 code ++ u8 map) [0]

/-- A frame of an outbound telegram that carries the given blocks of its body (R123, R124, R133, R134): the answer-expected
mark on individual telegrams, the group mark on group telegrams, the repeat mark on repeat frames. -/
def telegramFrame (kind : TgKind) (addr : Addr) (seq : Seq) (body : List Byte) (rpt : Bool) (blocks : List Nat) : List Byte :=
  match addr with
  | .crew _ unit =>
    frameBytes { kind := kind.code, flags := if rpt then 6 else 2, dest := unit, mask := 0, src := 0, seq := seq,
                 len := body.length, map := mapOf blocks } body blocks
  | .group selector mask =>
    frameBytes { kind := kind.code, flags := if rpt then 5 else 1, dest := selector, mask := mask, src := 0, seq := seq,
                 len := body.length, map := mapOf blocks } body blocks

/-- Every block of a body (R143). -/
def allBlocks (body : List Byte) : List Nat := List.range (blockCount body.length)

/-! ### The bodies the part sends (R131) -/

/-- ORDER: number, priority, bound serial or 0, text length, text. -/
def orderBody (o : Order) : List Byte :=
  u16 o.number ++ u8 o.priority.code ++ u16 (o.bound.getD 0) ++ u8 o.text.length ++ o.text

/-- ORDER_CANCEL: number. ORDER_CLEARED: number and bound serial. -/
def followUpBody (o : Order) : FollowKind → List Byte
  | .cancel => u16 o.number
  | .cleared => u16 o.number ++ u16 (o.bound.getD 0)

/-- STEP_INSTRUCT: serial, index, device, derived action. -/
def instructBody (serial : Nat) (i : Outstanding) : List Byte :=
  u16 serial ++ u8 i.index ++ u16 i.device ++ u8 i.action.code

/-- PERMIT_ISSUE: serial, digest, step count, devices in step order. -/
def issueBody (p : Permit) : List Byte :=
  u16 p.serial ++ u16 (p.digest.getD 0) ++ u8 p.steps.length ++ (p.steps.map fun t => u16 t.device).flatten

/-- SURRENDER_ANSWER: serial, answer, reason. -/
def surrenderBody (serial : Nat) (a : SurrenderAnswer) (r : Option SurrenderReason) : List Byte :=
  u16 serial ++ u8 a.code ++ u8 (codeOf SurrenderReason.code r)

/-- CHECK_PROMPT: overdue flag, badge count, badges. -/
def promptBody (overdue : Bool) (badges : List Nat) : List Byte :=
  mark overdue ++ u8 badges.length ++ (badges.map u16).flatten

/-- The length of an entry's body: 0 for an ALARM_CALL, whose body is built at each send (10.6). -/
def Body.length : Body → Nat
  | .bytes b => b.length
  | .prompt _ bs => 2 + 2 * bs.length
  | .atSend => 0

/-! ### Kind codes of telegrams from crews (6.7) -/

def kindOrderReply : Nat := 0x21
def kindCheckIn : Nat := 0x22
def kindRest : Nat := 0x23
def kindResume : Nat := 0x24
def kindEmergency : Nat := 0x25
def kindStepReport : Nat := 0x26
def kindReadback : Nat := 0x27
def kindSurrender : Nat := 0x28
def kindText : Nat := 0x30
def kindAnswer : Nat := 0x01

end Sys2Proof.Machine
end

