-- ==== Sys2Proof/Machine/Ops.lean ====
section
/-! DEFINITION. The shared operations on the part's records: keyed tables, the four channels, posting a notice (R202), and open choices. -/

namespace Sys2Proof.Machine

/-! ### Keyed tables: lists of records by rising key -/

/-- The record of a key. -/
def tFind {α : Type} (key : α → Nat) (k : Nat) (l : List α) : Option α := l.find? fun a => key a == k

/-- A record entered in its place by rising key, replacing one of the same key. -/
def tPut {α : Type} (key : α → Nat) (a : α) : List α → List α
  | [] => [a]
  | b :: bs =>
    if key a < key b then a :: b :: bs
    else if key a = key b then a :: bs
    else b :: tPut key a bs

/-- The table without the record of a key. -/
def tDel {α : Type} (key : α → Nat) (k : Nat) (l : List α) : List α := l.filter fun a => key a != k

/-- The table with the record of a key changed. -/
def tMod {α : Type} (key : α → Nat) (k : Nat) (f : α → α) (l : List α) : List α :=
  l.map fun a => if key a = k then f a else a

def State.crew? (s : State) (slot : Nat) : Option Crew := tFind Crew.slot slot s.crews
def State.worker? (s : State) (badge : Nat) : Option Worker := tFind Worker.badge badge s.workers
def State.order? (s : State) (n : Nat) : Option Order := tFind Order.number n s.orders
def State.device? (s : State) (n : Nat) : Option Device := tFind Device.number n s.devices
def State.permit? (s : State) (serial : Nat) : Option Permit := tFind Permit.serial serial s.permits

/-- The crew whose unit address is given (R1: no two crews hold the same). -/
def State.crewOfUnit? (s : State) (unit : Nat) : Option Crew := s.crews.find? fun k => k.unit == unit

def State.modCrew (s : State) (slot : Nat) (f : Crew → Crew) : State := { s with crews := tMod Crew.slot slot f s.crews }
def State.modWorker (s : State) (badge : Nat) (f : Worker → Worker) : State :=
  { s with workers := tMod Worker.badge badge f s.workers }
def State.modOrder (s : State) (n : Nat) (f : Order → Order) : State := { s with orders := tMod Order.number n f s.orders }
def State.modDevice (s : State) (n : Nat) (f : Device → Device) : State :=
  { s with devices := tMod Device.number n f s.devices }
def State.modPermit (s : State) (serial : Nat) (f : Permit → Permit) : State :=
  { s with permits := tMod Permit.serial serial f s.permits }

/-! ### The four channels -/

/-- The thing of one channel. -/
def Four.get {α : Type} (v : Four α) (c : Chan) : α :=
  match c with
  | 0 => v.c0 | 1 => v.c1 | 2 => v.c2 | 3 => v.c3

/-- The four with one channel's thing replaced. -/
def Four.set {α : Type} (v : Four α) (c : Chan) (a : α) : Four α :=
  match c with
  | 0 => { v with c0 := a } | 1 => { v with c1 := a } | 2 => { v with c2 := a } | 3 => { v with c3 := a }

/-- A change made to each of the four. -/
def Four.map {α β : Type} (f : α → β) (v : Four α) : Four β := ⟨f v.c0, f v.c1, f v.c2, f v.c3⟩

/-- The channel numbers, ascending. -/
def allChans : List Chan := [0, 1, 2, 3]

/-- The channel a number names, none above 3. -/
def chanOf (n : Nat) : Option Chan := if h : n < 4 then some ⟨n, h⟩ else none

def State.chan (s : State) (c : Chan) : Channel := s.chans.get c
def State.modChan (s : State) (c : Chan) (f : Channel → Channel) : State :=
  { s with chans := s.chans.set c (f (s.chans.get c)) }
def State.modChans (s : State) (f : Channel → Channel) : State := { s with chans := s.chans.map f }

/-- A channel is in service while it is neither OFF nor DOWN (R139). -/
def ChState.inService : ChState → Bool
  | .off | .down => false
  | _ => true

def State.inService (s : State) (c : Chan) : Bool := (s.chan c).state.inService

/-- A channel enters a state. No frame is on the transmit data line outside SENDING and ANSWERING (R137). -/
def State.enter (s : State) (c : Chan) (st : ChState) : State :=
  s.modChan c fun ch => { ch with state := st, txFrame := [] }

/-! ### Notices (R202) -/

/-- The alarm class: ALARM, ALARM_ESCALATED and STRANGER_EMERGENCY (R202). -/
def Subject.isAlarm : Subject → Bool
  | .alarm .. | .alarmEscalated .. | .strangerEmergency .. => true
  | _ => false

/-- The notices without the oldest ordinary one; none when every notice is of alarm class. -/
def dropOldestOrdinary : List Notice → Option (List Notice)
  | [] => none
  | n :: ns => if n.subject.isAlarm then (dropOldestOrdinary ns).map (n :: ·) else some ns

/-- A notice is posted (R202). -/
def State.post (s : State) (n : Subject) : State :=
  if s.notices.length < 64 then { s with notices := s.notices ++ [⟨s.clock, n⟩] }
  else if n.isAlarm then
    match dropOldestOrdinary s.notices with
    | some ns => { s with notices := ns ++ [⟨s.clock, n⟩], overflow := true }
    | none => { s with overflow := true }
  else { s with overflow := true }

/-! ### Open choices -/

/-- A list in an order the manual leaves open: every order is possible, and which one it is cannot be proved. A list of at
most one item has no choice in it. The first argument numbers the choices, the second bounds them. -/
def openOrder {α : Type} (n : Nat) : Nat → List α → List α
  | 0, l => l
  | fuel + 1, l =>
    match l with
    | [] => []
    | [a] => [a]
    | a :: b :: r =>
      match (a :: b :: r)[Config.openChoice n % (r.length + 2)]? with
      | some x => x :: openOrder (n + 1) fuel ((a :: b :: r).eraseIdx (Config.openChoice n % (r.length + 2)))
      | none => a :: b :: r

/-- Each item of a list, taken in an open order, acts on the state (assumption 34). -/
def State.inOpenOrder {α : Type} (s : State) (l : List α) (f : State → α → State) : State :=
  (openOrder s.choices l.length l).foldl f { s with choices := s.choices + (l.length - 1) }

end Sys2Proof.Machine
end

