-- ==== Sys2Proof/Machine/Devices.lean ====
section
/-! DEFINITION. The Device Table (Chapter 3): isolation positions, claims and their derived actions (R54 to R56), and what a release does to the device (R57, R58). -/

namespace Sys2Proof.Machine

/-- The isolation position of a kind (3.1). -/
def DeviceKind.isolation : DeviceKind → Position
  | .ground => .closed
  | _ => .opened

def Device.isolation (d : Device) : Position := d.kind.isolation

/-- The other position. -/
def Position.opposite : Position → Position
  | .opened => .closed
  | .closed => .opened

/-- The action of a drafted step. -/
def Drafted.action : Drafted → Action
  | .openDevice => .openDevice
  | .applyGround => .applyGround

/-- The action of an isolation claim (R55). -/
def Device.isolationAction (d : Device) (drafted : Drafted) : Action :=
  if d.position = d.isolation then .hangTag else drafted.action

/-- The action of a restoration claim by a permit (R56). -/
def Device.restorationAction (d : Device) (serial : Nat) : Action :=
  if d.tags.any fun t => t != serial then .removeTag
  else if d.restore = some d.isolation then .removeTag
  else if d.kind = .ground then .removeGround
  else .closeDevice

/-- What a claim asks for: isolation with the step's drafted action, or restoration (3.4). -/
inductive ClaimFor where
  | isolation (drafted : Drafted)
  | restoration
  deriving DecidableEq, Repr

/-- A claim on a device decided (R54): the device after it, and the answer. -/
def Device.claim (d : Device) (serial : Nat) (what : ClaimFor) : Device × ClaimAnswer :=
  match d.pending with
  | some _ => ({ d with waits := if d.waits.contains serial then d.waits else d.waits ++ [serial] }, .wait)
  | none =>
    match what with
    | .isolation drafted =>
      if 8 ≤ d.tags.length then (d, .tagLimit)
      else ({ d with pending := some (serial, d.isolationAction drafted), waits := d.waits.erase serial },
            .granted (d.isolationAction drafted))
    | .restoration =>
      ({ d with pending := some (serial, d.restorationAction serial), waits := d.waits.erase serial },
       .granted (d.restorationAction serial))

/-- The device after a DONE report of its pending instruction (R57, R52, R53). -/
def Device.applyDone (d : Device) : Device :=
  match d.pending with
  | none => d
  | some (serial, a) =>
    let hung := d.tags ++ [serial]
    let left := d.tags.erase serial
    match a with
    | .openDevice | .applyGround =>
      { d with
        position := d.isolation
        tags := hung
        restore := if d.tags.isEmpty then some d.position else d.restore }
    | .hangTag => { d with tags := hung, restore := if d.tags.isEmpty then some d.position else d.restore }
    | .closeDevice | .removeGround => { d with position := d.restore.getD d.position, tags := left, restore := none }
    | .removeTag => { d with tags := left, restore := if left.isEmpty then none else d.restore }

/-- A claim made on the device of a number, if it is loaded. -/
def State.claim (s : State) (n serial : Nat) (what : ClaimFor) : State × ClaimAnswer :=
  match s.device? n with
  | none => (s, .wait)
  | some d => (s.modDevice n fun d => (d.claim serial what).1, (d.claim serial what).2)

/-- A permit leaves any wait list it stands on (R60). -/
def State.leaveWaits (s : State) (serial : Nat) : State :=
  { s with devices := s.devices.map fun d => { d with waits := d.waits.erase serial } }

end Sys2Proof.Machine
end

