-- ==== Sys2Proof/Machine/Queue.lean ====
section
/-! DEFINITION. The Outbound Queues (Chapter 8): list order (R163), selection (R164), admission and its victims (R165, R166), the flow hold (R168), withdrawal (R170), and the space signals owed (R171). -/

namespace Sys2Proof.Machine

/-- The channels that owe a space signal are put down. -/
def State.withSignals (s : State) (l : List Chan) : State := { s with signals := l }

/-- The queue of a channel owes a space signal, given when the event under way has been taken whole (R171). -/
def State.signal (s : State) (c : Chan) : State :=
  if s.signals.contains c then s else s.withSignals (s.signals ++ [c])

/-- The flow hold is re-evaluated after a change of depth or of the marks; a hold that clears owes the space signal (R168). -/
def State.flowEval (s : State) (c : Chan) : State :=
  if s.params.highMark ≤ (s.chan c).queue.length then s.modChan c fun ch => { ch with flowHold := true }
  else if (s.chan c).queue.length ≤ s.params.lowMark ∧ (s.chan c).flowHold then
    (s.modChan c fun ch => { ch with flowHold := false }).signal c
  else s

/-- An entry takes its place at the end of its class (R163). -/
def insertEntry (e : Entry) : List Entry → List Entry
  | [] => [e]
  | x :: xs => if e.cls.code < x.cls.code then e :: x :: xs else x :: insertEntry e xs

/-- Selection: the first entry in list order whose hold-off is 0 (R164). -/
def select (q : List Entry) : Option Entry := q.find? fun e => e.holdOff == 0

/-- The newest entry of a kind of victim that is not in flight: the last such in the list (R163, R166). -/
def newest (p : Entry → Bool) (q : List Entry) : Option Entry := (q.filter fun e => !e.inFlight && p e).getLast?

/-- The victim of an eviction (R166). -/
def victim (q : List Entry) (cls : TgClass) (kind : TgKind) : Option Entry :=
  match cls with
  | .emergency => newest (fun e => e.cls != .emergency) q
  | .safety =>
    (newest (fun e => e.cls == .text) q).or <|
    (newest (fun e => e.cls == .order) q).or <|
    if kind = .checkPrompt then none else newest (fun e => e.kind == .checkPrompt) q
  | .order | .text => none

/-- The queue's answer to an offer: admitted, after evicting a victim or none, or not admitted with a reason (R165). -/
def verdict (ch : Channel) (cls : TgClass) (kind : TgKind) : Except Deferral (Option Entry) :=
  if ch.queue.length < 24 then
    match cls with
    | .emergency | .safety => .ok none
    | .order | .text => if ch.flowHold then .error .flow else .ok none
  else
    match victim ch.queue cls kind with
    | some v => .ok (some v)
    | none => .error .full

/-- A telegram to a crew takes the crew's outbound sequence, which advances; a group telegram takes none (R17, R162). -/
def State.takeSeq (s : State) (e : Entry) : State × Entry :=
  match e.addr with
  | .crew slot _ =>
    match s.crew? slot with
    | some k => (s.modCrew slot fun k => { k with outSeq := k.outSeq + 1 }, { e with seq := some k.outSeq })
    | none => (s, e)
  | .group _ _ => (s, { e with seq := none })

/-- An entry enters a queue: it takes the admission counter, which advances, and its place; the hold is re-evaluated (R162). -/
def State.enqueue (s : State) (c : Chan) (e : Entry) : State :=
  (s.modChan c fun ch =>
    { ch with queue := insertEntry { e with admission := ch.admissions } ch.queue, admissions := ch.admissions + 1 }).flowEval c

/-- An offer decided by the queue (R165): the state after it, and the reason it was refused for or the victim it evicted.
A fresh offer takes a sequence; a migrating entry keeps its own (R174). -/
def State.tryAdmit (s : State) (c : Chan) (e : Entry) (fresh : Bool) : State × Except Deferral (Option Entry) :=
  match verdict (s.chan c) e.cls e.kind with
  | .error r => (s, .error r)
  | .ok v =>
    let s1 := match v with
      | some x => s.modChan c fun ch => { ch with queue := ch.queue.erase x }
      | none => s
    let (s2, e2) := if fresh then s1.takeSeq e else (s1, e)
    (s2.enqueue c e2, .ok v)

/-- Entries not in flight that satisfy a test leave the queue of a channel: the hold is re-evaluated and the space signal is
owed if any left (R170, R171). -/
def State.withdrawOn (s : State) (c : Chan) (p : Entry → Bool) : State :=
  if (s.chan c).queue.any fun e => !e.inFlight && p e then
    ((s.modChan c fun ch => { ch with queue := ch.queue.filter fun e => !(!e.inFlight && p e) }).flowEval c).signal c
  else s

/-- A withdrawal, wherever the entry waits (R170). -/
def State.withdraw (s : State) (p : Entry → Bool) : State := allChans.foldl (fun t c => t.withdrawOn c p) s

/-- Each entry of every queue that satisfies a test is changed in its place. -/
def State.modEntries (s : State) (p : Entry → Bool) (f : Entry → Entry) : State :=
  s.modChans fun ch => { ch with queue := ch.queue.map fun e => if p e then f e else e }

/-- The first entry of a queue that satisfies a test is changed in its place. -/
def modFirst (p : Entry → Bool) (f : Entry → Entry) : List Entry → List Entry
  | [] => []
  | e :: es => if p e then f e :: es else e :: modFirst p f es

/-- An owner ceases to link its telegram in flight (R170). -/
def State.unlink (s : State) (o : Owner) : State :=
  s.modEntries (fun e => e.inFlight && e.owner == o) fun e => { e with linked := false }

/-- An entry leaves its queue at the end of its delivery; the slot it frees owes the space signal (R151, R171). -/
def State.removeEntry (s : State) (c : Chan) (e : Entry) : State :=
  ((s.modChan c fun ch => { ch with queue := ch.queue.erase e }).flowEval c).signal c

/-- The fields an entry is offered with (R162). -/
def newEntry (owner : Owner) (kind : TgKind) (cls : TgClass) (addr : Addr) (body : Body) (repeats : Option Nat) : Entry where
  owner      := owner
  kind       := kind
  cls        := cls
  addr       := addr
  seq        := none
  body       := body
  attempts   := 0
  holdOff    := 0
  blocksSent := 0
  repeats    := repeats
  rearm      := false
  inFlight   := false
  orphan     := false
  admission  := 0
  linked     := true

/-- The crew slot an entry is addressed to. -/
def Addr.slot? : Addr → Option Nat
  | .crew slot _ => some slot
  | .group _ _ => none

/-- Entries addressed to a crew that has not signed off since (8.1). -/
def Entry.isFor (e : Entry) (slot : Nat) : Bool := e.addr.slot? == some slot && !e.orphan

/-- The address of a crew (assumption 36). -/
def Crew.addr (k : Crew) : Addr := .crew k.slot k.unit

end Sys2Proof.Machine
end

