-- ==== Sys2Proof/Machine/Offers.lean ====
section
/-! DEFINITION. Offering telegrams to the Outbound Queues, and what owners do with entries that come back to them: the offer of an order head (R28), eviction (R166, R167), setting an order back (R33, R175, R177), deferral lists (R29, R68), the preemption check (R36, R37) and follow-ups (R44). -/

namespace Sys2Proof.Machine

/-- An order is changed while it stands in a state. -/
def State.modOrderIn (s : State) (n : Nat) (st : OrderState) (f : Order → Order) : State :=
  s.modOrder n fun o => if o.state = st then f o else o

/-- The orders whose follow-up is OWED, in the order in which they became so, are put down. -/
def State.withOwed (s : State) (l : List Nat) : State := { s with owed := l }

/-! ### Deferral lists -/

/-- The head of a crew queue. -/
def State.headOf (s : State) (k : Crew) : Option Order := k.queue.head?.bind s.order?

/-- Whether an order's follow-up is OWED to a crew. -/
def Order.owedTo (o : Order) (slot : Nat) : Bool := o.crew == some slot && o.followUp.any fun f => f.2 == .owed

/-- Whether a crew's head is ASSIGNED with a deferral cause. -/
def State.headDeferred (s : State) (k : Crew) : Bool :=
  (s.headOf k).any fun o => o.state == .assigned && o.deferral.isSome

/-- The condition for a place on an order deferral list (R29). -/
def State.owesDelivery (s : State) (k : Crew) : Bool := s.headDeferred k || s.orders.any fun o => o.owedTo k.slot

/-- A crew joins the end of the order deferral list of its current channel, keeps its place on it, or leaves it (R29). -/
def State.syncOrderDefer (s : State) (slot : Nat) : State :=
  match s.crew? slot with
  | none => s
  | some k =>
    if s.owesDelivery k then
      if (s.chan k.current).orderDefer.contains slot then s
      else s.modChan k.current fun ch => { ch with orderDefer := ch.orderDefer ++ [slot] }
    else s.modChan k.current fun ch => { ch with orderDefer := ch.orderDefer.erase slot }

/-- Whether any of a permit's telegrams is DEFERRED (R68). -/
def Permit.anyDeferred (p : Permit) : Bool :=
  (p.outstanding.any fun i => i.status == .deferred) || p.issue == some .deferred
    || (p.answer.any fun a => a.status == .deferred) || p.closing == some .deferred

/-- A permit's deferred mark is set or cleared, and the permit joins the end of the permit deferral list of its holder's
current channel, keeps its place, or leaves it (R68). -/
def State.syncPermitDefer (s : State) (serial : Nat) : State :=
  match s.permit? serial with
  | none => s
  | some p =>
    let s1 := s.modPermit serial fun p => { p with deferred := p.anyDeferred }
    match s.crew? p.holder with
    | none => s1
    | some k =>
      if p.anyDeferred then
        if (s.chan k.current).permitDefer.contains serial then s1
        else s1.modChan k.current fun ch => { ch with permitDefer := ch.permitDefer ++ [serial] }
      else s1.modChan k.current fun ch => { ch with permitDefer := ch.permitDefer.erase serial }

/-- One of a permit's telegrams takes a status, where the record holds that telegram (R67). -/
def Permit.setTg (p : Permit) (tg : PermitTg) (st : TgStatus) : Permit :=
  match tg with
  | .instruct => { p with outstanding := p.outstanding.map fun i => { i with status := st } }
  | .issue => { p with issue := some st }
  | .answer => { p with answer := p.answer.map fun a => { a with status := st } }
  | .closing => { p with closing := some st }

/-- The status of one of a permit's telegrams. -/
def Permit.tg? (p : Permit) : PermitTg → Option TgStatus
  | .instruct => p.outstanding.map (·.status)
  | .issue => p.issue
  | .answer => p.answer.map (·.status)
  | .closing => p.closing

def State.setTg (s : State) (serial : Nat) (tg : PermitTg) (st : TgStatus) : State :=
  (s.modPermit serial fun p => p.setTg tg st).syncPermitDefer serial

/-- An order's follow-up becomes OWED, after those that are OWED already (R30, R44). -/
def State.oweFollowUp (s : State) (n : Nat) : State :=
  match s.order? n with
  | none => s
  | some o =>
    let s1 := s.modOrder n fun o => { o with followUp := o.followUp.map fun f => (f.1, .owed) }
    let s2 := if s1.owed.contains n then s1 else s1.withOwed (s1.owed ++ [n])
    match o.crew with
    | some slot => s2.syncOrderDefer slot
    | none => s2

/-- An order's follow-up takes a status other than OWED (R44). -/
def State.setFollowUp (s : State) (n : Nat) (st : FollowStatus) : State :=
  match s.order? n with
  | none => s
  | some o =>
    let s1 := s.modOrder n fun o => { o with followUp := o.followUp.map fun f => (f.1, st) }
    let s2 := s1.withOwed (s1.owed.erase n)
    match o.crew with
    | some slot => s2.syncOrderDefer slot
    | none => s2

/-! ### Workers named by a prompt, and texts -/

/-- Each worker named in a CHECK_PROMPT entry who is still a member of the crew takes a prompt status (R113). -/
def State.setPrompts (s : State) (slot : Nat) (body : Body) (st : PromptStatus) : State :=
  match body with
  | .prompt _ badges =>
    { s with workers := s.workers.map fun w =>
        if w.crew = slot ∧ badges.contains w.badge then { w with prompt := some st } else w }
  | _ => s

/-- TEXT_RESULT for a TEXT entry of a channel (R173). -/
def State.textResult (s : State) (c : Chan) (e : Entry) (r : TextOutcome) : State :=
  match e.owner with
  | .text n =>
    match e.addr with
    | .crew slot _ => s.post (.textResult n (.crew slot) r)
    | .group sel m => s.post (.textResult n (.group c sel m) r)
  | _ => s

/-! ### Entries that come back to their owners -/

/-- An order in SENT goes back to ASSIGNED as head with a deferral cause (R33, R175). The preemption check follows. -/
def State.setBack (check : State → Nat → State) (s : State) (n : Nat) (r : Deferral) : State :=
  match s.order? n with
  | none => s
  | some o =>
    if o.state = .sent then
      let s1 := (s.modOrderIn n .sent fun o =>
        { o with state := .assigned, link := none, deferral := some r, unanswered := false }).post
          (.orderState n o.crew .sent .assigned (some .evicted))
      match o.crew with
      | some slot => check (s1.syncOrderDefer slot) slot
      | none => s1
    else s

/-- An entry that left the queue of a channel by eviction, flush or a refused migration returns to its owner
(R167, R175, R177): with the reason its order head is deferred for, and the reason its text is dropped for. -/
def State.returnToOwner (check : State → Nat → State) (s : State) (c : Chan) (e : Entry) (r : Deferral) (d : DropReason) :
    State :=
  match e.owner with
  | .order n => s.setBack check n r
  | .followUp n => if e.linked then s.oweFollowUp n else s
  | .permit tg serial => if e.linked then s.setTg serial tg .deferred else s
  | .prompt slot => s.setPrompts slot e.body .notSent
  | .text _ => s.textResult c e (.dropped d)
  | .freeAnswer _ | .alarmCall _ => s

/-- An offer to the queue of a channel. Admitted, its owner records it; then the owner of the victim, if there is one, takes
the eviction (R166, R167). Not admitted, its owner takes the reason (assumption 14). -/
def State.offerWith (check : State → Nat → State) (s : State) (c : Chan) (e : Entry) (fresh : Bool)
    (yes : State → State) (no : State → Deferral → State) : State :=
  match s.tryAdmit c e fresh with
  | (s1, .error r) => no s1 r
  | (s1, .ok none) => yes s1
  | (s1, .ok (some v)) => (yes s1).returnToOwner check c v .full .evicted

/-! ### The order head -/

/-- The ORDER entry of an order for a crew (R28). -/
def orderEntry (k : Crew) (o : Order) : Entry :=
  newEntry (.order o.number) .order (if o.priority = .emergency then .safety else .order) k.addr (.bytes (orderBody o)) none

/-- The head is offered (R28): not at all to a LOST crew. -/
def State.offerHeadWith (check : State → Nat → State) (s : State) (slot : Nat) : State :=
  match s.crew? slot with
  | none => s
  | some k =>
    match s.headOf k with
    | none => s
    | some o =>
      if o.state = .assigned then
        if k.reach = .lost then
          (s.modOrderIn o.number .assigned fun o => { o with deferral := some .lost }).syncOrderDefer slot
        else
          s.offerWith check k.current (orderEntry k o) true
            (fun t => ((t.modOrderIn o.number .assigned fun o =>
                { o with state := .sent, link := some .queued, deferral := none }).post
                  (.orderState o.number o.crew .assigned .sent none)).syncOrderDefer slot)
            (fun t r => (t.modOrderIn o.number .assigned fun o => { o with deferral := some r }).syncOrderDefer slot)
      else s

/-! ### Placement and preemption -/

/-- The place of an order among the entries of a queue: its priority rank, then its assignment sequence (R24). -/
def State.rankOf (s : State) (n : Nat) : Nat × Nat :=
  match s.order? n with
  | some o => (o.priority.code, o.asgSeq.toNat)
  | none => (0, 0)

/-- The ordering of R24. -/
def ranksBefore (a b : Nat × Nat) : Bool := a.1 < b.1 || (a.1 == b.1 && a.2 < b.2)

/-- An order placed in a list by the ordering of R24; no other order moves. -/
def State.placeIn (s : State) (n : Nat) : List Nat → List Nat
  | [] => [n]
  | m :: ms => if ranksBefore (s.rankOf n) (s.rankOf m) then n :: m :: ms else m :: s.placeIn n ms

/-- The head and the second entry of a crew queue, when the second is EMERGENCY and the head is not (R36). -/
def State.emergencySecond (s : State) (k : Crew) : Option (Order × Order) :=
  match k.queue with
  | h :: e :: _ =>
    match s.order? h, s.order? e with
    | some ho, some eo => if eo.priority = .emergency ∧ ho.priority ≠ .emergency then some (ho, eo) else none
    | _, _ => none
  | _ => none

/-- A crew queue with its second entry made the head and the old head placed among the rest (R36). -/
def State.secondFirst (s : State) : List Nat → List Nat
  | h :: e :: rest => e :: s.placeIn h rest
  | q => q

/-- Steps 1 to 3 of a preemption (R36): the old head goes back to ASSIGNED, its queued entry withdrawn; the EMERGENCY order
becomes head; the old head is placed among the rest. -/
def State.displaceHead (s : State) (slot : Nat) (h : Order) : State :=
  let s1 := if h.state = .sent then s.withdraw fun x => x.owner == .order h.number else s
  let s2 := s1.modOrderIn h.number h.state fun o =>
    { o with state := .assigned, link := none, acceptance := none, unanswered := false, deferral := none }
  let s3 := s2.modCrew slot fun k => { k with queue := s2.secondFirst k.queue, waitingFor := none }
  if h.state = .assigned then s3 else s3.post (.orderState h.number h.crew h.state .assigned (some .preempted))

/-- The preemption check of a crew queue (R36), and ORDER_WAITING, posted once for each time the EMERGENCY order comes to
stand second behind that WORKING head (R37). The fuel bounds the chain of checks that an eviction by the new head's offer can
start: each check in it makes an EMERGENCY order the head of another crew (assumption 38). -/
def State.checkFueled : Nat → State → Nat → State
  | 0, s, _ => s
  | fuel + 1, s, slot =>
    match s.crew? slot with
    | none => s
    | some k =>
      match s.emergencySecond k with
      | none => s.modCrew slot fun k => { k with waitingFor := none }
      | some (h, e) =>
        let preempt := State.offerHeadWith (State.checkFueled fuel) (s.displaceHead slot h) slot
        match h.state, h.link with
        | .assigned, _ => preempt
        | .sent, some .queued => preempt
        | .delivered, none | .accepted, none | .blocked, none => preempt
        | .working, _ =>
          if k.waitingFor = some (e.number, h.number) then s
          else (s.modCrew slot fun k => { k with waitingFor := some (e.number, h.number) }).post
            (.orderWaiting slot e.number h.number)
        | _, _ => s

/-- The preemption check: one link of the chain for each crew, and one more. -/
def State.check (s : State) (slot : Nat) : State := State.checkFueled 65 s slot

/-- An offer by an owner other than the preemption check. -/
def State.offer (s : State) (c : Chan) (e : Entry) (fresh : Bool) (yes : State → State) (no : State → Deferral → State) :
    State :=
  s.offerWith State.check c e fresh yes no

/-- The head is offered, and the preemption check runs after it (R34, R36). -/
def State.offerHead (s : State) (slot : Nat) : State := (State.offerHeadWith State.check s slot).check slot

/-- Whether an order ranks before every entry of a list (R25). -/
def State.ranksFirst (s : State) (n : Nat) (l : List Nat) : Bool := l.all fun m => ranksBefore (s.rankOf n) (s.rankOf m)

/-- A crew queue with an order placed in it (R25). Before an ASSIGNED head it becomes the head only if it ranks first of the
whole queue, and the head it displaces stands by the ordering among the rest; otherwise the head keeps its place and the order
stands among the entries after it. A head set back by R33 may rank behind those entries, which stay in order (R24). -/
def State.placed (s : State) (n : Nat) : List Nat → List Nat
  | [] => [n]
  | h :: rest =>
    if ((s.order? h).any fun o => o.state == .assigned) && s.ranksFirst n (h :: rest) then n :: s.placeIn h rest
    else h :: s.placeIn n rest

/-- An order is placed in a crew queue (R25). A displaced head loses its deferral cause and a new head is offered. -/
def State.placeOrder (s : State) (slot n : Nat) : State :=
  match s.crew? slot with
  | none => s
  | some k =>
    let s1 := s.modCrew slot fun k => { k with queue := s.placed n k.queue }
    if (s.placed n k.queue).head? = some n then
      let s2 := match k.queue with
        | h :: _ => s1.modOrderIn h .assigned fun o => { o with deferral := none }
        | [] => s1
      State.offerHeadWith State.check s2 slot
    else s1

/-- An order leaves its crew queue. When it was the head, the next head is offered (R34); the preemption check runs (assumption 27). -/
def State.leaveQueue (s : State) (slot n : Nat) : State :=
  match s.crew? slot with
  | none => s
  | some k =>
    let s1 := s.modCrew slot fun k =>
      { k with
        queue := k.queue.erase n
        waitingFor := if k.waitingFor.any fun w => w.1 == n || w.2 == n then none else k.waitingFor }
    if k.queue.head? = some n then (State.offerHeadWith State.check s1 slot |>.syncOrderDefer slot).check slot
    else if k.queue.contains n then s1.check slot
    else s1

/-! ### Follow-ups -/

/-- The kind of an order's follow-up on the air. -/
def FollowKind.tgKind : FollowKind → TgKind
  | .cancel => .orderCancel
  | .cleared => .orderCleared

/-- An order's follow-up is offered to the crew it is assigned to, whatever that crew's reachability (R44). -/
def State.offerFollowUp (s : State) (n : Nat) : State :=
  match s.order? n with
  | none => s
  | some o =>
    match o.followUp, o.crew.bind s.crew? with
    | some (kind, _), some k =>
      s.offer k.current (newEntry (.followUp n) kind.tgKind .safety k.addr (.bytes (followUpBody o kind)) none) true
        (fun t => t.setFollowUp n .queued)
        (fun t _ => t.oweFollowUp n)
    | _, _ => s

/-- A crew's OWED follow-ups, in the order in which they became owed (R12, R30). -/
def State.owedOf (s : State) (slot : Nat) : List Nat :=
  s.owed.filter fun n => (s.order? n).any fun o => o.owedTo slot

/-- A crew's OWED follow-ups are offered, and then its head if it is ASSIGNED and deferred (R12, R16, R30). The head of a LOST
crew is not offered, and on a crew move too it keeps the cause it has (assumption 30). -/
def State.offerOwedAndHead (s : State) (slot : Nat) : State :=
  let s1 := (s.owedOf slot).foldl (fun t n => t.offerFollowUp n) s
  match s1.crew? slot with
  | none => s1
  | some k => if s1.headDeferred k ∧ k.reach ≠ .lost then s1.offerHead slot else s1

end Sys2Proof.Machine
end

