-- ==== Sys2Proof/Machine/Prompts.lean ====
section
/-! DEFINITION. The Watch Unit's intervals and prompts (Chapter 5): the effective interval (R100), the restart of a watch, check prompts and the striking of badges (R112, R113, R6), and the high-risk cut (R104). -/

namespace Sys2Proof.Machine

/-! ### The effective interval (R100) -/

/-- Stage 1: the interval, or the smaller of it and the high-risk cap for a high-risk crew. -/
def stageOne (interval : Nat) (highRisk : Bool) (cap : Nat) : Nat := if highRisk then min interval cap else interval

/-- Stages 1 and 2: halved, but not below 60, from a missed count of 2. -/
def effectiveInterval (interval missed : Nat) (highRisk : Bool) (cap : Nat) : Nat :=
  if missed < 2 then stageOne interval highRisk cap else max 60 (stageOne interval highRisk cap / 2)

/-- Stage 3: the smaller of the prompt lead and half the effective interval. -/
def leadTime (promptLead eff : Nat) : Nat := min promptLead (eff / 2)

/-- The permit states that make a holder high-risk (R104). -/
def PermitState.active : PermitState → Bool
  | .switching | .issuing | .inForce | .restoring => true
  | _ => false

/-- A crew is high-risk while it holds a permit in SWITCHING, ISSUING, IN_FORCE or RESTORING (R104). -/
def State.highRisk (s : State) (slot : Nat) : Bool := s.permits.any fun p => p.holder == slot && p.state.active

/-! ### Check prompts -/

/-- A CHECK_PROMPT entry of a crew that is not in flight. -/
def Entry.openPrompt (e : Entry) (slot : Nat) : Bool := e.owner == .prompt slot && !e.inFlight

/-- A badge list and overdue flag with one prompt more (R112). The list is not held at six badges (assumption 42). -/
def Body.withPrompt (badge : Nat) (overdue : Bool) : Body → Body
  | .prompt od badges => .prompt (od || overdue) (if badges.contains badge then badges else badges ++ [badge])
  | b => b

/-- A badge list without a badge (R6). -/
def Body.withoutBadge (badge : Nat) : Body → Body
  | .prompt od badges => .prompt od (badges.erase badge)
  | b => b

/-- Whether a body names a badge. -/
def Body.names (badge : Nat) : Body → Bool
  | .prompt _ badges => badges.contains badge
  | _ => false

/-- Whether a badge list has become empty. -/
def Body.emptied : Body → Bool
  | .prompt _ badges => badges.isEmpty
  | _ => false

/-- A prompt is offered for a worker (R112): coalesced into the crew's first CHECK_PROMPT entry not in flight on its current
channel, or offered as a new entry, or skipped. -/
def State.offerPrompt (s : State) (badge : Nat) (overdue : Bool) : State :=
  match s.worker? badge with
  | none => s
  | some w =>
    match s.crew? w.crew with
    | none => s
    | some k =>
      if (s.chan k.current).queue.any fun e => e.openPrompt k.slot then
        let grow : Entry → Entry := fun e => { e with body := e.body.withPrompt badge overdue }
        (s.modChan k.current fun ch => { ch with queue := modFirst (fun e => e.openPrompt k.slot) grow ch.queue }).modWorker
          badge fun w => { w with prompt := some .queued }
      else
        s.offer k.current (newEntry (.prompt k.slot) .checkPrompt .safety k.addr (.prompt overdue [badge]) none) true
          (fun t => t.modWorker badge fun w => { w with prompt := some .queued })
          (fun t _ => t.modWorker badge fun w => { w with prompt := some .notSent })

/-- A badge is struck from a crew's CHECK_PROMPT entries not in flight; an entry left with no badge is withdrawn. A struck
worker takes prompt status none (R6, R100, R113). -/
def State.strike (s : State) (slot badge : Nat) : State :=
  if allChans.any fun c => (s.chan c).queue.any fun e => e.openPrompt slot && e.body.names badge then
    let s1 := s.modEntries (fun e => e.openPrompt slot) fun e => { e with body := e.body.withoutBadge badge }
    let s2 := s1.withdraw fun e => e.openPrompt slot && e.body.emptied
    s2.modWorker badge fun w => { w with prompt := none }
  else s

/-! ### Restart and high-risk cut -/

/-- The watch restarts (R100). The stored interval and grace stay, whatever the defaults have become (assumption 44). -/
def State.restart (s : State) (badge : Nat) : State :=
  match s.worker? badge with
  | none => s
  | some w =>
    let e := effectiveInterval w.interval w.missed (s.highRisk w.crew) s.params.highRiskCap
    let l := leadTime s.params.promptLead e
    (s.modWorker badge fun w =>
      { w with eff := some e, lead := some l, remaining := some e, graceLeft := none, leadOwed := decide (0 < l) }).strike
        w.crew badge

/-- The lead prompt, when the mark is owed and remaining stands at or below the lead and above 0 (R101). -/
def Worker.leadDue (w : Worker) : Bool :=
  w.watch == .watching && w.leadOwed && match w.remaining, w.lead with
    | some r, some l => decide (0 < r ∧ r ≤ l)
    | _, _ => false

/-- The lead prompt of a worker is offered if it is due; the mark clears (R101). -/
def State.leadPrompt (s : State) (badge : Nat) : State :=
  match s.worker? badge with
  | none => s
  | some w =>
    if w.leadDue then (s.modWorker badge fun w => { w with leadOwed := false }).offerPrompt badge false else s

/-- A member of a crew that becomes high-risk, or whose cap is lowered, has its remaining cut, and in WATCHING its effective
interval and lead (R104). -/
def Worker.cut (w : Worker) (cap promptLead : Nat) : Worker :=
  let e := effectiveInterval w.interval w.missed true cap
  match w.watch with
  | .watching =>
    { w with
      remaining := w.remaining.map fun r => min r e
      eff := w.eff.map fun x => min x e
      lead := w.eff.map fun x => leadTime promptLead (min x e) }
  | .resting => { w with remaining := w.remaining.map fun r => min r e }
  | _ => w

/-- The high-risk cut of one member, with the lead prompt it may bring at once (R104). -/
def State.cutMember (s : State) (badge : Nat) : State :=
  (s.modWorker badge fun w => w.cut s.params.highRiskCap s.params.promptLead).leadPrompt badge

/-- The high-risk cut of a crew's members (R104). -/
def State.cutCrew (s : State) (slot : Nat) : State :=
  match s.crew? slot with
  | none => s
  | some k => s.inOpenOrder k.members State.cutMember

end Sys2Proof.Machine
end

