-- ==== Sys2Proof/Machine/Permits.lean ====
section
/-! DEFINITION. The Permit Table's work (Chapter 4): state changes (R66), its telegrams (R67, R68), claims, instructions and hand-over (R59, R71, R86), issue and readback (R78 to R81), surrender (R82, R83), restoration and closing (R86, R87, R92), stalls (R88) and alarm hold (R93, R94). -/

namespace Sys2Proof.Machine

/-! ### State changes -/

/-- A permit changes its state; the holder is cut if it becomes high-risk by the change (R66, R104) (assumption 19). -/
def State.setPermitState (s : State) (serial : Nat) (new : PermitState) (cause : PermitCause) : State :=
  match s.permit? serial with
  | none => s
  | some p =>
    let s1 := (s.modPermit serial fun p => { p with state := new }).post (.permitState serial p.holder p.state new cause)
    if !s.highRisk p.holder && s1.highRisk p.holder then s1.cutCrew p.holder else s1

/-- A permit stalls (R88). -/
def State.stall (s : State) (serial : Nat) (phase : Phase) (cause : StallCause) : State :=
  ((s.leaveWaits serial).modPermit serial fun p =>
    { p with stall := some (phase, cause), waiting := false, readback := none, issueOwed := false }).setPermitState
      serial .stalled (.stalled cause)

/-- The phase a permit would stall from, by its state. -/
def PermitState.phase : PermitState → Phase
  | .issuing => .issuing
  | .restoring => .restoring
  | _ => .switching

/-- The state a stalled permit goes back to (R89). -/
def Phase.state : Phase → PermitState
  | .switching => .switching
  | .issuing => .issuing
  | .restoring => .restoring

/-! ### Permit telegrams -/

/-- The kind and body of one of a permit's telegrams, as the record stands (R131). -/
def Permit.telegram (p : Permit) : PermitTg → Option (TgKind × List Byte)
  | .instruct => p.outstanding.map fun i => (.stepInstruct, instructBody p.serial i)
  | .issue => some (.permitIssue, issueBody p)
  | .answer => p.answer.map fun a => (.surrenderAnswer, surrenderBody p.serial a.answer a.reason)
  | .closing => some (.permitClosed, u16 p.serial)

/-- One of a permit's telegrams is offered to its holder, whatever the holder's reachability (4.4, R67, R68). -/
def State.offerPermit (s : State) (serial : Nat) (tg : PermitTg) : State :=
  match s.permit? serial with
  | none => s
  | some p =>
    match s.crew? p.holder, p.telegram tg with
    | some k, some (kind, body) =>
      s.offer k.current (newEntry (.permit tg serial) kind .safety k.addr (.bytes body) none) true
        (fun t => t.setTg serial tg .queued)
        (fun t _ => t.setTg serial tg .deferred)
    | _, _ => s

/-- A permit's telegram is taken back: a QUEUED one is withdrawn, one IN_FLIGHT is no longer linked (R67, R76, R170). -/
def State.takeBack (s : State) (serial : Nat) (tg : PermitTg) : State :=
  match (s.permit? serial).bind fun p => p.tg? tg with
  | some .queued => s.withdraw fun e => e.owner == .permit tg serial && e.linked
  | some .inFlight => s.unlink (.permit tg serial)
  | _ => s

/-- The outstanding instruction becomes absent; its telegram is withdrawn, dropped or unlinked (R74, R76). -/
def State.dropInstruction (s : State) (serial : Nat) : State :=
  ((s.takeBack serial .instruct).modPermit serial fun p => { p with outstanding := none }).syncPermitDefer serial

/-- An issue telegram on its way is withdrawn, dropped or unlinked, and its status becomes none (R78, R81, R91). -/
def State.dropIssue (s : State) (serial : Nat) : State :=
  ((s.takeBack serial .issue).modPermit serial fun p =>
    { p with issue := if p.issue = some .delivered then p.issue else none }).syncPermitDefer serial

/-- An answer telegram that is DEFERRED or QUEUED is dropped or withdrawn, and there is none then (R82, R83). -/
def State.dropAnswer (s : State) (serial : Nat) : State :=
  match (s.permit? serial).bind fun p => p.tg? .answer with
  | some .queued | some .deferred =>
    ((s.takeBack serial .answer).modPermit serial fun p => { p with answer := none }).syncPermitDefer serial
  | _ => s

/-- A permit's DEFERRED telegrams are offered, answer first, then instruction or issue, then closing, up to the first that is
not admitted; the mark says whether all were admitted (R69). -/
def State.offerDeferredOf (serial : Nat) : List PermitTg → State → State × Bool
  | [], s => (s, true)
  | tg :: more, s =>
    if (s.permit? serial).any fun p => p.tg? tg == some .deferred then
      let s1 := s.offerPermit serial tg
      if (s1.permit? serial).any fun p => p.tg? tg == some .deferred then (s1, false)
      else State.offerDeferredOf serial more s1
    else State.offerDeferredOf serial more s

def State.offerDeferred (s : State) (serial : Nat) : State × Bool :=
  State.offerDeferredOf serial [.answer, .instruct, .issue, .closing] s

/-! ### Claims and hand-over -/

/-- The device a permit wants and what for (R59): the step at index k in SWITCHING, the stack top in RESTORING. -/
def Permit.wants (p : Permit) : Option (Nat × ClaimFor) :=
  match p.state with
  | .switching => p.steps[p.k]?.map fun t => (t.device, .isolation t.action)
  | .restoring => p.stack.head?.map fun e => (e.1, .restoration)
  | _ => none

/-- The index of an instruction (4.1): the step number for isolation, 100 more than the step number for restoration. -/
def Permit.instructionIndex (p : Permit) (device : Nat) : ClaimFor → Nat
  | .isolation _ => p.k + 1
  | .restoration => 100 + (p.steps.findIdx fun t => t.device == device) + 1

def ClaimFor.role : ClaimFor → Role
  | .isolation _ => .isolation
  | .restoration => .restoration

/-- A permit acts on the answer to its claim (R71, R86). -/
def State.actOnClaim (s : State) (serial device : Nat) (what : ClaimFor) : ClaimAnswer → State
  | .granted a =>
    (s.modPermit serial fun p =>
      { p with
        outstanding := some ⟨p.instructionIndex device what, device, what.role, a, .queued⟩
        waiting := false }).offerPermit serial .instruct
  | .wait => s.modPermit serial fun p => { p with waiting := true }
  | .tagLimit => s.stall serial .switching .tagLimit

/-- A permit claims the device it wants, unless it has an instruction outstanding, waits for one after a cancellation, or
stands under alarm hold (R71, R86, R94). -/
def State.claimNext (s : State) (serial : Nat) : State × Option ClaimAnswer :=
  match s.permit? serial with
  | none => (s, none)
  | some p =>
    if p.hold || p.cancelWait || p.outstanding.isSome then (s, none)
    else
      match p.wants with
      | none => (s, none)
      | some (device, what) =>
        let r := s.claim device serial what
        (r.1.actOnClaim serial device what r.2, some r.2)

/-- The hand-over of a device over its wait list (R59). -/
def State.handTo (device : Nat) : List Nat → State → State
  | [], s => s
  | serial :: more, s =>
    match s.permit? serial with
    | none => State.handTo device more s
    | some p =>
      if p.hold then State.handTo device more s
      else
        match p.wants with
        | none => State.handTo device more s
        | some (_, what) =>
          let s1 := (s.leaveWaits serial).modPermit serial fun p => { p with waiting := false }
          let r := s1.claim device serial what
          let s2 := r.1.actOnClaim serial device what r.2
          match r.2 with
          | .tagLimit => State.handTo device more s2
          | _ => s2

/-- A device's pending instruction becomes absent and the device is handed over (R57, R58, R59). -/
def State.freeDevice (s : State) (device : Nat) : State :=
  State.handTo device (((s.device? device).map (·.waits)).getD [])
    (s.modDevice device fun d => { d with pending := none })

/-! ### Issue, restoration and closing -/

/-- The digest (R79). -/
def digestOf (p : Permit) (unit : Nat) : Nat :=
  pairSum (u16 p.serial ++ u16 unit ++ u8 p.steps.length ++ (p.steps.map fun t => u16 t.device ++ u8 t.action.code).flatten)

/-- The digest of a permit as the records stand. -/
def State.digest (s : State) (p : Permit) : Nat := digestOf p (((s.crew? p.holder).map (·.unit)).getD 0)

/-- A permit issues (R78). -/
def State.issuePermit (s : State) (serial : Nat) : State :=
  (s.modPermit serial fun p =>
    { p with digest := some (s.digest p), issueCount := p.issueCount + 1, issueOwed := false, readback := none }).offerPermit
      serial .issue

/-- A permit in ISSUING is called on to issue (R78). -/
def State.callIssue (s : State) (serial : Nat) : State :=
  if (s.permit? serial).any (·.hold) then s.modPermit serial fun p => { p with issueOwed := true, readback := none }
  else s.issuePermit serial

/-- A permit closes (R87). -/
def State.closePermit (s : State) (serial : Nat) (cause : PermitCause) : State :=
  match s.permit? serial with
  | none => s
  | some p =>
    let s1 := ((s.leaveWaits serial).modPermit serial fun p =>
      { p with hold := false, waiting := false, surrender := false, stall := none, readback := none }).setPermitState
        serial .closed cause
    if p.state = .draft then s1 else s1.offerPermit serial .closing

/-- Restoration begins (R92), with the cause that a close then gives. -/
def State.beginRestoration (s : State) (serial : Nat) (cause : PermitCause) : State :=
  match s.permit? serial with
  | none => s
  | some p => if p.stack.isEmpty then s.closePermit serial cause else (s.claimNext serial).1

/-- A release without a DONE report (R58): the device is freed and handed over, the instruction becomes absent and its index
is the last released index (assumption 18). -/
def State.releaseUnreported (s : State) (serial : Nat) : State :=
  match (s.permit? serial).bind (·.outstanding) with
  | none => s
  | some i =>
    ((s.freeDevice i.device).dropInstruction serial).modPermit serial fun p => { p with lastReleased := some i.index }

/-- A release that applies a DONE report (R57, R74, R86): the device changes, the stack is pushed or popped, the device is
freed and handed over, and the instruction becomes absent (assumption 18). -/
def State.releaseDone (s : State) (serial : Nat) : State :=
  match (s.permit? serial).bind (·.outstanding) with
  | none => s
  | some i =>
    let s1 := (s.modDevice i.device Device.applyDone).modPermit serial fun p =>
      match i.role with
      | .isolation => { p with stack := (i.device, i.action) :: p.stack }
      | .restoration => { p with stack := p.stack.drop 1 }
    (s1.freeDevice i.device).dropInstruction serial

/-! ### Orders bound to a permit (R41) -/

/-- How many WORKING orders are bound to a serial and assigned to a holder (R41). -/
def State.workingBound (s : State) (serial holder : Nat) : Nat :=
  (s.orders.filter fun o => o.state == .working && o.bound == some serial && o.crew == some holder).length

/-- An order BLOCKED under a permit that has come into force goes to WORKING and owes ORDER_CLEARED (R41), which
is offered before the preemption check of the crew runs (assumption 43). -/
def State.clearBlocked (s : State) (n holder : Nat) : State :=
  (((s.modOrder n fun o => { o with state := .working, followUp := some (.cleared, .owed) }).post
    (.orderState n (some holder) .blocked .working none)).offerFollowUp n).check holder

/-- A permit has come into force (R41). -/
def State.tellInForce (s : State) (serial holder : Nat) : State :=
  (s.orders.filter fun o => o.state == .blocked && o.bound == some serial && o.crew == some holder).foldl
    (fun t o => t.clearBlocked o.number holder) s

/-! ### Step reports (4.6) -/

/-- A DONE report is taken (R74, R86, R92). -/
def State.reportDone (s : State) (serial : Nat) : State :=
  match s.permit? serial with
  | none => s
  | some p =>
    let s1 := s.releaseDone serial
    if p.cancelWait then
      (s1.modPermit serial fun p => { p with k := p.k + 1, cancelWait := false }).beginRestoration serial .restored
    else if p.state = .restoring then s1.beginRestoration serial .restored
    else
      let s2 := s1.modPermit serial fun p => { p with k := p.k + 1 }
      if p.k + 1 = p.steps.length then (s2.setPermitState serial .issuing .stepsDone).callIssue serial
      else (s2.claimNext serial).1

/-- An UNABLE report is taken (R75, R92). -/
def State.reportUnable (s : State) (serial : Nat) : State :=
  match s.permit? serial with
  | none => s
  | some p =>
    let s1 := s.releaseUnreported serial
    if p.cancelWait then
      (s1.modPermit serial fun p => { p with cancelWait := false }).beginRestoration serial .restored
    else s1.stall serial p.state.phase .unable

/-- A STEP_REPORT is sorted (R73, R77). -/
def State.stepReport (s : State) (slot serial index outcome : Nat) : State :=
  let ignore (r : IgnoreReason) := s.post (.stepReportIgnored slot kindStepReport serial index outcome r)
  match s.permit? serial with
  | none => ignore .unknownPermit
  | some p =>
    if p.holder ≠ slot then ignore .notHolder
    else if outcome ≠ 1 ∧ outcome ≠ 2 then ignore .badOutcome
    else if p.outstanding.any fun i => i.index == index then
      if outcome = 1 then s.reportDone serial else s.reportUnable serial
    else if p.lastReleased = some index then s.post (.lateReport slot serial index outcome p.state)
    else ignore .notOutstanding

/-! ### Readback (4.7) -/

/-- A READBACK is sorted and taken (R81). -/
def State.readback (s : State) (slot serial digest : Nat) : State :=
  let ignore (r : IgnoreReason) := s.post (.stepReportIgnored slot kindReadback serial 0 0 r)
  match s.permit? serial with
  | none => ignore .unknownPermit
  | some p =>
    if p.holder ≠ slot then ignore .notHolder
    else if p.state ≠ .issuing then ignore .notOutstanding
    else
      let s1 := (s.modPermit serial fun p => { p with readback := none }).dropIssue serial
      if digest = p.digest.getD (s.digest p) then
        ((s1.modPermit serial fun p => { p with issueOwed := false }).setPermitState serial .inForce .readbackOk).tellInForce
          serial slot
      else if p.issueCount < s.params.issueLimit then s1.callIssue serial
      else s1.stall serial .issuing .readback

/-! ### Surrender (4.8) -/

/-- An answer kept by a permit is offered to its holder, in the place of one before it (R83). -/
def State.answerSurrender (s : State) (serial : Nat) (a : SurrenderAnswer) (r : Option SurrenderReason) : State :=
  let s1 := match (s.permit? serial).bind fun p => p.tg? .answer with
    | some .inFlight => s.takeBack serial .answer
    | _ => s.dropAnswer serial
  (s1.modPermit serial fun p => { p with answer := some ⟨a, r, .queued⟩ }).offerPermit serial .answer

/-- A free answer is offered once to a crew (R83). -/
def State.freeAnswer (s : State) (slot serial : Nat) (r : SurrenderReason) : State :=
  match s.crew? slot with
  | none => s
  | some k =>
    s.offer k.current
      (newEntry (.freeAnswer serial) .surrenderAnswer .safety k.addr (.bytes (surrenderBody serial .denied (some r))) none)
      true (fun t => t) (fun t _ => t)

/-- A SURRENDER is sorted (R82). -/
def State.surrenderAsked (s : State) (slot serial : Nat) : State :=
  match s.permit? serial with
  | none => s.freeAnswer slot serial .notInForce
  | some p =>
    if p.holder ≠ slot then s.freeAnswer slot serial .notHolder
    else if p.state ≠ .inForce then s.freeAnswer slot serial .notInForce
    else if p.surrender then s
    else if p.hold then s.answerSurrender serial .held (some .alarm)
    else if 0 < s.workingBound serial slot then s.answerSurrender serial .held (some .ordersOpen)
    else
      ((s.dropAnswer serial).modPermit serial fun p => { p with surrender := true }).post
        (.surrenderRequested serial slot s.clock)

/-! ### Alarm hold (4.12) -/

/-- A permit whose alarm hold has cleared resumes where it stands (R94). -/
def State.resumePermit (s : State) (serial : Nat) : State :=
  match s.permit? serial with
  | none => s
  | some p =>
    match p.state with
    | .switching | .restoring => (s.claimNext serial).1
    | .issuing => if p.issueOwed then s.issuePermit serial else s
    | _ => s

/-- The serials of a crew's permits that are not CLOSED, ascending. -/
def State.heldBy (s : State) (slot : Nat) : List Nat :=
  (s.permits.filter fun p => p.holder == slot && p.state != .closed).map (·.serial)

/-- A crew has entered the alarm condition (R93). -/
def State.holdPermits (s : State) (slot : Nat) : State :=
  (s.heldBy slot).foldl (fun t serial => t.modPermit serial fun p => { p with hold := true }) s

/-- A crew has left the alarm condition: the mark clears on each of its permits, and each resumes, by ascending serial
(R93, R94). -/
def State.resumePermits (s : State) (slot : Nat) : State :=
  (s.heldBy slot).foldl (fun t serial => (t.modPermit serial fun p => { p with hold := false }).resumePermit serial) s

/-! ### Outcomes of permit telegrams (R67, R72, R80) -/

/-- A permit telegram that the record links is DELIVERED. -/
def State.permitDelivered (s : State) (tg : PermitTg) (serial : Nat) : State :=
  let s1 := s.setTg serial tg .delivered
  match tg with
  | .issue => s1.modPermit serial fun p => { p with readback := some s.params.readbackWait }
  | _ => s1

/-- A permit telegram that the record links fails finally or is REJECTED. -/
def State.permitFailed (s : State) (tg : PermitTg) (serial : Nat) : State :=
  match s.permit? serial with
  | none => s
  | some p =>
    match tg with
    | .instruct =>
      let s1 := s.releaseUnreported serial
      if p.cancelWait then
        (s1.modPermit serial fun p => { p with cancelWait := false }).beginRestoration serial .restored
      else s1.stall serial p.state.phase .undelivered
    | .issue =>
      ((s.modPermit serial fun p => { p with issue := none }).syncPermitDefer serial).stall serial .issuing .undelivered
    | .answer => (s.setTg serial .answer .failed).post (.permitState serial p.holder p.state p.state .answerFailed)
    | .closing => (s.setTg serial .closing .failed).post (.permitState serial p.holder p.state p.state .closeFailed)

end Sys2Proof.Machine
end

