-- ==== Sys2Proof/Machine/Alarms.lean ====
section
/-! DEFINITION. Alarms (5.7), alarm sets and the alarm call (5.8), the alarm condition of a crew (R118), and the telegrams the Watch Unit takes (5.5). -/

namespace Sys2Proof.Machine

/-! ### What stands -/

/-- Whether a worker is in ALARM or ACKNOWLEDGED. -/
def WatchState.inAlarm : WatchState → Bool
  | .alarm | .acknowledged => true
  | _ => false

/-- A crew's alarm condition (R118). -/
def State.inAlarm (s : State) (slot : Nat) : Bool :=
  (s.workers.any fun w => w.crew == slot && w.watch.inAlarm) || (s.crew? slot).any fun k => k.alarm != .none

/-- Whether an alarm is in ALARM or RAISED. -/
def State.unacked (s : State) : AlarmRef → Bool
  | .worker badge => (s.worker? badge).any fun w => w.watch == .alarm
  | .crew slot => (s.crew? slot).any fun k => k.alarm == .raised

/-- Alarm active: a worker is in ALARM or a crew alarm is RAISED (R98). -/
def State.alarmActive (s : State) : Bool :=
  (s.workers.any fun w => w.watch == .alarm) || s.crews.any fun k => k.alarm == .raised

/-- The crew an alarm stands for. -/
def State.alarmCrew (s : State) : AlarmRef → Option Nat
  | .worker badge => (s.worker? badge).map (·.crew)
  | .crew slot => some slot

/-- A change of a crew's alarm condition is reported to the Permit Table (R118): was holds whether it stood before. -/
def State.reportCondition (s : State) (slot : Nat) (was : Bool) : State :=
  match was, s.inAlarm slot with
  | false, true => s.holdPermits slot
  | true, false => s.resumePermits slot
  | _, _ => s

/-! ### The alarm call -/

/-- Whether an entry is an ALARM_CALL. -/
def Entry.isCall (e : Entry) : Bool := e.kind == .alarmCall

/-- The alarm call is armed on a channel (R120). -/
def State.arm (s : State) (c : Chan) : State :=
  if (s.chan c).state = .off then s
  else if (s.chan c).queue.any Entry.isCall then
    s.modChan c fun ch =>
      { ch with queue := ch.queue.map fun e =>
          if e.isCall then
            if e.inFlight then { e with rearm := true }
            else { e with repeats := some s.params.alarmRepeats, holdOff := 0 }
          else e }
  else
    s.offer c (newEntry (.alarmCall c) .alarmCall .emergency (.group 0 0) .atSend (some s.params.alarmRepeats)) true
      (fun t => t) (fun t _ => t)

/-- Whether a channel's set holds an alarm in ALARM or RAISED. -/
def State.callsFor (s : State) (c : Chan) : Bool := (s.chan c).alarmSet.any s.unacked

/-- A channel's queued alarm call is withdrawn when its set holds no alarm in ALARM or RAISED (R121). -/
def State.settleCall (s : State) (c : Chan) : State :=
  if s.callsFor c then s else s.withdrawOn c Entry.isCall

/-- The channels whose alarm set holds an alarm. -/
def State.channelsOf (s : State) (a : AlarmRef) : List Chan := allChans.filter fun c => (s.chan c).alarmSet.contains a

/-- The standing alarms, in the order in which they entered, are put down. -/
def State.withAlarmOrder (s : State) (l : List AlarmRef) : State := { s with alarmOrder := l }

/-- An alarm joins a channel's set in its place by order of entry (R119). -/
def State.joinSet (s : State) (a : AlarmRef) (c : Chan) : State :=
  s.modChan c fun ch => { ch with alarmSet := s.alarmOrder.filter fun x => x == a || ch.alarmSet.contains x }

/-- An alarm enters (R119): it is the latest by order of entry, and takes the last place in the set of its crew's current
channel and in each set that held it; the call is armed on each of those channels. -/
def State.enterSets (s : State) (a : AlarmRef) (current : Chan) : State :=
  let cs := allChans.filter fun c => c == current || (s.chan c).alarmSet.contains a
  let s1 := s.withAlarmOrder (s.alarmOrder.erase a ++ [a])
  let s2 := cs.foldl (fun t c => t.modChan c fun ch => { ch with alarmSet := ch.alarmSet.erase a ++ [a] }) s1
  s2.inOpenOrder cs State.arm

/-- An alarm leaves every set that holds it, and each of those channels' calls is settled (R117, R119, R121). -/
def State.leaveSets (s : State) (a : AlarmRef) : State :=
  let cs := s.channelsOf a
  let s1 := (s.modChans fun ch => { ch with alarmSet := ch.alarmSet.erase a }).withAlarmOrder (s.alarmOrder.erase a)
  cs.foldl State.settleCall s1

/-! ### Entry, escalation -/

/-- A worker enters ALARM (R114), or its standing ALARM takes a new cause. -/
def State.workerAlarm (s : State) (badge : Nat) (cause : AlarmCause) : State :=
  match s.worker? badge with
  | none => s
  | some w =>
    match s.crew? w.crew with
    | none => s
    | some k =>
      let notice (t : State) := t.post (.alarm badge k.slot k.unit cause (.worker w.watch))
      if w.watch = .alarm then
        let s1 := notice (s.modWorker badge fun w => { w with cause := some cause })
        s1.inOpenOrder (s1.channelsOf (.worker badge)) State.arm
      else
        let s1 := (s.modWorker badge fun w => { w with remaining := none, graceLeft := none, leadOwed := false }).strike
          k.slot badge
        let s2 := s1.modWorker badge fun w =>
          { w with watch := .alarm, cause := some cause, escal := some s.params.escalationTime, escalated := false }
        ((notice s2).enterSets (.worker badge) k.current).reportCondition k.slot (s.inAlarm k.slot)

/-- A crew alarm enters RAISED (R114), or its standing RAISED takes a new cause. -/
def State.crewAlarm (s : State) (slot : Nat) (cause : AlarmCause) : State :=
  match s.crew? slot with
  | none => s
  | some k =>
    let notice (t : State) := t.post (.alarm 0 slot k.unit cause (.crew k.alarm))
    if k.alarm = .raised then
      let s1 := notice (s.modCrew slot fun k => { k with alarmCause := some cause })
      s1.inOpenOrder (s1.channelsOf (.crew slot)) State.arm
    else
      let s1 := s.modCrew slot fun k =>
        { k with alarm := .raised, alarmCause := some cause, escal := some s.params.escalationTime, escalated := false }
      ((notice s1).enterSets (.crew slot) k.current).reportCondition slot (s.inAlarm slot)

/-- An alarm joins the sets of the channels that are not OFF and do not hold it, and each arms its call (R115). -/
def State.widen (s : State) (a : AlarmRef) : State :=
  let cs := allChans.filter fun c => (s.chan c).state != .off && !(s.chan c).alarmSet.contains a
  (cs.foldl (fun t c => t.joinSet a c) s).inOpenOrder cs State.arm

/-! ### Telegrams to the Watch Unit (5.5) -/

/-- CHECKIN_DURING_ALARM (R108). -/
def State.checkinDuringAlarm (s : State) (w : Worker) (kind : Nat) : State :=
  s.post (.checkinDuringAlarm w.badge w.crew kind w.watch)

/-- A worker's watch state becomes another, with its notice (R99). -/
def State.setWatch (s : State) (w : Worker) (new : WatchState) (cause : WatchCause) : State :=
  (s.modWorker w.badge fun w => { w with watch := new }).post (.watchState w.badge w.crew w.watch new cause)

/-- A telegram restarts a watch: in WATCHING without a notice, otherwise by a change to WATCHING (R108, R110). -/
def State.checkedIn (s : State) (w : Worker) : State :=
  if w.watch = .watching then s.restart w.badge
  else ((s.modWorker w.badge fun w => { w with watch := .watching }).restart w.badge).post
    (.watchState w.badge w.crew w.watch .watching .telegram)

/-- CHECK_IN (R108). -/
def State.checkIn (s : State) (badge : Nat) : State :=
  match s.worker? badge with
  | none => s
  | some w =>
    match w.watch with
    | .off | .resting => s
    | .watching | .due => s.checkedIn w
    | .alarm | .acknowledged => s.checkinDuringAlarm w kindCheckIn

/-- RESUME (R110). -/
def State.resume (s : State) (badge : Nat) : State :=
  match s.worker? badge with
  | none => s
  | some w =>
    match w.watch with
    | .off => s
    | .watching | .due | .resting => s.checkedIn w
    | .alarm | .acknowledged => s.checkinDuringAlarm w kindResume

/-- REST, with the answer code it earns (R109) (assumption 32). -/
def State.rest (s : State) (badge : Nat) : State × Nat :=
  match s.worker? badge with
  | none => (s, nakRejectedCode)
  | some w =>
    match w.watch with
    | .alarm | .acknowledged => (s.checkinDuringAlarm w kindRest, nakRejectedCode)
    | .off | .resting => (s, nakRejectedCode)
    | .watching | .due =>
      if s.highRisk w.crew then (s, nakRejectedCode)
      else
        let s1 := (s.modWorker badge fun w =>
          { w with watch := .resting, remaining := some s.params.restLimit, graceLeft := none, leadOwed := false }).strike
            w.crew badge
        (s1.post (.watchState badge w.crew w.watch .resting .telegram), ackCode)

/-- The cause an EMERGENCY carries (R111, R132, R183). -/
def emergencyCause (code : Nat) : AlarmCause := if code = 2 then .manDown else .panic

/-- EMERGENCY (R111). -/
def State.emergency (s : State) (slot badge : Nat) (cause : AlarmCause) : State :=
  if (s.crew? slot).any fun k => k.members.contains badge then s.workerAlarm badge cause else s.crewAlarm slot cause

end Sys2Proof.Machine
end

