-- ==== Sys2Proof/Machine/Replies.lean ====
section
/-! DEFINITION. The Order Table's taking of crew replies (2.7) and of the outcomes of its telegrams (2.5, R44). -/

namespace Sys2Proof.Machine

/-- An order's entry that is not in flight is withdrawn, and its link becomes none (R39, R43). -/
def State.withdrawOrder (s : State) (n : Nat) : State :=
  (s.withdraw fun e => e.owner == .order n).modOrder n fun o =>
    { o with link := if o.link = some .queued then none else o.link }

/-! ### Crew replies -/

/-- ACCEPT (R39). -/
def State.replyAccept (s : State) (slot : Nat) (o : Order) : State :=
  (((s.withdrawOrder o.number).modOrder o.number fun o => { o with state := .accepted, acceptance := none }).post
    (.orderState o.number (some slot) o.state .accepted none)).check slot

/-- DECLINE (R39) (assumption 25). -/
def State.replyDecline (s : State) (slot : Nat) (o : Order) : State :=
  (((s.withdrawOrder o.number).modOrder o.number fun o =>
      { o with state := .returned, returned := some .declined, crew := none, acceptance := none }).post
    (.orderState o.number (some slot) o.state .returned (some .declined))).leaveQueue slot o.number

/-- Whether a crew may work under an order: it has no bound permit, or that permit is in force with the crew as holder
(R40). -/
def State.mayWork (s : State) (slot : Nat) (o : Order) : Bool :=
  match o.bound with
  | none => true
  | some serial => (s.permit? serial).any fun p => p.state == .inForce && p.holder == slot

/-- ON_SITE (R40). -/
def State.replyOnSite (s : State) (slot : Nat) (o : Order) : State :=
  let new : OrderState := if s.mayWork slot o then .working else .blocked
  ((s.modOrder o.number fun o => { o with state := new }).post
    (.orderState o.number (some slot) o.state new none)).check slot

/-- COMPLETE (R40). -/
def State.replyComplete (s : State) (slot : Nat) (o : Order) : State :=
  ((s.modOrder o.number fun o => { o with state := .complete }).post
    (.orderState o.number (some slot) o.state .complete none)).leaveQueue slot o.number

/-- UNABLE (R40). -/
def State.replyUnable (s : State) (slot : Nat) (o : Order) : State :=
  ((s.modOrder o.number fun o => { o with state := .returned, returned := some .unable }).post
    (.orderState o.number (some slot) o.state .returned (some .unable))).leaveQueue slot o.number

/-- An ORDER_REPLY is tested and taken (R38). -/
def State.orderReply (s : State) (slot n code : Nat) : State :=
  match s.order? n with
  | none => s.post (.replyIgnored slot n code none)
  | some o =>
    if (s.crew? slot).bind (fun k => k.queue.head?) = some n then
      match code, o.state with
      | 1, .sent | 1, .delivered => s.replyAccept slot o
      | 2, .sent | 2, .delivered => s.replyDecline slot o
      | 3, .accepted => s.replyOnSite slot o
      | 4, .working => s.replyComplete slot o
      | 5, .accepted | 5, .blocked | 5, .working => s.replyUnable slot o
      | _, _ => s.post (.replyIgnored slot n code (some o.state))
    else s.post (.replyIgnored slot n code (some o.state))

/-! ### Outcomes of ORDER telegrams -/

/-- The preemption check of the crew an order is assigned to, if any. -/
def State.checkCrewOf (s : State) (n : Nat) : State :=
  match (s.order? n).bind (·.crew) with
  | some slot => s.check slot
  | none => s

/-- An order's own telegram no longer waits or flies for an order that has left SENT (R35). -/
def State.unlinkOrder (s : State) (n : Nat) : State := (s.modOrder n fun o => { o with link := none }).checkCrewOf n

/-- ORDER_CANCEL becomes an order's follow-up, in the place of an ORDER_CLEARED that is not delivered, and is offered
(R43) (assumption 21). -/
def State.followWithCancel (s : State) (n : Nat) : State :=
  let s1 := match (s.order? n).bind (·.followUp) with
    | some (FollowKind.cleared, FollowStatus.queued) => s.withdraw fun e => e.owner == Owner.followUp n && e.linked
    | some (FollowKind.cleared, FollowStatus.inFlight) => s.unlink (Owner.followUp n)
    | _ => s
  ((s1.withOwed (s1.owed.erase n)).modOrder n fun o => { o with followUp := some (.cancel, .owed) }).offerFollowUp n

/-- A DELIVERED outcome of an ORDER telegram (R31, R35). An ORDER_CANCEL it brings is offered before the preemption check runs
(assumption 43). -/
def State.orderDelivered (s : State) (n : Nat) : State :=
  match s.order? n with
  | none => s
  | some o =>
    if o.state = .sent then
      ((s.modOrder n fun o =>
          { o with
            state := .delivered
            link := none
            deliveredAt := some s.clock
            acceptance := some s.params.acceptanceTimeout }).post
        (.orderState n o.crew .sent .delivered none)).checkCrewOf n
    else
      let s1 := s.modOrder n fun o => { o with link := none }
      if o.state = .cancelled ∧ o.followUp.all (fun f => f.1 != .cancel) then (s1.followWithCancel n).checkCrewOf n
      else s1.checkCrewOf n

/-- A final failure or a REJECTED outcome of an ORDER telegram (R32, R35). -/
def State.orderFailed (s : State) (n : Nat) (cause : OrderCause) : State :=
  match s.order? n with
  | none => s
  | some o =>
    if o.state = .sent then
      let s1 := (s.modOrder n fun o => { o with state := .undelivered, link := none }).post
        (.orderState n o.crew .sent .undelivered (some cause))
      match o.crew with
      | some slot => s1.leaveQueue slot n
      | none => s1
    else s.unlinkOrder n

/-! ### Outcomes of follow-ups (R44) -/

/-- A follow-up that the order links fails finally or is REJECTED (assumption 25). -/
def State.followUpFailed (s : State) (n : Nat) : State :=
  match s.order? n with
  | none => s
  | some o => (s.setFollowUp n .failed).post (.orderState n o.crew o.state o.state (some .failed))

end Sys2Proof.Machine
end

