-- ==== Sys2Proof/Machine/Signals.lean ====
section
/-! DEFINITION. The space signal (R171): the Permit Table's walk of a channel's permit deferral list (R69), and then the Order Table's walk of its order deferral list (R30). -/

namespace Sys2Proof.Machine

/-- The Permit Table's walk (R69): the front permit's deferred telegrams are offered while every offer is admitted. -/
def State.permitWalk (c : Chan) : Nat → State → State
  | 0, s => s
  | fuel + 1, s =>
    match (s.chan c).permitDefer with
    | [] => s
    | serial :: _ =>
      match s.offerDeferred serial with
      | (s1, true) => State.permitWalk c fuel s1
      | (s1, false) => s1

/-- Owed follow-ups offered up to the first that is not admitted; the mark says whether all were admitted. -/
def State.offerOwed : List Nat → State → State × Bool
  | [], s => (s, true)
  | n :: more, s =>
    let s1 := s.offerFollowUp n
    if s1.owed.contains n then (s1, false) else State.offerOwed more s1

/-- What the Order Table's walk does for one crew (R30, steps 1 and 2); the mark says whether the walk goes on. A refused
follow-up brings the deferral cause of the crew's head up to date with FULL, the one reason a follow-up is refused for (assumption 30). -/
def State.walkCrew (s : State) (slot : Nat) : State × Bool :=
  match State.offerOwed (s.owedOf slot) s with
  | (s1, false) =>
    match s1.crew? slot with
    | none => (s1, false)
    | some k =>
      if s1.headDeferred k ∧ k.reach ≠ .lost then
        match k.queue.head? with
        | some h => (s1.modOrderIn h .assigned fun o => { o with deferral := some .full }, false)
        | none => (s1, false)
      else (s1, false)
  | (s1, true) =>
    match s1.crew? slot with
    | none => (s1, true)
    | some k =>
      if s1.headDeferred k ∧ k.reach ≠ .lost then
        let s2 := s1.offerHead slot
        (s2, (s2.crew? slot).all fun k => !s2.headDeferred k)
      else (s1, true)

/-- The Order Table's walk (R30): place is the place on the list of the crew to be taken next. A crew that stays on the list
is LOST, and the walk goes on behind it. -/
def State.orderWalk (c : Chan) : Nat → Nat → State → State
  | 0, _, s => s
  | fuel + 1, place, s =>
    match (s.chan c).orderDefer[place]? with
    | none => s
    | some slot =>
      match s.walkCrew slot with
      | (s1, false) => s1
      | (s1, true) =>
        State.orderWalk c fuel (if (s1.chan c).orderDefer[place]? = some slot then place + 1 else place) s1

/-- The space signal of a channel. The fuel of the walks is above the number of offers they can make: 32 permits, and 64 crews
of which each may be taken again after an eviction. -/
def State.giveSignal (s : State) (c : Chan) : State := (State.permitWalk c 33 s).orderWalk c 129 0

/-- The space signals owed are given, those of several channels in any order, and then any that the walks themselves
brought about by withdrawing an entry (assumption 38). -/
def State.deliverSignals : Nat → State → State
  | 0, s => s.withSignals []
  | fuel + 1, s =>
    if s.signals.isEmpty then s
    else ((s.withSignals []).inOpenOrder s.signals State.giveSignal).deliverSignals fuel

end Sys2Proof.Machine
end

