-- ==== Sys2Proof/Machine/Moves.lean ====
section
/-! DEFINITION. Migration (R174, R175), crew moves (R12, R119) and the crews that a channel's failure or recovery moves (R157, R160, R161). -/

namespace Sys2Proof.Machine

/-- One migrating entry is offered to the queue of a channel, keeping its sequence (R174); refused, its owner takes it
(R175). -/
def State.migrate (s : State) (b : Chan) (e : Entry) : State :=
  s.offer b { e with blocksSent := 0 } false (fun t => t)
    (fun t r => t.returnToOwner State.check b e r .moved)

/-- A crew's entries that are not in flight leave one queue together, and are offered one at a time to another (R12 step 3,
R174). -/
def State.migrateCrew (s : State) (slot : Nat) (a b : Chan) : State :=
  let es := (s.chan a).queue.filter fun e => !e.inFlight && e.isFor slot
  es.foldl (fun t e => t.migrate b e) (s.withdrawOn a fun e => e.isFor slot)

/-- A crew and its permits leave the deferral lists of one channel for those of another (R12 step 4, R175). -/
def State.moveDeferrals (s : State) (slot : Nat) (a b : Chan) : State :=
  let joined (old new xs : List Nat) : List Nat := new ++ xs.filter fun x => old.contains x && !new.contains x
  let ps := (s.chan a).permitDefer.filter fun serial => (s.permit? serial).any fun p => p.holder == slot
  let s1 := s.modChan b fun ch =>
    { ch with
      orderDefer := joined (s.chan a).orderDefer ch.orderDefer [slot]
      permitDefer := joined (s.chan a).permitDefer ch.permitDefer ps }
  s1.modChan a fun ch =>
    { ch with
      orderDefer := ch.orderDefer.erase slot
      permitDefer := ch.permitDefer.filter fun serial => !ps.contains serial }

/-- A crew's deferred permits on a channel's list offer their telegrams, in the order they stand (R12 step 5). -/
def State.offerPermitsOf (s : State) (slot : Nat) (b : Chan) : State :=
  ((s.chan b).permitDefer.filter fun serial => (s.permit? serial).any fun p => p.holder == slot).foldl
    (fun t serial => (t.offerDeferred serial).1) s

/-- The standing alarms of a crew, by order of entry. -/
def State.alarmsOf (s : State) (slot : Nat) : List AlarmRef := s.alarmOrder.filter fun a => s.alarmCrew a == some slot

/-- A crew's alarms join the set of the channel it has come to; one in ALARM or RAISED arms the call there (R119). -/
def State.moveAlarms (s : State) (slot : Nat) (b : Chan) : State :=
  let fresh := (s.alarmsOf slot).filter fun a => !(s.chan b).alarmSet.contains a
  let s1 := fresh.foldl (fun t a => t.joinSet a b) s
  if fresh.any s.unacked then s1.arm b else s1

/-- A crew move (R12), with the alarms it carries (R119) (assumption 16). -/
def State.moveCrew (s : State) (slot : Nat) (b : Chan) (cause : MoveCause) : State :=
  match s.crew? slot with
  | none => s
  | some k =>
    if k.current = b then s
    else
      let s1 := (s.modCrew slot fun k => { k with current := b }).post (.crewMoved slot k.unit k.current b cause)
      let s2 := (s1.migrateCrew slot k.current b).moveDeferrals slot k.current b
      ((s2.offerPermitsOf slot b).offerOwedAndHead slot).moveAlarms slot b

/-- A crew's other channel (R160). -/
def Crew.other (k : Crew) : Option Chan :=
  k.alt.map fun a => if k.current = k.home then a else k.home

/-- The rounds of space signals within one event. A round after the first follows a preemption that withdrew a head's entry,
and no event preempts a crew twice: one round for each crew, and one more (assumption 38). -/
def signalRounds : Nat := 65

/-- The space signals owed are given now (assumption 29). -/
def State.giveSignals (s : State) : State := s.deliverSignals signalRounds

/-- Each crew on a channel that has another channel in service is moved to it, by ascending slot; each move gives its space
signal at its last step (R157, R160, R171), except the signal of a channel under teardown (assumption 29). -/
def State.moveOff (s : State) (c : Chan) (cause : MoveCause) (teardown : Bool) : State :=
  ((s.crews.filter fun k => k.current == c).map (·.slot)).foldl (fun t slot =>
    match (t.crew? slot).bind Crew.other with
    | none => t
    | some b =>
      if t.inService b then
        let t1 := t.moveCrew slot b cause
        (if teardown then t1.withSignals (t1.signals.erase c) else t1).giveSignals
      else t) s

/-- Each crew whose home is a channel and that stands on another is moved home, by ascending slot (R161). -/
def State.moveHome (s : State) (c : Chan) : State :=
  ((s.crews.filter fun k => k.home == c && k.current != c).map (·.slot)).foldl
    (fun t slot => (t.moveCrew slot c .failback).giveSignals) s

end Sys2Proof.Machine
end

