-- ==== Sys2Proof/Machine/Roster.lean ====
section
/-! DEFINITION. Reachability (1.7): what the Roster Table does with final outcomes (R13, R14) and arrivals (R15), and what a return from LOST brings (R16). -/

namespace Sys2Proof.Machine

/-- The reachability a failure count gives (R13). -/
def reachOf (failures threshold : Nat) : Reach := if threshold ≤ failures then .lost else .suspect

/-- A crew's standing changes; a change of reachability is posted, and a return from LOST offers what the crew is owed
(R16). -/
def State.setStanding (s : State) (slot : Nat) (failures : Nat) (reach : Reach) (heard : Bool) : State :=
  match s.crew? slot with
  | none => s
  | some k =>
    let s1 := s.modCrew slot fun k =>
      { k with failures := failures, reach := reach, lastHeard := if heard then some s.clock else k.lastHeard }
    if k.reach = reach then s1
    else
      let s2 := s1.post (.crewReachability slot k.unit k.reach reach failures)
      if k.reach = .lost ∧ reach = .reachable then s2.offerOwedAndHead slot else s2

/-- A final failure of an individual telegram to a crew (R13). -/
def State.rosterFailure (s : State) (slot : Nat) : State :=
  match s.crew? slot with
  | none => s
  | some k =>
    s.setStanding slot (min 15 (k.failures + 1)) (reachOf (min 15 (k.failures + 1)) s.params.reachThreshold) false

/-- A delivery to a crew (R14), or an accepted telegram from it (R15). -/
def State.rosterHeard (s : State) (slot : Nat) : State := s.setStanding slot 0 .reachable true

end Sys2Proof.Machine
end

