-- ==== Sys2Proof/Machine/Attempts.lean ====
section
/-! DEFINITION. The outbound attempt from its start to its end (7.4, 7.5), its abandonment (R152), and the flush of a queue (R177). -/

namespace Sys2Proof.Machine

/-! ### The entry in flight and its owner -/

/-- The entry in flight on a channel. -/
def State.flying (s : State) (c : Chan) : Option Entry := (s.chan c).queue.find? (·.inFlight)

/-- The entry in flight on a channel is changed in its place. -/
def State.modFlying (s : State) (c : Chan) (f : Entry → Entry) : State :=
  s.modChan c fun ch => { ch with queue := modFirst (·.inFlight) f ch.queue }

/-- Whether an entry's owner still links it (R148): an ORDER telegram while its order is in SENT. -/
def State.links (s : State) (e : Entry) : Bool :=
  match e.owner with
  | .order n => (s.order? n).any fun o => o.state == .sent
  | _ => e.linked

/-- The owner is told that its entry is in flight, or queued again (R150). -/
def State.tellOwner (s : State) (e : Entry) (flying : Bool) : State :=
  if e.orphan || !s.links e then s
  else
    match e.owner with
    | .order n => s.modOrder n fun o => { o with link := some (if flying then .inFlight else .queued) }
    | .followUp n => s.setFollowUp n (if flying then .inFlight else .queued)
    | .permit tg serial => s.setTg serial tg (if flying then .inFlight else .queued)
    | .prompt slot => s.setPrompts slot e.body (if flying then .inFlight else .queued)
    | .freeAnswer _ | .alarmCall _ | .text _ => s

/-- The body of an ALARM_CALL, from the channel's set as it stands (R121). -/
def State.alarmBody (s : State) (c : Chan) : List Byte :=
  itemList (((s.chan c).alarmSet.filter s.unacked).take 8 |>.map fun a =>
    match a with
    | .worker badge =>
      match s.worker? badge with
      | some w => u16 badge ++ u16 (((s.crew? w.crew).map (·.unit)).getD 0) ++ u8 (codeOf AlarmCause.code w.cause)
      | none => []
    | .crew slot =>
      match s.crew? slot with
      | some k => u16 0 ++ u16 k.unit ++ u8 (codeOf AlarmCause.code k.alarmCause)
      | none => [])

/-- The body an attempt carries (R131, R142). -/
def State.bodyOf (s : State) (c : Chan) (e : Entry) : List Byte :=
  match e.body with
  | .bytes b => b
  | .prompt overdue badges => promptBody overdue badges
  | .atSend => s.alarmBody c

/-- An attempt begins with an entry (R142), and its first frame, which carries every block (R143).
The count of attempts used is not held at 5 (assumption 39). -/
def State.beginAttempt (s : State) (c : Chan) (e : Entry) : State :=
  let body := s.bodyOf c e
  let seq := e.seq.getD (s.chan c).groupSeq
  let blocks := blockCount body.length
  let begun (x : Entry) : Entry := { x with inFlight := true, attempts := x.attempts + 1, blocksSent := blocks }
  let s1 := s.modChan c fun ch =>
    { ch with
      queue := modFirst (· == e) begun ch.queue
      attempt := some { entry := e.admission, rpt := false, missing := [], body := body, seq := seq }
      groupSeq := if e.seq.isSome then ch.groupSeq else ch.groupSeq + 1 }
  (s1.tellOwner e true).modChan c fun ch =>
    { ch with state := .sending, ranOut := false, txFrame := telegramFrame e.kind e.addr seq body false (allBlocks body) }

/-! ### The end of an attempt (R151) -/

/-- The owner's part when an entry it no longer links ends (R35, R67), and when an orphan does (R152): only an ORDER
telegram's own link changes, and a TEXT is reported (assumption 26). -/
def State.endUnlinked (s : State) (e : Entry) : State :=
  match e.owner with
  | .order n => s.unlinkOrder n
  | _ => s

/-- The owner takes a DELIVERED result. -/
def State.ownerDelivered (s : State) (c : Chan) (e : Entry) : State :=
  match e.owner with
  | .order n => s.orderDelivered n
  | .followUp n => if e.linked then s.setFollowUp n .delivered else s
  | .permit tg serial => if e.linked then s.permitDelivered tg serial else s
  | .prompt slot => s.setPrompts slot e.body .delivered
  | .text _ => s.textResult c e .delivered
  | .freeAnswer _ | .alarmCall _ => s

/-- The owner takes a final failure or a REJECTED result. -/
def State.ownerFailed (s : State) (c : Chan) (e : Entry) (cause : OrderCause) (r : TextOutcome) : State :=
  match e.owner with
  | .order n => s.orderFailed n cause
  | .followUp n => if e.linked then s.followUpFailed n else s
  | .permit tg serial => if e.linked then s.permitFailed tg serial else s
  | .prompt slot => s.setPrompts slot e.body .failed
  | .text _ => s.textResult c e r
  | .freeAnswer _ | .alarmCall _ => s

/-- The result of a TEXT by the result of its attempt (R173). -/
def Result.textOutcome : Result → TextOutcome
  | .delivered => .delivered
  | .rejected code => .rejected code
  | .failed cause => .failed cause
  | .sent => .sent

/-- An orphan ends after the attempt under way, whatever its result (R152). -/
def State.endOrphan (s : State) (c : Chan) (e : Entry) (r : Result) : State :=
  let s1 := s.removeEntry c e
  match e.owner with
  | .text _ => s1.textResult c e r.textOutcome
  | _ => s1.endUnlinked e

/-- The Roster Table's part in an individual telegram's final failure or delivery (R13, R14). -/
def State.rosterTakes (s : State) (e : Entry) (f : State → Nat → State) : State :=
  match e.addr.slot? with
  | some slot => f s slot
  | none => s

/-- An entry stays in its queue after a failed attempt (R148); it migrates at once when its crew has moved (R176), and the
preemption check runs for an ORDER telegram (R36) (assumption 27). -/
def State.requeue (s : State) (c : Chan) (e : Entry) : State :=
  let e1 := { e with inFlight := false, holdOff := s.params.retryHoldOff }
  let s1 := (s.modFlying c fun _ => e1).tellOwner e1 false
  let s2 := match e.addr.slot?.bind s1.crew? with
    | some k =>
      if k.current = c then s1
      else (((s1.modChan c fun ch => { ch with queue := ch.queue.erase e1 }).flowEval c).signal c).migrate k.current e1
    | none => s1
  match e.owner with
  | .order n => s2.checkCrewOf n
  | _ => s2

/-- A failed attempt is taken (R148). An ALARM_CALL whose set holds no alarm in ALARM or RAISED any more is removed
(R131: it is removed before a further send can begin) (assumptions 28 and 35). -/
def State.endFailed (s : State) (c : Chan) (e : Entry) (cause : FailCause) : State :=
  if !s.links e then (s.removeEntry c e).endUnlinked e
  else if e.attempts < s.params.attemptLimit ∧ !(e.isCall && !s.callsFor c) then s.requeue c e
  else
    (((s.removeEntry c e).ownerFailed c e .failed (.failed cause)).rosterTakes e State.rosterFailure)

/-- A group send has completed (R121, R149, R173) (assumption 28). -/
def State.endSent (s : State) (c : Chan) (e : Entry) : State :=
  match e.owner with
  | .alarmCall _ =>
    let left := e.repeats.getD 0
    if !s.callsFor c then s.removeEntry c e
    else if e.rearm then
      s.modFlying c fun e =>
        { e with inFlight := false, attempts := 0, rearm := false, repeats := some s.params.alarmRepeats, holdOff := 0 }
    else if left ≤ 1 then s.removeEntry c e
    else
      s.modFlying c fun e =>
        { e with inFlight := false, attempts := 0, repeats := some (left - 1), holdOff := s.params.alarmRepeatInterval }
  | _ => (s.removeEntry c e).textResult c e .sent

/-- Steps 1 to 3 of the end of an attempt (R151): the queue, the owner, the Roster Table. Step 5, the space signal of a slot
freed, is owed from step 1 and given after the event (assumption 35). -/
def State.endAttempt (s : State) (c : Chan) (r : Result) : State :=
  match s.flying c with
  | none => s
  | some e =>
    let s1 := s.modChan c fun ch => { ch with attempt := none, replyWindow := none, txFrame := [] }
    if e.orphan then s1.endOrphan c e r
    else
      match r with
      | .delivered => ((s1.removeEntry c e).ownerDelivered c e).rosterTakes e State.rosterHeard
      | .rejected code => (s1.removeEntry c e).ownerFailed c e .rejected (.rejected code)
      | .failed cause => s1.endFailed c e cause
      | .sent => s1.endSent c e

/-! ### Abandonment and flush -/

/-- An attempt is abandoned (R152). An orphan waits for the flush. -/
def State.abandon (s : State) (c : Chan) : State :=
  match s.flying c with
  | none => s
  | some e =>
    let e1 := { e with inFlight := false }
    let s1 := (s.modChan c fun ch => { ch with attempt := none }).modFlying c fun _ => e1
    if e.orphan then s1
    else if !s.links e then (s1.removeEntry c e1).endUnlinked e1
    else
      let s2 := s1.tellOwner e1 false
      match e.owner with
      | .order n => s2.checkCrewOf n
      | _ => s2

/-- One entry is flushed (R177). -/
def State.flushEntry (s : State) (c : Chan) (e : Entry) : State :=
  let s1 := (s.modChan c fun ch => { ch with queue := ch.queue.erase e }).flowEval c
  if e.orphan then
    match e.owner with
    | .text _ => s1.textResult c e (.dropped .signedOff)
    | _ => s1.endUnlinked e
  else s1.returnToOwner State.check c e .full .flushed

/-- The channel an entry follows its crew to, when that crew stands on another (R157, R177). -/
def State.strayTo (s : State) (c : Chan) (e : Entry) : Option Chan :=
  if e.orphan then none
  else (e.addr.slot?.bind s.crew?).bind fun k => if k.current = c then none else some k.current

/-- Every entry whose crew stands on another channel migrates there (R157 step 3, R176, R177). -/
def State.migrateStrays (s : State) (c : Chan) : State :=
  (s.chan c).queue.foldl (fun t e =>
    match t.strayTo c e with
    | some b => ((t.modChan c fun ch => { ch with queue := ch.queue.erase e }).flowEval c).migrate b e
    | none => t) s

/-- A flush takes the entries from the front of the list; an entry whose crew stands on another channel migrates there
instead (R177). The count is of the entries flushed (assumption 29). -/
def State.flush (s : State) (c : Chan) : State × Nat :=
  (s.chan c).queue.foldl (fun (t, n) e =>
    if (t.chan c).queue.contains e then
      match t.strayTo c e with
      | some b => (((t.modChan c fun ch => { ch with queue := ch.queue.erase e }).flowEval c).migrate b e, n)
      | none => (t.flushEntry c e, n + 1)
    else (t, n)) (s, 0)

/-! ### Channel states (7.3, 7.7) -/

/-- The controller's part of leaving the air: nothing is sent, received, awaited or assembled, and no failback runs
(R140, R157, R158, R178). -/
def Channel.offAir (ch : Channel) : Channel :=
  { ch with
    ranOut := false
    replyWindow := none
    repeatWait := none
    origin := none
    failback := none
    afterAnswer := none
    assembly := none
    txFrame := [] }

/-- A channel enters DOWN: the failover countdown starts (R159). -/
def State.enterDown (s : State) (c : Chan) : State :=
  s.modChan c fun ch => { ch with state := .down, failover := some s.params.failoverTime, txFrame := [] }

/-- A channel enters IDLE from DOWN (R140, R161): its countdowns, its notice, its alarm call (R120) and its space signal
(R171). -/
def State.enterIdleFromDown (s : State) (c : Chan) : State :=
  let s1 := (s.modChan c fun ch =>
    { ch with state := .idle, failover := none, failback := some s.params.failoverTime, txFrame := [] }).post
      (.channelState c .down .idle .ready)
  (if s1.callsFor c ∧ !(s1.chan c).queue.any Entry.isCall then s1.arm c else s1).signal c

end Sys2Proof.Machine
end

