-- ==== Sys2Proof/Machine/Flags.lean ====
section
/-! DEFINITION. The part's flags: the response summary (R194), ATTN (R204) and KEY (R137). -/

namespace Sys2Proof.Machine

/-- The summary byte of a response (R194, 10.6). -/
def State.summary (s : State) : Nat :=
  (if s.notices.isEmpty then 0 else 1) + (if s.overflow then 2 else 0) + (if s.alarmActive then 4 else 0)
    + (if s.responseLost then 8 else 0)

/-- Whether a channel state has KEY active (R137). -/
def ChState.keyed : ChState → Bool
  | .sending | .answering => true
  | _ => false

/-- The condition of ATTN (R204). -/
def State.wantsAttention (s : State) : Bool := !s.notices.isEmpty || s.alarmActive

/-- The output lines follow the state: ATTN (R204) and each port's KEY (R137). -/
def State.settle (s : State) : State :=
  let s1 := s.modChans fun ch => { ch with key := ch.state.keyed }
  { s1 with attn := s1.wantsAttention }

end Sys2Proof.Machine
end

