-- ==== Sys2Proof/Machine/Console.lean ====
section
/-! DEFINITION. The Console Link Port (Chapter 10): transfers (R191, R193), responses (R194), and the course of a command from the outside: a console request, or an event. -/

namespace Sys2Proof.Machine

/-- The start byte of a frame on the console link (10.6). -/
def startByte : Byte := 0xA5

/-- What a transfer shifts out: the held response from its first byte, and 0 after its last (R191). -/
def State.shifted (s : State) (clocks : Nat) : List Byte :=
  ((s.held.getD []).take clocks) ++ List.replicate (clocks - (s.held.getD []).length) 0

/-- Whether a transfer reads the held response: all its bytes are clocked out (R191). -/
def State.readOut (s : State) (clocks : Nat) : Bool := s.held.all fun r => r.length ≤ clocks

/-- A transfer without a request (R191). -/
def State.readTransfer (s : State) (clocks : Nat) : State :=
  { s with linkOut := s.shifted clocks, held := if s.readOut clocks then none else s.held }

/-- A transfer that carries a request: a held response not clocked out in full is discarded, and the indicator is set
(R193) (assumption 10). -/
def State.requestTransfer (s : State) (clocks : Nat) : State :=
  { s with linkOut := s.shifted clocks, held := none, responseLost := s.responseLost || !s.readOut clocks }

/-- The bytes of a response (R194, 10.6). -/
def responseBytes (status : Status) (tag : Byte) (summary : Nat) (results : List Byte) : List Byte :=
  let inner := u8 (3 + results.length) ++ u8 status.code ++ [tag] ++ u8 summary ++ results
  [startByte] ++ inner ++ checkBytes inner

/-- A response carries results only under OK and ADJUSTED (R194). -/
def Status.carries : Status → Bool
  | .ok | .adjusted => true
  | _ => false

/-- The response is formed and held; the response-lost indicator clears as it is formed (R193, R194). -/
def State.respond (s : State) (tag : Byte) (status : Status) (results : List Byte) : State :=
  { s with
    held := some (responseBytes status tag s.summary (if status.carries then results else []))
    responseLost := false }

/-- What a request's owning block returns: the state after it, the status and the results (R195). -/
abbrev Reply := State × Status × List Byte

/-- A refused request changes no record (R195). -/
def State.refuse (s : State) (st : Status) : Reply := (s, st, [])

/-- A console request (R191 to R195): the transfer, the request's own work, the space signals it owes (R171), the response
(assumption 40), and the output lines. -/
def State.console (s : State) (x : Xfer) (work : State → Reply) : State :=
  let r := work ((s.requestTransfer x.clocks).withSignals [])
  (r.1.giveSignals.respond x.tag r.2.1 r.2.2).settle

/-- An event that is not a console transfer: its own work, the space signals it owes, and the output lines. -/
def State.event (s : State) (work : State → State) : State := (work (s.withSignals [])).giveSignals.settle

end Sys2Proof.Machine
end

