-- ==== Sys2Proof/Machine/Operands.lean ====
section
/-! DEFINITION. What the console link carries: the notice record and its subjects (10.6), the queue entry record (10.6), and the results of the queries, each field with the width of 10.6. -/

namespace Sys2Proof.Machine

/-! ### Notices -/

/-- The kind code of a notice (10.6). -/
def Subject.code : Subject → Nat
  | .orderState .. => 0x01 | .orderUnanswered .. => 0x02 | .orderWaiting .. => 0x03 | .replyIgnored .. => 0x04
  | .crewReachability .. => 0x05 | .crewMoved .. => 0x06 | .stranger .. => 0x07 | .channelState .. => 0x08
  | .textResult .. => 0x09 | .crewMessage .. => 0x0A | .permitState .. => 0x0B | .surrenderRequested .. => 0x0C
  | .stepReportIgnored .. => 0x0D | .lateReport .. => 0x0E | .checkinDuringAlarm .. => 0x0F | .watchState .. => 0x10
  | .alarm .. => 0x11 | .alarmEscalated .. => 0x12 | .strangerEmergency .. => 0x13

/-- A crew slot field: 0xFF for none (10.6). -/
def slotField (x : Option Nat) : List Byte := u8 (x.getD 0xFF)

/-- The subject fields of a notice, in the order its posting rule names them (R16, R23, R31, R37, R38, R10, R66, R73, R77, R82,
R99, R108, R114, R115, R139, R173, R182, R183, R188) (assumption 12). -/
def Subject.fields : Subject → List Byte
  | .orderState n k a b cause => u16 n ++ slotField k ++ u8 a.code ++ u8 b.code ++ u8 (codeOf OrderCause.code cause)
  | .orderUnanswered n k at' => u16 n ++ slotField k ++ u32 at'
  | .orderWaiting k w h => u8 k ++ u16 w ++ u16 h
  | .replyIgnored k n code st => u8 k ++ u16 n ++ u8 code ++ u8 (codeOf OrderState.code st)
  | .crewReachability k unit a b n => u8 k ++ u16 unit ++ u8 a.code ++ u8 b.code ++ u8 n
  | .crewMoved k unit a b cause => u8 k ++ u16 unit ++ u8 a.val ++ u8 b.val ++ u8 cause.code
  | .stranger c src kind seq => u8 c.val ++ u16 src ++ u8 kind ++ u8 seq.toNat
  | .channelState c a b cause => u8 c.val ++ u8 a.code ++ u8 b.code ++ u8 cause.code
  | .textResult n (.crew k) r => u16 n ++ u8 k ++ u8 r.code ++ u8 r.causeCode
  | .textResult n (.group c sel m) r => u16 n ++ u8 c.val ++ u16 sel ++ u16 m ++ u8 r.code ++ u8 r.causeCode
  | .crewMessage c k unit len count => u8 c.val ++ u8 k ++ u16 unit ++ u8 len ++ u8 count
  | .permitState serial k a b cause => u16 serial ++ u8 k ++ u8 a.code ++ u8 b.code ++ u8 cause.code
  | .surrenderRequested serial k t => u16 serial ++ u8 k ++ u32 t
  | .stepReportIgnored k kind serial i o r => u8 k ++ u8 kind ++ u16 serial ++ u8 i ++ u8 o ++ u8 r.code
  | .lateReport k serial i o st => u8 k ++ u16 serial ++ u8 i ++ u8 o ++ u8 st.code
  | .checkinDuringAlarm badge k kind st => u16 badge ++ u8 k ++ u8 kind ++ u8 st.code
  | .watchState badge k a b cause => u16 badge ++ u8 k ++ u8 a.code ++ u8 b.code ++ u8 cause.code
  | .alarm badge k unit cause old => u16 badge ++ u8 k ++ u16 unit ++ u8 cause.code ++ u8 old.code
  | .alarmEscalated badge k unit cause => u16 badge ++ u8 k ++ u16 unit ++ u8 (codeOf AlarmCause.code cause)
  | .strangerEmergency c src seq badge cause => u8 c.val ++ u16 src ++ u8 seq.toNat ++ u16 badge ++ u8 cause.code

/-- A notice record (10.6). -/
def Notice.record (n : Notice) : List Byte :=
  u8 n.subject.code ++ u32 n.clock ++ u8 n.subject.fields.length ++ n.subject.fields

/-! ### Queue entries -/

/-- The owner type and owner number of a queue entry (10.6). -/
def Owner.fields : Owner → List Byte
  | .order n => u8 0x01 ++ u16 n
  | .followUp n => u8 0x02 ++ u16 n
  | .permit .instruct serial => u8 0x03 ++ u16 serial
  | .permit .issue serial => u8 0x04 ++ u16 serial
  | .permit .answer serial => u8 0x05 ++ u16 serial
  | .permit .closing serial => u8 0x06 ++ u16 serial
  | .freeAnswer serial => u8 0x07 ++ u16 serial
  | .prompt slot => u8 0x08 ++ u16 slot
  | .alarmCall c => u8 0x09 ++ u16 c.val
  | .text n => u8 0x0A ++ u16 n

/-- The group mark, address, and crew slot or mask of a queue entry (10.6). -/
def Addr.fields : Addr → List Byte
  | .crew slot unit => u8 0 ++ u16 unit ++ u16 slot
  | .group sel m => u8 1 ++ u16 sel ++ u16 m

/-- A queue entry record of 24 bytes (10.6). -/
def Entry.record (e : Entry) : List Byte :=
  e.owner.fields ++ u8 e.kind.code ++ u8 e.cls.code ++ e.addr.fields ++ u8 ((e.seq.map (·.toNat)).getD 0xFF)
    ++ u8 e.body.length ++ u8 e.attempts ++ u16 e.holdOff ++ u8 e.blocksSent ++ u8 (e.repeats.getD 0xFF)
    ++ mark e.inFlight ++ mark e.rearm ++ mark e.orphan ++ u32 e.admission

/-! ### Results of the queries -/

/-- A channel or none, coded 0xFF (10.6). -/
def altField (x : Option Chan) : List Byte := u8 ((x.map (·.val)).getD 0xFF)

/-- QUERY_CREW (R19). -/
def State.crewFields (s : State) (k : Crew) : List Byte :=
  u8 k.slot ++ u16 k.unit ++ u8 k.qual ++ u8 k.home.val ++ altField k.alt ++ u8 k.current.val ++ u8 k.reach.code
    ++ u8 k.failures ++ optional 4 (k.lastHeard.map u32) ++ u8 k.outSeq.toNat ++ optional 1 (k.inSeq.map fun q => u8 q.toNat)
    ++ itemList (k.members.map u16) ++ u8 k.alarm.code ++ mark k.escalated ++ u8 k.queue.length ++ mark (s.highRisk k.slot)

/-- Every watch field of a worker, in the order of the table of 5.1, as QUERY_WORKER and REVIEW_WORKER give them
(R20, R107) (assumption 12). -/
def Worker.watchRecord (w : Worker) : List Byte :=
  u8 w.watch.code ++ u16 w.interval ++ u16 w.grace ++ optional 2 (w.eff.map u16) ++ optional 2 (w.lead.map u16)
    ++ countdown w.remaining ++ countdown w.graceLeft ++ u8 w.missed ++ mark w.leadOwed
    ++ u8 (codeOf PromptStatus.code w.prompt) ++ u8 (codeOf AlarmCause.code w.cause) ++ countdown w.escal ++ mark w.escalated

/-- QUERY_WORKER (R20): the badge, its crew and place, and the watch fields. -/
def State.workerFields (s : State) (w : Worker) : List Byte :=
  let k := s.crew? w.crew
  u16 w.badge ++ u8 w.crew ++ u16 ((k.map (·.unit)).getD 0)
    ++ u8 ((k.map fun k => k.members.findIdx (· == w.badge) + 1).getD 0) ++ w.watchRecord

/-- The place of an order in its crew queue, from 1. -/
def State.placeOf (s : State) (o : Order) : Option Nat :=
  (o.crew.bind s.crew?).bind fun k => if k.queue.contains o.number then some (k.queue.findIdx (· == o.number) + 1) else none

/-- QUERY_ORDER (R46): the fields of 2.1 in table order, the place in the crew queue, and the text, which takes the rest.
The follow-up takes a byte for its kind and one for its status, each 0 for none (assumption 12). -/
def State.orderFields (s : State) (o : Order) : List Byte :=
  u16 o.number ++ u8 o.priority.code ++ u8 o.state.code ++ optional 1 (o.crew.map u8) ++ u16 (o.bound.getD 0)
    ++ u32 o.created ++ optional 4 (o.deliveredAt.map u32) ++ u32 o.asgSeq ++ u8 (codeOf Deferral.code o.deferral)
    ++ u8 (codeOf ReturnCause.code o.returned) ++ countdown o.acceptance ++ mark o.unanswered ++ u8 (codeOf Link.code o.link)
    ++ u8 (codeOf (fun f => f.1.code) o.followUp) ++ u8 (codeOf (fun f => f.2.code) o.followUp)
    ++ optional 1 ((s.placeOf o).map u8) ++ o.text

/-- One entry of LIST_QUEUE (R46). -/
def Order.queueFields (o : Order) : List Byte :=
  u16 o.number ++ u8 o.priority.code ++ u8 o.state.code ++ u8 (codeOf Deferral.code o.deferral)
    ++ u8 (codeOf Link.code o.link) ++ mark o.unanswered

/-- Whether a permit is under alarm hold. -/
def State.held? (s : State) (serial : Nat) : Bool := (s.permit? serial).any (·.hold)

/-- How many permits not CLOSED name a device in their step lists (R50). -/
def State.permitsNaming (s : State) (device : Nat) : Nat :=
  (s.permits.filter fun p => p.state != .closed && p.steps.any fun t => t.device == device).length

/-- QUERY_DEVICE (R51). -/
def State.deviceFields (s : State) (d : Device) : List Byte :=
  u16 d.number ++ u8 d.kind.code ++ u8 d.position.code ++ u8 d.isolation.code
    ++ optional 1 (d.restore.map fun p => u8 p.code) ++ itemList (d.tags.map u16)
    ++ optional 3 (d.pending.map fun p => u16 p.1 ++ u8 p.2.code)
    ++ itemList (d.waits.map fun serial => u16 serial ++ mark (s.held? serial)) ++ u8 (s.permitsNaming d.number)

/-- A permit's place on a permit deferral list (R96), counted from 1 (assumption 12). -/
def State.deferralPlace (s : State) (serial : Nat) : Option Nat :=
  (allChans.find? fun c => (s.chan c).permitDefer.contains serial).map fun c =>
    (s.chan c).permitDefer.findIdx (· == serial) + 1

/-- QUERY_PERMIT (R96): the fields of 4.1 in table order, the stack from bottom to top, and the place on a deferral list.
The digest takes two bytes, as in the telegrams that carry it (assumption 12). -/
def State.permitFields (s : State) (p : Permit) : List Byte :=
  u16 p.serial ++ u8 p.holder ++ u8 p.minQual ++ u8 p.state.code
    ++ itemList (p.steps.map fun t => u16 t.device ++ u8 t.action.code) ++ u8 p.k
    ++ itemList (p.stack.reverse.map fun e => u16 e.1 ++ u8 e.2.code)
    ++ optional 6 (p.outstanding.map fun i => u8 i.index ++ u16 i.device ++ u8 i.role.code ++ u8 i.action.code ++ u8 i.status.code)
    ++ optional 1 (p.lastReleased.map u8) ++ mark p.cancelWait
    ++ optional 2 (p.stall.map fun x => u8 x.1.code ++ u8 x.2.code) ++ u8 p.issueCount ++ u8 (codeOf TgStatus.code p.issue)
    ++ mark p.issueOwed ++ countdown p.readback ++ optional 2 (p.digest.map u16) ++ mark p.surrender
    ++ optional 3 (p.answer.map fun a => u8 a.answer.code ++ u8 (codeOf SurrenderReason.code a.reason) ++ u8 a.status.code)
    ++ u8 (codeOf TgStatus.code p.closing) ++ mark p.hold ++ mark p.deferred ++ mark p.waiting
    ++ optional 1 ((s.deferralPlace p.serial).map u8)

/-- READ_MESSAGE (R188, R189); the text length takes one byte (assumption 12). -/
def Message.fields (m : Message) : List Byte :=
  u8 m.slot ++ u16 m.unit ++ u8 m.chan.val ++ u32 m.clock ++ u8 m.seq.toNat ++ u8 m.text.length ++ m.text

/-- QUERY_CHANNEL (R201). -/
def State.channelFields (s : State) (c : Chan) (first : Nat) : List Byte :=
  let ch := s.chan c
  u8 ch.state.code ++ mark ch.ready ++ mark ch.carrier ++ mark ch.flowHold ++ u8 ch.queue.length
    ++ countdown ch.failover ++ countdown ch.failback ++ u8 ch.groupSeq.toNat ++ u8 ch.mailbox.length
    ++ u8 ch.alarmSet.length ++ u8 (ch.alarmSet.filter s.unacked).length ++ u8 ch.permitDefer.length
    ++ u8 ch.orderDefer.length ++ itemList (((ch.queue.drop first).take 8).map Entry.record)

end Sys2Proof.Machine
end

