-- ==== Sys2Proof/Machine/Requests.lean ====
section
/-! DEFINITION. What the console requests share: the checks of a named thing that come before every other check (R1, R2, R21, R47, R62, 7.7), clamping (R196), and the parameter table (R199, R200). -/

namespace Sys2Proof.Machine

/-- A command's answer: the part always goes on (the manual gives it no stop). -/
abbrev Answered := Host.Outcome State Fault Refusal

/-! ### Things a request names -/

/-- The crew a slot names: BAD_VALUE above 63, NOT_FOUND for a free slot (R1). -/
def State.onCrew (s : State) (slot : Byte) (work : Crew → Reply) : Reply :=
  if 63 < slot.toNat then s.refuse .badValue
  else match s.crew? slot.toNat with
    | none => s.refuse .notFound
    | some k => work k

/-- The worker a badge names: BAD_VALUE for 0 or 65535, NOT_FOUND for a badge no record holds (R2). -/
def State.onWorker (s : State) (h l : Byte) (work : Worker → Reply) : Reply :=
  if be16 h l = 0 ∨ be16 h l = 65535 then s.refuse .badValue
  else match s.worker? (be16 h l) with
    | none => s.refuse .notFound
    | some w => work w

/-- The order a number names: BAD_VALUE for 0, NOT_FOUND for a number no record holds (R21). -/
def State.onOrder (s : State) (h l : Byte) (work : Order → Reply) : Reply :=
  if be16 h l = 0 then s.refuse .badValue
  else match s.order? (be16 h l) with
    | none => s.refuse .notFound
    | some o => work o

/-- The device a number names: BAD_VALUE above 511, NOT_FOUND for an unloaded place (R47). -/
def State.onDevice (s : State) (h l : Byte) (work : Device → Reply) : Reply :=
  if 511 < be16 h l then s.refuse .badValue
  else match s.device? (be16 h l) with
    | none => s.refuse .notFound
    | some d => work d

/-- The permit a serial names: BAD_VALUE for 0, NOT_FOUND for a serial no record holds (R62). -/
def State.onPermit (s : State) (h l : Byte) (work : Permit → Reply) : Reply :=
  if be16 h l = 0 then s.refuse .badValue
  else match s.permit? (be16 h l) with
    | none => s.refuse .notFound
    | some p => work p

/-- The channel a number names: BAD_VALUE above 3 (7.7, R189, R201). -/
def State.onChannel (s : State) (b : Byte) (work : Chan → Reply) : Reply :=
  match chanOf b.toNat with
  | none => s.refuse .badValue
  | some c => work c

/-- A channel or 255 for none (R3, R11). -/
def altOf (b : Byte) : Option (Option Chan) :=
  if b.toNat = 255 then some none else (chanOf b.toNat).map some

/-- An alternate equal to the home channel is stored as none (R10). -/
def storedAlt (home : Chan) (alt : Option Chan) : Option Chan := if alt = some home then none else alt

/-! ### Clamping (R196) -/

/-- A value clamped to its range. -/
def clamp (lo hi v : Nat) : Nat := min hi (max lo v)

/-- OK, or ADJUSTED when a value was clamped or truncated. -/
def adjusted (b : Bool) : Status := if b then .adjusted else .ok

/-! ### Parameters (R199) -/

/-- The value of a parameter by its number. -/
def Params.get? (p : Params) : Nat → Option Nat
  | 1 => some p.attemptLimit | 2 => some p.retryHoldOff | 3 => some p.replyWindow | 4 => some p.repeatWait
  | 5 => some p.blockAllowance | 6 => some p.reachThreshold | 7 => some p.failoverTime | 8 => some p.highMark
  | 9 => some p.lowMark | 10 => some p.alarmRepeats | 11 => some p.alarmRepeatInterval | 12 => some p.escalationTime
  | 13 => some p.highRiskCap | 14 => some p.promptLead | 15 => some p.defaultInterval | 16 => some p.defaultGrace
  | 17 => some p.restLimit | 18 => some p.acceptanceTimeout | 19 => some p.issueLimit | 20 => some p.readbackWait
  | _ => none

/-- The lowest and highest values a parameter's range allows, the high mark as it stands (R199, R200). -/
def Params.range (p : Params) : Nat → Nat × Nat
  | 1 => (1, 5) | 2 => (1, 60) | 3 => (100, 3000) | 4 => (100, 3000) | 5 => (0, 4) | 6 => (2, 8) | 7 => (10, 600)
  | 8 => (8, 24) | 9 => (0, p.highMark - 1) | 10 => (1, 3) | 11 => (5, 60) | 12 => (30, 600) | 13 => (60, 1800)
  | 14 => (0, 300) | 15 => (60, 3600) | 16 => (30, 900) | 17 => (300, 14400) | 18 => (60, 1800) | 19 => (1, 3)
  | 20 => (30, 600) | _ => (0, 0)

/-- A parameter stored; a new high mark at or below the low mark lowers the low mark to one less (R200). -/
def Params.put (p : Params) (n v : Nat) : Params :=
  match n with
  | 1 => { p with attemptLimit := v } | 2 => { p with retryHoldOff := v } | 3 => { p with replyWindow := v }
  | 4 => { p with repeatWait := v } | 5 => { p with blockAllowance := v } | 6 => { p with reachThreshold := v }
  | 7 => { p with failoverTime := v }
  | 8 => { p with highMark := v, lowMark := if v ≤ p.lowMark then v - 1 else p.lowMark }
  | 9 => { p with lowMark := v } | 10 => { p with alarmRepeats := v } | 11 => { p with alarmRepeatInterval := v }
  | 12 => { p with escalationTime := v } | 13 => { p with highRiskCap := v } | 14 => { p with promptLead := v }
  | 15 => { p with defaultInterval := v } | 16 => { p with defaultGrace := v } | 17 => { p with restLimit := v }
  | 18 => { p with acceptanceTimeout := v } | 19 => { p with issueLimit := v } | 20 => { p with readbackWait := v }
  | _ => p

/-! ### Records -/

/-- A worker record as it is taken (R97). -/
def State.newWorker (s : State) (badge slot : Nat) : Worker where
  badge     := badge
  crew      := slot
  watch     := .off
  interval  := s.params.defaultInterval
  grace     := s.params.defaultGrace
  eff       := none
  lead      := none
  remaining := none
  graceLeft := none
  missed    := 0
  leadOwed  := false
  prompt    := none
  cause     := none
  escal     := none
  escalated := false

/-- The numbers of the crew slots that are free, ascending (R1). -/
def State.freeSlots (s : State) : List Nat := (List.range 64).filter fun i => (s.crew? i).isNone

/-- Whether no worker record is free (R2). -/
def State.workersFull (s : State) : Bool := 160 ≤ s.workers.length

/-- A worker's watch is OFF, as STOP_WATCH leaves it (R106). -/
def Worker.stopped (w : Worker) : Worker :=
  { w with watch := .off, remaining := none, graceLeft := none, eff := none, lead := none, leadOwed := false }

end Sys2Proof.Machine
end

