-- ==== Sys2Proof/Machine/ChannelRequests.lean ====
section
/-! DEFINITION. The meanings of the channel requests (7.7), of SEND_TEXT (R172) and of READ_MESSAGE (R189). -/

namespace Sys2Proof.Machine

/-- A channel's state as a result field. -/
def State.channelStateField (s : State) (c : Chan) : List Byte := u8 (s.chan c).state.code

/-- A channel that has entered DOWN goes on to IDLE if READY is active (R140, R156, R158). -/
def State.comeUp (s : State) (c : Chan) : State := if (s.chan c).ready then s.enterIdleFromDown c else s

/-- ENABLE_CHANNEL (R156). -/
def askEnableChannel (params : List Byte) (s : State) : Reply :=
  match params with
  | [b] => s.onChannel b fun c =>
    if (s.chan c).state ≠ .off then s.refuse .badState
    else
      let t := ((s.enterDown c).post (.channelState c .off .down .request)).comeUp c
      (t, .ok, t.channelStateField c)
  | _ => s.refuse .badValue

def execEnableChannel (x : Xfer) (params : List Byte) (s : State) : Answered := .next (s.console x (askEnableChannel params))

/-- No space signal is given for a channel under teardown (R171). -/
def State.muteSignal (s : State) (c : Chan) : State := s.withSignals (s.signals.erase c)

/-- How many crews stand on a channel. -/
def State.crewsOn (s : State) (c : Chan) : Nat := (s.crews.filter fun k => k.current == c).length

/-- Steps 1 to 3 of a disable (R157): the teardown, OFF, and the crew moves (assumption 22). -/
def State.takeOff (s : State) (c : Chan) : State :=
  let s1 := (s.abandon c).modChan c fun ch => { ch.offAir with state := .off, failover := none }
  let s2 := (s1.post (.channelState c (s.chan c).state .off .request)).muteSignal c
  (s2.moveOff c .disable true).migrateStrays c

/-- DISABLE_CHANNEL (R157). -/
def askDisableChannel (params : List Byte) (s : State) : Reply :=
  match params with
  | [b] => s.onChannel b fun c =>
    if (s.chan c).state = .off then s.refuse .badState
    else
      let t := s.takeOff c
      let r := t.flush c
      (r.1.muteSignal c, .ok, u8 (s.crewsOn c - t.crewsOn c) ++ u8 r.2)
  | _ => s.refuse .badValue

def execDisableChannel (x : Xfer) (params : List Byte) (s : State) : Answered := .next (s.console x (askDisableChannel params))

/-- RESTART_CHANNEL (R158). -/
def askRestartChannel (params : List Byte) (s : State) : Reply :=
  match params with
  | [b] => s.onChannel b fun c =>
    if (s.chan c).state = .off then s.refuse .badState
    else
      let old := (s.chan c).state
      let r := ((s.abandon c).modChan c Channel.offAir).flush c
      let s1 := ((r.1.muteSignal c).modChan c fun ch => { ch with mailbox := [] }).enterDown c
      let s2 := if old = .down then s1 else s1.post (.channelState c old .down .request)
      (s2.comeUp c, .ok, u8 r.2)
  | _ => s.refuse .badValue

def execRestartChannel (x : Xfer) (params : List Byte) (s : State) : Answered := .next (s.console x (askRestartChannel params))

/-! ### SEND_TEXT -/

/-- Whether a unit address matches a selector under a mask (R18). -/
def reaches (unit selector mask : Nat) : Bool := (unit &&& mask) == (selector &&& mask)

/-- The reach of a group telegram on a channel (R18). -/
def State.reach (s : State) (c : Chan) (selector mask : Nat) : Nat :=
  (s.crews.filter fun k => k.current == c && reaches k.unit selector mask).length

/-- The checks of a channel's queue, and the admission of a text (R172, rows 3 and 4). The stored text length in the response is
one byte (assumption 12). -/
def State.admitText (s : State) (c : Chan) (addr : Addr) (text : List Byte) (last : List Byte) : Reply :=
  if 24 ≤ (s.chan c).queue.length then s.refuse .full
  else if (s.chan c).flowHold then s.refuse .held
  else
    let e := newEntry (.text s.textCounter) .text .text addr (.bytes (text.take 80))
      (match addr with
        | .crew _ _ => none
        | .group _ _ => some 1)
    ({ s with textCounter := s.textCounter % 65535 + 1 }.offer c e true (fun t => t) (fun t _ => t),
      adjusted (80 < text.length), u16 s.textCounter ++ u8 c.val ++ u8 (min 80 text.length) ++ last)

/-- SEND_TEXT (R172). -/
def askSendText (params : List Byte) (s : State) : Reply :=
  match params with
  | t :: b :: rest =>
    if t.toNat = 1 then s.onCrew b fun k =>
      if rest.isEmpty then s.refuse .badValue else s.admitText k.current k.addr rest (u8 k.outSeq.toNat)
    else if t.toNat = 2 then
      match chanOf b.toNat, rest with
      | some c, sh :: sl :: mh :: ml :: text =>
        if 8191 < be16 sh sl ∨ 8191 < be16 mh ml ∨ text.isEmpty then s.refuse .badValue
        else if s.reach c (be16 sh sl) (be16 mh ml) = 0 then s.refuse .notFound
        else s.admitText c (.group (be16 sh sl) (be16 mh ml)) text (u8 (s.reach c (be16 sh sl) (be16 mh ml)))
      | _, _ => s.refuse .badValue
    else s.refuse .badValue
  | _ => s.refuse .badValue

def execSendText (x : Xfer) (params : List Byte) (s : State) : Answered := .next (s.console x (askSendText params))

/-- READ_MESSAGE (R189) (assumption 12). -/
def askReadMessage (params : List Byte) (s : State) : Reply :=
  match params with
  | [b] => s.onChannel b fun c =>
    match (s.chan c).mailbox with
    | [] => s.refuse .notFound
    | m :: rest => (s.modChan c fun ch => { ch with mailbox := rest }, .ok, m.fields ++ u8 rest.length)
  | _ => s.refuse .badValue

def execReadMessage (x : Xfer) (params : List Byte) (s : State) : Answered := .next (s.console x (askReadMessage params))

end Sys2Proof.Machine
end

