-- ==== Sys2Proof/Machine/ClockEvents.lean ====
section
/-! DEFINITION. The meanings of the tick (R198) and of the expiries of the seconds countdowns. An expiry is enabled while its countdown stands at 0; otherwise it changes nothing. -/

namespace Sys2Proof.Machine

/-- A countdown lowered by one tick. -/
def ticked (x : Option Nat) : Option Nat := x.map (· - 1)

/-- The countdowns of a worker (R97). -/
def Worker.ticked (w : Worker) : Worker :=
  { w with remaining := Machine.ticked w.remaining, graceLeft := Machine.ticked w.graceLeft, escal := Machine.ticked w.escal }

/-- The countdowns of a channel and the hold-offs of its queue (R138, R148, R159, R161). The moment of an expiry before the tick
is over (assumption 41). -/
def Channel.ticked (ch : Channel) : Channel :=
  { ch with
    ranOut := false
    failover := Machine.ticked ch.failover
    failback := Machine.ticked ch.failback
    queue := ch.queue.map fun e => { e with holdOff := e.holdOff - 1 } }

/-- Every seconds countdown is lowered and the clock advances (R198) (assumption 5). -/
def State.countDown (s : State) : State :=
  { s with
    clock := s.clock + 1
    crews := s.crews.map fun (k : Crew) => { k with escal := ticked k.escal }
    workers := s.workers.map Worker.ticked
    orders := s.orders.map fun (o : Order) => { o with acceptance := ticked o.acceptance }
    permits := s.permits.map fun (p : Permit) => { p with readback := ticked p.readback }
    chans := s.chans.map Channel.ticked }

/-- The workers whose lead prompt is due (R101). -/
def State.leadsDue (s : State) : List Nat := (s.workers.filter Worker.leadDue).map (·.badge)

/-- TICK (R198): the countdowns, then the lead prompts that fall due, in any order (R101). -/
def execTick (s : State) : Answered :=
  .next (s.event fun t => t.countDown.inOpenOrder t.countDown.leadsDue State.leadPrompt)

/-- ACCEPTANCE_EXPIRY (R31). -/
def State.expireAcceptance (s : State) (n : Nat) : State :=
  match s.order? n with
  | none => s
  | some o =>
    if o.acceptance = some 0 then
      (s.modOrder n fun o => { o with acceptance := none, unanswered := true }).post
        (.orderUnanswered n o.crew (o.deliveredAt.getD 0))
    else s

def execAcceptanceExpiry (order : Nat) (s : State) : Answered := .next (s.event fun t => t.expireAcceptance order)

/-- READBACK_EXPIRY (R80). -/
def State.expireReadback (s : State) (serial : Nat) : State :=
  match s.permit? serial with
  | none => s
  | some p =>
    if p.readback = some 0 ∧ p.state = .issuing then
      let s1 := s.modPermit serial fun p => { p with readback := none }
      if p.issueCount < s.params.issueLimit then s1.callIssue serial else s1.stall serial .issuing .readback
    else s

def execReadbackExpiry (serial : Nat) (s : State) : Answered := .next (s.event fun t => t.expireReadback serial)

/-- The end of an interval or of a rest: the worker is DUE, with grace and an overdue prompt (R101, R103) (assumption 17). -/
def State.becomeDue (s : State) (w : Worker) : State :=
  ((s.modWorker w.badge fun w => { w with watch := .due, graceLeft := some w.grace, leadOwed := false }).offerPrompt
    w.badge true).post (.watchState w.badge w.crew w.watch .due .expiry)

/-- A worker whose remaining has run out in a given watch state becomes DUE. -/
def State.expireRemaining (s : State) (badge : Nat) (watch : WatchState) : State :=
  match s.worker? badge with
  | none => s
  | some w => if w.watch = watch ∧ w.remaining = some 0 then s.becomeDue w else s

/-- INTERVAL_EXPIRY (R101). -/
def execIntervalExpiry (badge : Nat) (s : State) : Answered := .next (s.event fun t => t.expireRemaining badge .watching)

/-- REST_EXPIRY (R103). -/
def execRestExpiry (badge : Nat) (s : State) : Answered := .next (s.event fun t => t.expireRemaining badge .resting)

/-- GRACE_EXPIRY (R102). -/
def State.expireGrace (s : State) (badge : Nat) : State :=
  match s.worker? badge with
  | none => s
  | some w =>
    if w.watch = .due ∧ w.graceLeft = some 0 then
      (s.modWorker badge fun w => { w with missed := min 15 (w.missed + 1) }).workerAlarm badge .timeout
    else s

def execGraceExpiry (badge : Nat) (s : State) : Answered := .next (s.event fun t => t.expireGrace badge)

/-- ESCALATION_EXPIRY (R115). -/
def State.expireEscalation (s : State) : AlarmRef → State
  | .worker badge =>
    match s.worker? badge with
    | none => s
    | some w =>
      if w.watch = .alarm ∧ w.escal = some 0 then
        (((s.modWorker badge fun w => { w with escal := none, escalated := true }).post
          (.alarmEscalated badge w.crew (((s.crew? w.crew).map (·.unit)).getD 0) w.cause)).widen (.worker badge))
      else s
  | .crew slot =>
    match s.crew? slot with
    | none => s
    | some k =>
      if k.alarm = .raised ∧ k.escal = some 0 then
        (((s.modCrew slot fun k => { k with escal := none, escalated := true }).post
          (.alarmEscalated 0 slot k.unit k.alarmCause)).widen (.crew slot))
      else s

def execEscalationExpiry (alarm : AlarmRef) (s : State) : Answered := .next (s.event fun t => t.expireEscalation alarm)

/-- FAILOVER_EXPIRY (R160). -/
def State.expireFailover (s : State) (c : Chan) : State :=
  if (s.chan c).failover = some 0 ∧ (s.chan c).state = .down then
    (s.modChan c fun ch => { ch with failover := none }).moveOff c .failover false
  else s

def execFailoverExpiry (c : Chan) (s : State) : Answered := .next (s.event fun t => t.expireFailover c)

/-- FAILBACK_EXPIRY (R161). -/
def State.expireFailback (s : State) (c : Chan) : State :=
  if (s.chan c).failback = some 0 ∧ s.inService c then
    (s.modChan c fun ch => { ch with failback := none }).moveHome c
  else s

def execFailbackExpiry (c : Chan) (s : State) : Answered := .next (s.event fun t => t.expireFailback c)

/-- HOLD_OFF_EXPIRY (R148): the entry is eligible again by its hold-off standing at 0 (R164); no record changes, and the look
for an attempt that follows is ATTEMPT_START (assumption 6). -/
def execHoldOffExpiry (_c : Chan) (_place : Nat) (s : State) : Answered := .next (s.event fun t => t)

end Sys2Proof.Machine
end

