-- ==== Sys2Proof/Machine/CrewRequests.lean ====
section
/-! DEFINITION. The meanings of the Roster Table's requests (Chapter 1). -/

namespace Sys2Proof.Machine

/-- A crew record as SIGN_ON makes it (1.1). -/
def newCrew (slot unit qual : Nat) (home : Chan) (alt : Option Chan) (badge : Nat) : Crew where
  slot       := slot
  unit       := unit
  qual       := qual
  home       := home
  alt        := storedAlt home alt
  current    := home
  reach      := .reachable
  failures   := 0
  lastHeard  := none
  outSeq     := 0
  inSeq      := none
  members    := [badge]
  alarm      := .none
  alarmCause := none
  escal      := none
  escalated  := false
  queue      := []
  waitingFor := none

/-- A crew and its first member entered on the roster (R4). -/
def State.enterCrew (s : State) (k : Crew) (badge : Nat) : State :=
  { s with
    crews := tPut Crew.slot k s.crews
    workers := tPut Worker.badge (s.newWorker badge k.slot) s.workers }

/-- SIGN_ON (R3, R4). -/
def askSignOn (params : List Byte) (s : State) : Reply :=
  match params with
  | [uh, ul, q, h, a, bh, bl] =>
    match chanOf h.toNat, altOf a with
    | some home, some alt =>
      if be16 uh ul = 0 ∨ 8000 < be16 uh ul ∨ 3 < q.toNat ∨ be16 bh bl = 0 ∨ be16 bh bl = 65535 then s.refuse .badValue
      else if (s.crewOfUnit? (be16 uh ul)).isSome ∨ (s.worker? (be16 bh bl)).isSome then s.refuse .duplicate
      else
        match s.freeSlots with
        | [] => s.refuse .full
        | slot :: _ =>
          if s.workersFull then s.refuse .full
          else (s.enterCrew (newCrew slot (be16 uh ul) q.toNat home alt (be16 bh bl)) (be16 bh bl), .ok, u8 slot)
    | _, _ => s.refuse .badValue
  | _ => s.refuse .badValue

def execSignOn (x : Xfer) (params : List Byte) (s : State) : Answered := .next (s.console x (askSignOn params))

/-! ### SIGN_OFF (R7, R8) -/

/-- A follow-up that has not ended is DROPPED at its crew's sign-off (R44). -/
def FollowStatus.dropOpen : FollowStatus → FollowStatus
  | .owed | .queued | .inFlight => .dropped
  | st => st

/-- A permit's answer or closing telegram that has not ended is DROPPED at its holder's sign-off (R67). -/
def TgStatus.dropOpen : TgStatus → TgStatus
  | .deferred | .queued | .inFlight => .dropped
  | st => st

/-- An order of a crew that signs off: in its queue, it becomes OPEN (R8 step 1); outside it, its crew is cleared and its
follow-up dropped (R44). -/
def Order.signedOff (o : Order) (queued : Bool) : Order :=
  { o with
    crew := none
    state := if queued then .opened else o.state
    deferral := if queued then none else o.deferral
    followUp := o.followUp.map fun f => (f.1, f.2.dropOpen) }

/-- Step 1 of a sign-off (R8): the queue is emptied from the head down, then the orders outside it lose their crew. -/
def State.offOrders (s : State) (k : Crew) : State :=
  let s1 := k.queue.foldl (fun t n =>
    (t.modOrder n fun o => o.signedOff true).post (.orderState n none .assigned .opened none)) s
  let gone := (s.orders.filter fun o => o.crew == some k.slot).map (·.number)
  let s2 := { s1 with
    orders := s1.orders.map fun (o : Order) => if o.crew = some k.slot then o.signedOff false else o
    owed := s1.owed.filter fun n => !gone.contains n }
  s2.modCrew k.slot fun k => { k with queue := [], waitingFor := none }

/-- A CLOSED permit of a crew that signs off: its undelivered telegrams are dropped (R8 step 2, R67). -/
def Permit.signedOff (p : Permit) : Permit :=
  { p with
    answer := p.answer.map fun a => { a with status := a.status.dropOpen }
    closing := p.closing.map TgStatus.dropOpen
    deferred := false }

/-- Step 2 of a sign-off (R8): the deferral lists. -/
def State.offDeferrals (s : State) (k : Crew) : State :=
  let held := (s.permits.filter fun p => p.holder == k.slot).map (·.serial)
  let s1 := { s with permits := s.permits.map fun (p : Permit) => if p.holder = k.slot then p.signedOff else p }
  s1.modChans fun ch =>
    { ch with
      orderDefer := ch.orderDefer.erase k.slot
      permitDefer := ch.permitDefer.filter fun serial => !held.contains serial }

/-- The entries of a crew that wait in its current channel's queue. -/
def State.entriesOf (s : State) (k : Crew) : List Entry :=
  (s.chan k.current).queue.filter fun e => !e.inFlight && e.isFor k.slot

/-- Step 3 of a sign-off (R8): the crew's waiting entries are withdrawn, texts with their notices, and an entry in flight
takes the orphan mark (R9). The notices stand in the order of the entries in the queue's list (assumption 23). -/
def State.offEntries (s : State) (k : Crew) : State :=
  let s1 := (s.entriesOf k).foldl (fun t e => t.textResult k.current e (.dropped .signedOff))
    (s.withdrawOn k.current fun e => e.isFor k.slot)
  s1.modEntries (fun e => e.isFor k.slot) fun e => { e with orphan := true }

/-- Step 4 of a sign-off (R8): every member's watch ends and every alarm of the crew leaves its sets (assumption 23). -/
def State.offWatches (s : State) (k : Crew) : State :=
  let s1 := k.members.foldl (fun t badge =>
    match t.worker? badge with
    | none => t
    | some w =>
      if w.watch = .off then t
      else (t.modWorker badge Worker.stopped).post (.watchState badge k.slot w.watch .off .member)) s
  let s2 := s1.modCrew k.slot fun k => { k with alarm := .none, escal := none, escalated := false }
  (s2.alarmsOf k.slot).foldl State.leaveSets s2

/-- An accepted SIGN_OFF (R8). -/
def State.signOffCrew (s : State) (k : Crew) : State :=
  let s1 := (((s.offOrders k).offDeferrals k).offEntries k).offWatches k
  { s1 with
    workers := s1.workers.filter fun w => w.crew != k.slot
    crews := tDel Crew.slot k.slot s1.crews }

/-- SIGN_OFF (R7, R8). The entries counted are those of step 3: an ALARM_CALL withdrawn in step 4 is not (assumption 23). -/
def askSignOff (params : List Byte) (s : State) : Reply :=
  match params with
  | [b] => s.onCrew b fun k =>
    if (s.permits.any fun p => p.holder == k.slot && p.state != .closed)
        ∨ k.queue.any fun n => (s.order? n).any fun o => o.state != .assigned then s.refuse .conflict
    else (s.signOffCrew k, .ok, u8 k.queue.length ++ u8 (s.entriesOf k).length)
  | _ => s.refuse .badValue

def execSignOff (x : Xfer) (params : List Byte) (s : State) : Answered := .next (s.console x (askSignOff params))

/-- ADD_MEMBER (R5). -/
def askAddMember (params : List Byte) (s : State) : Reply :=
  match params with
  | [b, h, l] => s.onCrew b fun k =>
    if be16 h l = 0 ∨ be16 h l = 65535 then s.refuse .badValue
    else if (s.worker? (be16 h l)).isSome then s.refuse .duplicate
    else if 6 ≤ k.members.length ∨ s.workersFull then s.refuse .full
    else
      ({ s.modCrew k.slot (fun k => { k with members := k.members ++ [be16 h l] }) with
          workers := tPut Worker.badge (s.newWorker (be16 h l) k.slot) s.workers },
        .ok, u8 (k.members.length + 1))
  | _ => s.refuse .badValue

def execAddMember (x : Xfer) (params : List Byte) (s : State) : Answered := .next (s.console x (askAddMember params))

/-- A member leaves its crew (R6). -/
def State.dropMember (s : State) (w : Worker) : State :=
  let s1 := if w.watch = .off then s else s.post (.watchState w.badge w.crew w.watch .off .member)
  let s2 := s1.strike w.crew w.badge
  { s2.modCrew w.crew (fun k => { k with members := k.members.erase w.badge }) with
    workers := tDel Worker.badge w.badge s2.workers }

/-- REMOVE_MEMBER (R6). -/
def askRemoveMember (params : List Byte) (s : State) : Reply :=
  match params with
  | [h, l] => s.onWorker h l fun w =>
    let count := ((s.crew? w.crew).map (·.members.length)).getD 0
    if count ≤ 1 ∨ w.watch.inAlarm then s.refuse .badState
    else (s.dropMember w, .ok, u8 (count - 1))
  | _ => s.refuse .badValue

def execRemoveMember (x : Xfer) (params : List Byte) (s : State) : Answered := .next (s.console x (askRemoveMember params))

/-- The current channel that SET_CHANNELS works out (R11). -/
def State.settledChannel (s : State) (home : Chan) (alt : Option Chan) : Chan :=
  if s.inService home then home
  else match alt with
    | some a => if s.inService a then a else home
    | none => home

/-- SET_CHANNELS (R11). -/
def askSetChannels (params : List Byte) (s : State) : Reply :=
  match params with
  | [b, h, a] => s.onCrew b fun k =>
    match chanOf h.toNat, altOf a with
    | some home, some alt =>
      let kept := storedAlt home alt
      let chosen := s.settledChannel home kept
      ((s.modCrew k.slot fun k => { k with home := home, alt := kept }).moveCrew k.slot chosen .setChannels,
        .ok, u8 home.val ++ altField kept ++ u8 chosen.val)
    | _, _ => s.refuse .badValue
  | _ => s.refuse .badValue

def execSetChannels (x : Xfer) (params : List Byte) (s : State) : Answered := .next (s.console x (askSetChannels params))

/-- QUERY_CREW (R19). -/
def askQueryCrew (params : List Byte) (s : State) : Reply :=
  match params with
  | [b] => s.onCrew b fun k => (s, .ok, s.crewFields k)
  | _ => s.refuse .badValue

def execQueryCrew (x : Xfer) (params : List Byte) (s : State) : Answered := .next (s.console x (askQueryCrew params))

/-- QUERY_WORKER (R20). -/
def askQueryWorker (params : List Byte) (s : State) : Reply :=
  match params with
  | [h, l] => s.onWorker h l fun w => (s, .ok, s.workerFields w)
  | _ => s.refuse .badValue

def execQueryWorker (x : Xfer) (params : List Byte) (s : State) : Answered := .next (s.console x (askQueryWorker params))

end Sys2Proof.Machine
end

