-- ==== Sys2Proof/Machine/DeviceRequests.lean ====
section
/-! DEFINITION. The meanings of the Device Table's requests (Chapter 3). -/

namespace Sys2Proof.Machine

/-- LOAD_DEVICE (R48). -/
def askLoadDevice (params : List Byte) (s : State) : Reply :=
  match params with
  | [h, l, kb, pb] =>
    match kindOf kb.toNat, positionOf pb.toNat with
    | some kind, some position =>
      if 511 < be16 h l then s.refuse .badValue
      else if (s.device? (be16 h l)).isSome then s.refuse .duplicate
      else
        ({ s with
            devices := tPut Device.number
              { number := be16 h l, kind := kind, position := position, tags := [], restore := none, pending := none,
                waits := [] } s.devices },
          .ok, u16 (be16 h l) ++ u8 kind.isolation.code)
    | _, _ => s.refuse .badValue
  | _ => s.refuse .badValue

def execLoadDevice (x : Xfer) (params : List Byte) (s : State) : Answered := .next (s.console x (askLoadDevice params))

/-- SET_POSITION (R49). -/
def askSetPosition (params : List Byte) (s : State) : Reply :=
  match params with
  | [h, l, pb] => s.onDevice h l fun d =>
    match positionOf pb.toNat with
    | none => s.refuse .badValue
    | some position =>
      if !d.tags.isEmpty ∨ d.pending.isSome then s.refuse .conflict
      else (s.modDevice d.number fun d => { d with position := position }, .ok, [])
  | _ => s.refuse .badValue

def execSetPosition (x : Xfer) (params : List Byte) (s : State) : Answered := .next (s.console x (askSetPosition params))

/-- UNLOAD_DEVICE (R50). -/
def askUnloadDevice (params : List Byte) (s : State) : Reply :=
  match params with
  | [h, l] => s.onDevice h l fun d =>
    if !d.tags.isEmpty ∨ d.pending.isSome ∨ s.permitsNaming d.number ≠ 0 then s.refuse .conflict
    else ({ s with devices := tDel Device.number d.number s.devices }, .ok, [])
  | _ => s.refuse .badValue

def execUnloadDevice (x : Xfer) (params : List Byte) (s : State) : Answered := .next (s.console x (askUnloadDevice params))

/-- QUERY_DEVICE (R51). -/
def askQueryDevice (params : List Byte) (s : State) : Reply :=
  match params with
  | [h, l] => s.onDevice h l fun d => (s, .ok, s.deviceFields d)
  | _ => s.refuse .badValue

def execQueryDevice (x : Xfer) (params : List Byte) (s : State) : Answered := .next (s.console x (askQueryDevice params))

end Sys2Proof.Machine
end

