-- ==== Sys2Proof/Machine/LinkRequests.lean ====
section
/-! DEFINITION. The meanings of reset, of the transfers that carry no request that can be carried out, and of the console link's, Notice Queue's, Tick Unit's and Parameter Store's own requests (Chapter 10). -/

namespace Sys2Proof.Machine

/-- POWER_ON_RESET. The READY and CARRIER lines are driven from outside and keep their levels (assumption 2). -/
def execPowerOnReset (s : State) : Answered :=
  .next
    { State.reset with
      pending := s.pending
      choices := s.choices
      chans := s.chans.map fun ch => { Channel.reset with ready := ch.ready, carrier := ch.carrier } }

/-- READ_TRANSFER (R191). -/
def execReadTransfer (clocks : Nat) (s : State) : Answered := .next (s.event fun t => t.readTransfer clocks)

/-- The tag that a frame in error is answered with (R192). -/
def errorTag (bytes : List Byte) : Byte :=
  match bytes.dropWhile (· == 0) with
  | start :: _ :: _ :: tag :: _ => if start = startByte then tag else 0
  | _ => 0

/-- FRAME_ERROR (R192). -/
def execFrameError (bytes : List Byte) (s : State) : Answered :=
  .next (s.console ⟨bytes.length, errorTag bytes⟩ fun t => t.refuse .frameError)

/-- UNKNOWN_REQUEST (R195). -/
def execUnknownRequest (x : Xfer) (_code : Byte) (_params : List Byte) (s : State) : Answered :=
  .next (s.console x fun t => t.refuse .unknownRequest)

/-- IDENTIFY (R197). -/
def askIdentify (params : List Byte) (s : State) : Reply :=
  match params with
  | [] => (s, .ok, u16 16672 ++ u8 1)
  | _ => s.refuse .badValue

def execIdentify (x : Xfer) (params : List Byte) (s : State) : Answered := .next (s.console x (askIdentify params))

/-- READ_NOTICES (R203). A clamped count is answered ADJUSTED whether or not the queue holds a notice (assumption 33).
The notices carry no item count of their own beside the number returned (assumption 12). -/
def askReadNotices (params : List Byte) (s : State) : Reply :=
  match params with
  | [n] =>
    let count := clamp 1 8 n.toNat
    let out := s.notices.take count
    let rest := s.notices.drop count
    ({ s with notices := rest, overflow := s.overflow && !rest.isEmpty }, adjusted (count != n.toNat),
      u8 out.length ++ u8 rest.length ++ mark s.overflow ++ (out.map Notice.record).flatten)
  | _ => s.refuse .badValue

def execReadNotices (x : Xfer) (params : List Byte) (s : State) : Answered := .next (s.console x (askReadNotices params))

/-- READ_CLOCK (R198). -/
def askReadClock (params : List Byte) (s : State) : Reply :=
  match params with
  | [] => (s, .ok, u32 s.clock)
  | _ => s.refuse .badValue

def execReadClock (x : Xfer) (params : List Byte) (s : State) : Answered := .next (s.console x (askReadClock params))

/-- SET_CLOCK (R198). -/
def askSetClock (params : List Byte) (s : State) : Reply :=
  match params with
  | [a, b, c, d] => ({ s with clock := be32 a b c d }, .ok, [])
  | _ => s.refuse .badValue

def execSetClock (x : Xfer) (params : List Byte) (s : State) : Answered := .next (s.console x (askSetClock params))

/-- READ_PARAM (R200). -/
def askReadParam (params : List Byte) (s : State) : Reply :=
  match params with
  | [n] =>
    match s.params.get? n.toNat with
    | none => s.refuse .badValue
    | some v =>
      (s, .ok, u8 n.toNat ++ u16 v ++ u16 (s.params.range n.toNat).1 ++ u16 (s.params.range n.toNat).2
        ++ u16 ((Params.reset.get? n.toNat).getD 0))
  | _ => s.refuse .badValue

def execReadParam (x : Xfer) (params : List Byte) (s : State) : Answered := .next (s.console x (askReadParam params))

/-- What a parameter's change does at once: the marks re-evaluate every flow hold (R169), and a lowered high-risk cap cuts the
members of every high-risk crew (R104). -/
def State.afterParam (s : State) (n old new : Nat) : State :=
  if n = 8 ∨ n = 9 then allChans.foldl State.flowEval s
  else if n = 13 ∧ new < old then
    s.inOpenOrder ((s.crews.filter fun k => s.highRisk k.slot).flatMap (·.members)) State.cutMember
  else s

/-- SET_PARAM (R200) (assumption 11). -/
def askSetParam (params : List Byte) (s : State) : Reply :=
  match params with
  | [n, h, l] =>
    match s.params.get? n.toNat with
    | none => s.refuse .badValue
    | some old =>
      let r := s.params.range n.toNat
      let v := clamp r.1 r.2 (be16 h l)
      let s1 := { s with params := s.params.put n.toNat v }
      (s1.afterParam n.toNat old v, adjusted (v != be16 h l),
        u8 n.toNat ++ u16 v ++ if n.toNat = 8 then u16 s1.params.lowMark else [])
  | _ => s.refuse .badValue

def execSetParam (x : Xfer) (params : List Byte) (s : State) : Answered := .next (s.console x (askSetParam params))

/-- QUERY_CHANNEL (R201). -/
def askQueryChannel (params : List Byte) (s : State) : Reply :=
  match params with
  | [b, first] => s.onChannel b fun c => (s, .ok, s.channelFields c first.toNat)
  | _ => s.refuse .badValue

def execQueryChannel (x : Xfer) (params : List Byte) (s : State) : Answered := .next (s.console x (askQueryChannel params))

end Sys2Proof.Machine
end

