-- ==== Sys2Proof/Machine/OrderRequests.lean ====
section
/-! DEFINITION. The meanings of the Order Table's requests (Chapter 2). -/

namespace Sys2Proof.Machine

/-- An order record as CREATE_ORDER makes it (2.1). -/
def State.newOrder (s : State) (n : Nat) (priority : Priority) (serial : Nat) (text : List Byte) : Order where
  number      := n
  priority    := priority
  state       := .opened
  crew        := none
  bound       := if serial = 0 then none else some serial
  text        := text.take 64
  created     := s.clock
  deliveredAt := none
  asgSeq      := 0
  deferral    := none
  returned    := none
  acceptance  := none
  unanswered  := false
  link        := none
  followUp    := none

/-- CREATE_ORDER (R22). -/
def askCreateOrder (params : List Byte) (s : State) : Reply :=
  match params with
  | nh :: nl :: p :: sh :: sl :: text =>
    match priorityOf p.toNat with
    | none => s.refuse .badValue
    | some priority =>
      if be16 nh nl = 0 then s.refuse .badValue
      else if (s.order? (be16 nh nl)).isSome then s.refuse .duplicate
      else if be16 sh sl ≠ 0 ∧ (s.permit? (be16 sh sl)).isNone then s.refuse .notFound
      else if 256 ≤ s.orders.length then s.refuse .full
      else
        ({ s with orders := tPut Order.number (s.newOrder (be16 nh nl) priority (be16 sh sl) text) s.orders },
          adjusted (64 < text.length), u16 (be16 nh nl) ++ u8 (min 64 text.length))
  | _ => s.refuse .badValue

def execCreateOrder (x : Xfer) (params : List Byte) (s : State) : Answered := .next (s.console x (askCreateOrder params))

/-- Whether a follow-up has not ended: OWED, QUEUED or IN_FLIGHT. -/
def FollowStatus.isOpen : FollowStatus → Bool
  | .owed | .queued | .inFlight => true
  | _ => false

/-- Whether an order still has a telegram or a follow-up under way (R26, R45). -/
def Order.engaged (o : Order) : Bool := o.link.isSome || o.followUp.any fun f => f.2.isOpen

/-- Steps 1 to 4 of an assignment (R26). -/
def State.assign (s : State) (o : Order) (slot : Nat) : State :=
  let s1 := (s.modOrder o.number fun o =>
    { o with
      crew := some slot, state := .assigned, asgSeq := s.assignments, deferral := none, returned := none
      unanswered := false, followUp := none }).post (.orderState o.number (some slot) o.state .assigned none)
  ({ s1 with assignments := s.assignments + 1 }.placeOrder slot o.number).check slot

/-- The states an order can be assigned from (2.2). -/
def OrderState.assignable : OrderState → Bool
  | .opened | .returned | .undelivered => true
  | _ => false

/-- ASSIGN_ORDER (R26). -/
def askAssignOrder (params : List Byte) (s : State) : Reply :=
  match params with
  | [h, l, b] => s.onOrder h l fun o => s.onCrew b fun k =>
    if !o.state.assignable then s.refuse .badState
    else if o.engaged then s.refuse .conflict
    else if 8 ≤ k.queue.length then s.refuse .full
    else
      let t := s.assign o k.slot
      match t.order? o.number with
      | none => (t, .ok, [])
      | some o => (t, .ok, u8 ((t.placeOf o).getD 0) ++ u8 o.state.code ++ u8 (codeOf Deferral.code o.deferral))
  | _ => s.refuse .badValue

def execAssignOrder (x : Xfer) (params : List Byte) (s : State) : Answered := .next (s.console x (askAssignOrder params))

/-- An ASSIGNED order becomes OPEN and leaves its queue (R27) (assumption 25). -/
def State.unassign (s : State) (o : Order) : State :=
  let s1 := (s.modOrder o.number fun o => { o with state := .opened, crew := none, deferral := none }).post
    (.orderState o.number none .assigned .opened none)
  match o.crew with
  | some slot => s1.leaveQueue slot o.number
  | none => s1

/-- UNASSIGN_ORDER (R27). -/
def askUnassignOrder (params : List Byte) (s : State) : Reply :=
  match params with
  | [h, l] => s.onOrder h l fun o =>
    if o.state ≠ .assigned then s.refuse .badState else (s.unassign o, .ok, [])
  | _ => s.refuse .badValue

def execUnassignOrder (x : Xfer) (params : List Byte) (s : State) : Answered := .next (s.console x (askUnassignOrder params))

/-- The states in which a crew can have an order in hand, so that a cancellation must reach it (R43). -/
def OrderState.inHand : OrderState → Bool
  | .delivered | .accepted | .blocked | .working => true
  | _ => false

/-- The states CANCEL_ORDER refuses (R43). -/
def OrderState.ended : OrderState → Bool
  | .complete | .returned | .undelivered | .cancelled => true
  | _ => false

/-- An accepted cancellation (R43): the entry of a SENT order that waits is withdrawn, ORDER_CANCEL is offered where the crew
can have the order in hand, and then the order's place in its queue is given up (assumption 20). -/
def State.cancel (s : State) (o : Order) : State :=
  let s1 := if o.state = .sent then s.withdrawOrder o.number else s
  let s2 := (s1.modOrder o.number fun o => { o with state := .cancelled, acceptance := none, deferral := none }).post
    (.orderState o.number o.crew o.state .cancelled (some .cancel))
  let s3 := if o.state.inHand then s2.followWithCancel o.number else s2
  match o.crew with
  | some slot => s3.leaveQueue slot o.number
  | none => s3

/-- CANCEL_ORDER (R43). -/
def askCancelOrder (params : List Byte) (s : State) : Reply :=
  match params with
  | [h, l] => s.onOrder h l fun o =>
    if o.state.ended then s.refuse .badState else (s.cancel o, .ok, u8 o.state.code ++ mark o.state.inHand)
  | _ => s.refuse .badValue

def execCancelOrder (x : Xfer) (params : List Byte) (s : State) : Answered := .next (s.console x (askCancelOrder params))

/-- The states in which an order's binding may change (R42). -/
def OrderState.bindable : OrderState → Bool
  | .opened | .assigned | .sent | .delivered | .accepted => true
  | _ => false

/-- BIND_PERMIT (R42). -/
def askBindPermit (params : List Byte) (s : State) : Reply :=
  match params with
  | [h, l, sh, sl] => s.onOrder h l fun o =>
    if !o.state.bindable then s.refuse .badState
    else if be16 sh sl ≠ 0 ∧ (s.permit? (be16 sh sl)).isNone then s.refuse .notFound
    else
      (s.modOrder o.number fun o => { o with bound := if be16 sh sl = 0 then none else some (be16 sh sl) }, .ok, [])
  | _ => s.refuse .badValue

def execBindPermit (x : Xfer) (params : List Byte) (s : State) : Answered := .next (s.console x (askBindPermit params))

/-- The states an order can be retired from (R45). -/
def OrderState.retirable : OrderState → Bool
  | .opened | .complete | .returned | .undelivered | .cancelled => true
  | _ => false

/-- RETIRE_ORDER (R45). -/
def askRetireOrder (params : List Byte) (s : State) : Reply :=
  match params with
  | [h, l] => s.onOrder h l fun o =>
    if !o.state.retirable then s.refuse .badState
    else if o.engaged then s.refuse .conflict
    else ({ s with orders := tDel Order.number o.number s.orders }, .ok, [])
  | _ => s.refuse .badValue

def execRetireOrder (x : Xfer) (params : List Byte) (s : State) : Answered := .next (s.console x (askRetireOrder params))

/-- QUERY_ORDER (R46). -/
def askQueryOrder (params : List Byte) (s : State) : Reply :=
  match params with
  | [h, l] => s.onOrder h l fun o => (s, .ok, s.orderFields o)
  | _ => s.refuse .badValue

def execQueryOrder (x : Xfer) (params : List Byte) (s : State) : Answered := .next (s.console x (askQueryOrder params))

/-- LIST_QUEUE (R46). The queue's length is the item count of its entries, given once (assumption 12). -/
def askListQueue (params : List Byte) (s : State) : Reply :=
  match params with
  | [b] => s.onCrew b fun k => (s, .ok, itemList ((k.queue.filterMap s.order?).map Order.queueFields))
  | _ => s.refuse .badValue

def execListQueue (x : Xfer) (params : List Byte) (s : State) : Answered := .next (s.console x (askListQueue params))

end Sys2Proof.Machine
end

