-- ==== Sys2Proof/Machine/PermitRequests.lean ====
section
/-! DEFINITION. The meanings of the Permit Table's requests (Chapter 4). -/

namespace Sys2Proof.Machine

/-- The steps a DRAFT_PERMIT carries, each a device number and an action code, or none when bytes are left over. -/
def readSteps : List Byte → Option (List (Nat × Nat))
  | [] => some []
  | h :: l :: a :: rest => (readSteps rest).map ((be16 h l, a.toNat) :: ·)
  | _ => none

/-- Steps with their drafted actions, or none when an action code is not 1 or 2 (R64). -/
def draftSteps (raw : List (Nat × Nat)) : Option (List Step) := raw.mapM fun r => (draftedOf r.2).map fun a => ⟨r.1, a⟩

/-- Whether a drafted action suits a device's kind (R64). -/
def Drafted.suits (a : Drafted) (k : DeviceKind) : Bool := (a == .applyGround) == (k == .ground)

/-- The first serial from a value on that no record holds (R63). The fuel is above the number of records. -/
def freeSerial (used : List Nat) : Nat → Nat → Nat
  | 0, v => v
  | fuel + 1, v => if used.contains v then freeSerial used fuel (v % 65535 + 1) else v

/-- The serial the next DRAFT_PERMIT takes (R63). -/
def State.nextSerial (s : State) : Nat := freeSerial (s.permits.map (·.serial)) 33 s.serialCounter

/-- A permit record as DRAFT_PERMIT makes it (4.1, R65). -/
def State.newPermit (s : State) (serial holder minQual : Nat) (steps : List Step) : Permit where
  serial       := serial
  holder       := holder
  minQual      := minQual
  state        := .draft
  steps        := steps
  k            := 0
  stack        := []
  outstanding  := none
  lastReleased := none
  cancelWait   := false
  stall        := none
  issueCount   := 0
  issue        := none
  issueOwed    := false
  readback     := none
  digest       := none
  surrender    := false
  answer       := none
  closing      := none
  hold         := s.inAlarm holder
  deferred     := false
  waiting      := false

/-- Whether every step's action suits its device (R64, row 3). -/
def State.stepsSuit (s : State) (steps : List Step) : Bool :=
  steps.all fun t => (s.device? t.device).all fun d => t.action.suits d.kind

/-- DRAFT_PERMIT (R63, R64, R65). -/
def askDraftPermit (params : List Byte) (s : State) : Reply :=
  match params with
  | hb :: q :: n :: rest =>
    match (readSteps rest).bind draftSteps with
    | none => s.refuse .badValue
    | some steps =>
      if 63 < hb.toNat ∨ 3 < q.toNat ∨ n.toNat = 0 ∨ 12 < n.toNat ∨ steps.length ≠ n.toNat
          ∨ (steps.any fun t => decide (511 < t.device)) ∨ ¬ (steps.map (·.device)).Nodup then s.refuse .badValue
      else
        match s.crew? hb.toNat with
        | none => s.refuse .notFound
        | some k =>
          if steps.any fun t => (s.device? t.device).isNone then s.refuse .notFound
          else if !s.stepsSuit steps then s.refuse .badValue
          else if k.qual < q.toNat then s.refuse .conflict
          else if 32 ≤ s.permits.length then s.refuse .full
          else
            ({ s with
                permits := tPut Permit.serial (s.newPermit s.nextSerial hb.toNat q.toNat steps) s.permits
                serialCounter := s.nextSerial % 65535 + 1 },
              .ok, u16 s.nextSerial)
  | _ => s.refuse .badValue

def execDraftPermit (x : Xfer) (params : List Byte) (s : State) : Answered := .next (s.console x (askDraftPermit params))

/-- The state of a permit as a result field. -/
def State.permitStateField (s : State) (serial : Nat) : List Byte := u8 (codeOf (fun p => p.state.code) (s.permit? serial))

/-- START_SWITCHING (R70). The claim's answer is returned as its code alone, without the derived action that goes with GRANTED
(assumption 12). -/
def askStartSwitching (params : List Byte) (s : State) : Reply :=
  match params with
  | [h, l] => s.onPermit h l fun p =>
    if p.state ≠ .draft then s.refuse .badState
    else
      let r := ((s.modPermit p.serial fun p => { p with k := 0 }).setPermitState p.serial .switching .start).claimNext p.serial
      (r.1, .ok, r.1.permitStateField p.serial ++ optional 1 (r.2.map fun a => u8 a.code))
  | _ => s.refuse .badValue

def execStartSwitching (x : Xfer) (params : List Byte) (s : State) : Answered := .next (s.console x (askStartSwitching params))

/-- A granted surrender (R84). -/
def State.grantSurrender (s : State) (serial : Nat) : State :=
  ((((s.modPermit serial fun p => { p with surrender := false }).answerSurrender serial .granted none).setPermitState
    serial .restoring .granted).claimNext serial).1

/-- GRANT_SURRENDER (R84). -/
def askGrantSurrender (params : List Byte) (s : State) : Reply :=
  match params with
  | [h, l] => s.onPermit h l fun p =>
    if p.state ≠ .inForce ∨ !p.surrender then s.refuse .badState
    else if p.hold ∨ 0 < s.workingBound p.serial p.holder then s.refuse .conflict
    else
      let t := s.grantSurrender p.serial
      (t, .ok, t.permitStateField p.serial)
  | _ => s.refuse .badValue

def execGrantSurrender (x : Xfer) (params : List Byte) (s : State) : Answered := .next (s.console x (askGrantSurrender params))

/-- DENY_SURRENDER (R85). -/
def askDenySurrender (params : List Byte) (s : State) : Reply :=
  match params with
  | [h, l] => s.onPermit h l fun p =>
    if p.state ≠ .inForce ∨ !p.surrender then s.refuse .badState
    else ((s.modPermit p.serial fun p => { p with surrender := false }).answerSurrender p.serial .denied none, .ok, [])
  | _ => s.refuse .badValue

def execDenySurrender (x : Xfer) (params : List Byte) (s : State) : Answered := .next (s.console x (askDenySurrender params))

/-- A retried permit goes back to the phase it stalled from and resumes (R89). -/
def State.retry (s : State) (serial : Nat) (phase : Phase) : State :=
  let s1 := (s.modPermit serial fun p => { p with stall := none }).setPermitState serial phase.state .retry
  match phase with
  | .issuing => (s1.modPermit serial fun p => { p with issueCount := 0 }).callIssue serial
  | .switching | .restoring => (s1.claimNext serial).1

/-- RETRY_PERMIT (R89). -/
def askRetryPermit (params : List Byte) (s : State) : Reply :=
  match params with
  | [h, l] => s.onPermit h l fun p =>
    match p.state, p.stall with
    | .stalled, some (phase, _) =>
      let t := s.retry p.serial phase
      (t, .ok, t.permitStateField p.serial)
    | _, _ => s.refuse .badState
  | _ => s.refuse .badValue

def execRetryPermit (x : Xfer) (params : List Byte) (s : State) : Answered := .next (s.console x (askRetryPermit params))

/-- Whether a permit telegram has not ended: DEFERRED, QUEUED or IN_FLIGHT. -/
def TgStatus.isOpen : TgStatus → Bool
  | .deferred | .queued | .inFlight => true
  | _ => false

/-- REASSIGN_HOLDER (R90). -/
def askReassignHolder (params : List Byte) (s : State) : Reply :=
  match params with
  | [h, l, b] => s.onPermit h l fun p => s.onCrew b fun k =>
    if p.state ≠ .stalled then s.refuse .badState
    else if k.qual < p.minQual ∨ p.answer.any fun a => a.status.isOpen then s.refuse .conflict
    else
      ((s.modPermit p.serial fun p => { p with holder := k.slot, hold := s.inAlarm k.slot }).post
        (.permitState p.serial k.slot .stalled .stalled .holder), .ok, [])
  | _ => s.refuse .badValue

def execReassignHolder (x : Xfer) (params : List Byte) (s : State) : Answered := .next (s.console x (askReassignHolder params))

/-- A cancelled permit turns to RESTORING and begins restoration (R91, R92). -/
def State.turnToRestoring (s : State) (serial : Nat) : State :=
  (s.setPermitState serial .restoring .cancel).beginRestoration serial .cancel

/-- A cancellation in SWITCHING (R91). -/
def State.cancelSwitching (s : State) (p : Permit) : State :=
  match p.outstanding with
  | none => ((s.leaveWaits p.serial).modPermit p.serial fun p => { p with waiting := false }).turnToRestoring p.serial
  | some i =>
    match i.status with
    | .deferred | .queued =>
      (((s.dropInstruction p.serial).freeDevice i.device).modPermit p.serial fun p =>
        { p with lastReleased := some i.index }).turnToRestoring p.serial
    | _ => (s.setPermitState p.serial .restoring .cancel).modPermit p.serial fun p => { p with cancelWait := true }

/-- A cancellation in ISSUING (R91). -/
def State.cancelIssuing (s : State) (p : Permit) : State :=
  ((s.modPermit p.serial fun p => { p with readback := none, issueOwed := false }).dropIssue p.serial).turnToRestoring p.serial

/-- A second cancellation, which gives up the wait for a report (R92) (assumption 24). -/
def State.cancelWait (s : State) (p : Permit) : State :=
  ((s.releaseUnreported p.serial).modPermit p.serial fun p => { p with cancelWait := false }).beginRestoration p.serial .cancel

/-- A cancellation by the permit's state, or none where it is refused (R91). -/
def State.cancelPermit (s : State) (p : Permit) : Option State :=
  match p.state with
  | .draft => some (s.closePermit p.serial .cancel)
  | .switching => some (s.cancelSwitching p)
  | .issuing => some (s.cancelIssuing p)
  | .stalled =>
    match p.stall with
    | some (.restoring, _) => none
    | _ => some ((s.modPermit p.serial fun p => { p with stall := none }).turnToRestoring p.serial)
  | .restoring => if p.cancelWait then some (s.cancelWait p) else none
  | .inForce | .closed => none

/-- CANCEL_PERMIT (R91, R92). -/
def askCancelPermit (params : List Byte) (s : State) : Reply :=
  match params with
  | [h, l] => s.onPermit h l fun p =>
    match s.cancelPermit p with
    | none => s.refuse .badState
    | some t => (t, .ok, t.permitStateField p.serial ++ mark ((t.permit? p.serial).any (·.cancelWait)))
  | _ => s.refuse .badValue

def execCancelPermit (x : Xfer) (params : List Byte) (s : State) : Answered := .next (s.console x (askCancelPermit params))

/-- RETIRE_PERMIT (R95). -/
def askRetirePermit (params : List Byte) (s : State) : Reply :=
  match params with
  | [h, l] => s.onPermit h l fun p =>
    if p.state ≠ .closed then s.refuse .badState
    else if (p.closing.any TgStatus.isOpen) ∨ p.answer.any fun a => a.status.isOpen then s.refuse .conflict
    else ({ s with permits := tDel Permit.serial p.serial s.permits }, .ok, [])
  | _ => s.refuse .badValue

def execRetirePermit (x : Xfer) (params : List Byte) (s : State) : Answered := .next (s.console x (askRetirePermit params))

/-- QUERY_PERMIT (R96). -/
def askQueryPermit (params : List Byte) (s : State) : Reply :=
  match params with
  | [h, l] => s.onPermit h l fun p => (s, .ok, s.permitFields p)
  | _ => s.refuse .badValue

def execQueryPermit (x : Xfer) (params : List Byte) (s : State) : Answered := .next (s.console x (askQueryPermit params))

end Sys2Proof.Machine
end

