-- ==== Sys2Proof/Machine/Inbound.lean ====
section
/-! DEFINITION. The Inbound Handler (Chapter 9): sorting a frame (R179), assembly (R180, R181), the checks on a complete telegram (R182 to R186), routing and the answer (R187, R188), and the channel's following of the direction (R153). -/

namespace Sys2Proof.Machine

/-- An ANSWER as the Inbound Handler gives it (R128, R153). -/
structure Answer where
  code : Nat
  map  : Nat
  dest : Nat
  seq  : Seq
  deriving DecidableEq, Repr

/-- The direction the Inbound Handler gives after a well-formed frame (7.6): answer and end, answer and wait, wait, end. -/
inductive Direction where
  | answer (a : Answer) (after : AfterAnswer)
  | wait
  | finish
  deriving DecidableEq, Repr

/-! ### The assembly record -/

/-- An assembly started from a frame's header (R180). -/
def Assembly.start (h : Header) : Assembly where
  src    := h.src
  seq    := h.seq
  kind   := h.kind
  len    := h.len
  blocks := List.replicate (blockCount h.len) none

/-- Whether a frame continues an assembly (R180). -/
def Assembly.continues (a : Assembly) (h : Header) : Bool :=
  h.src == a.src && h.seq == a.seq && h.kind == a.kind && h.len == a.len

/-- The good blocks of a frame are taken; a block held already is kept (R180). -/
def Assembly.take (a : Assembly) (f : Frame) : Assembly :=
  { a with blocks := a.blocks.mapIdx fun j b => b.or (f.block? j) }

/-- The good-block map (9.1). -/
def Assembly.map (a : Assembly) : Nat := mapOf ((List.range a.blocks.length).filter fun j => (a.blocks[j]?.join).isSome)

/-- An assembly is complete when every block is held (R181). -/
def Assembly.complete (a : Assembly) : Bool := a.blocks.all Option.isSome

/-- The body of a complete assembly. -/
def Assembly.body (a : Assembly) : List Byte := (a.blocks.map fun b => b.getD []).flatten

/-! ### Routing (R187) -/

/-- Whether a kind is one the part takes from crews and a body length fits it (R132, R186). -/
def fitsKind (kind len : Nat) : Bool :=
  if kind = kindText then 1 ≤ len && len ≤ 80
  else if kind = kindOrderReply ∨ kind = kindEmergency then len == 3
  else if kind = kindCheckIn ∨ kind = kindRest ∨ kind = kindResume ∨ kind = kindSurrender then len == 2
  else if kind = kindStepReport ∨ kind = kindReadback then len == 4
  else false

/-- Whether the mailbox of a channel is full (R188). -/
def Channel.mailboxFull (ch : Channel) : Bool := 2 ≤ ch.mailbox.length

/-- A TEXT takes a mailbox slot (R188). -/
def State.storeMessage (s : State) (c : Chan) (k : Crew) (seq : Seq) (text : List Byte) : State :=
  (s.modChan c fun ch => { ch with mailbox := ch.mailbox ++ [⟨k.slot, k.unit, c, s.clock, seq, text⟩] }).post
    (.crewMessage c k.slot k.unit text.length ((s.chan c).mailbox.length + 1))

/-- A CHECK_IN, REST or RESUME whose badge is a member of the sending crew goes to the Watch Unit (R187). -/
def State.routeWatch (s : State) (slot kind badge : Nat) : State × Nat :=
  if (s.crew? slot).any fun k => k.members.contains badge then
    if kind = kindCheckIn then (s.checkIn badge, ackCode)
    else if kind = kindResume then (s.resume badge, ackCode)
    else s.rest badge
  else (s, nakRejectedCode)

/-- An accepted telegram is routed; the code is that of its answer (R186, R187). -/
def State.route (s : State) (c : Chan) (k : Crew) (a : Assembly) : State × Nat :=
  if !fitsKind a.kind a.body.length then (s, nakRejectedCode)
  else if a.kind = kindText then
    if (s.chan c).mailboxFull then (s, nakBusyCode) else (s.storeMessage c k a.seq a.body, ackCode)
  else
    match a.body with
    | [h, l] =>
      if a.kind = kindSurrender then (s.surrenderAsked k.slot (be16 h l), ackCode)
      else s.routeWatch k.slot a.kind (be16 h l)
    | [h, l, x] =>
      if a.kind = kindOrderReply then (s.orderReply k.slot (be16 h l) x.toNat, ackCode)
      else (s.emergency k.slot (be16 h l) (emergencyCause x.toNat), ackCode)
    | [h, l, x, y] =>
      if a.kind = kindStepReport then (s.stepReport k.slot (be16 h l) x.toNat y.toNat, ackCode)
      else (s.readback k.slot (be16 h l) (be16 x y), ackCode)
    | _ => (s, nakRejectedCode)

/-! ### The checks on a complete telegram (9.3) -/

/-- A telegram from a stranger (R182, R183). -/
def State.fromStranger (s : State) (c : Chan) (a : Assembly) : State × Nat :=
  if a.kind = kindEmergency then
    match a.body with
    | [h, l, x] => (s.post (.strangerEmergency c a.src a.seq (be16 h l) (emergencyCause x.toNat)), ackCode)
    | _ => (s.post (.strangerEmergency c a.src a.seq 0 .panic), ackCode)
  else (s.post (.stranger c a.src a.kind a.seq), nakUnknownCode)

/-- Acceptance (R185): the arrival, and the crew's last inbound sequence, but for a TEXT that meets a full mailbox (assumption 31). -/
def State.acceptFrom (s : State) (c : Chan) (k : Crew) (a : Assembly) : State :=
  let s1 := s.rosterHeard k.slot
  if a.kind = kindText ∧ fitsKind a.kind a.body.length ∧ (s1.chan c).mailboxFull then s1
  else s1.modCrew k.slot fun k => { k with inSeq := some a.seq }

/-- A complete telegram is judged: source, sequence, acceptance, routing (9.3). -/
def State.judge (s : State) (c : Chan) (a : Assembly) : State × Nat :=
  match s.crewOfUnit? a.src with
  | none => s.fromStranger c a
  | some k => if k.inSeq = some a.seq then (s, ackCode) else (s.acceptFrom c k a).route c k a

/-! ### Taking a frame (9.2) -/

/-- An assembly that has taken a frame's blocks: complete, it is judged and freed; otherwise it is kept, and the frame is
acknowledged with the map of the blocks held (R181). -/
def State.assembled (s : State) (c : Chan) (a : Assembly) : State × Direction :=
  if a.complete then
    let r := (s.modChan c fun ch => { ch with assembly := some a }).judge c a
    (r.1.modChan c fun ch => { ch with assembly := none },
      .answer ⟨r.2, fullMap (blockCount a.len), a.src, a.seq⟩ .finish)
  else
    (s.modChan c fun ch => { ch with assembly := some a }, .answer ⟨ackCode, a.map, a.src, a.seq⟩ .await)

/-- A well-formed frame is taken (R179, R180, R181, R190). -/
def State.takeFrame (s : State) (c : Chan) (f : Frame) (origin : Origin) : State × Direction :=
  if !f.header.toBase || f.header.kind == kindAnswer then
    (s, match origin with
      | .idle => .finish
      | .awaitRepeat => .wait)
  else
    let held := match (s.chan c).assembly with
      | some a => if a.continues f.header then a else Assembly.start f.header
      | none => Assembly.start f.header
    s.assembled c (held.take f)

/-! ### The channel's next state -/

/-- A channel is IDLE, with nothing sent, received or awaited. -/
def State.enterIdle (s : State) (c : Chan) : State :=
  s.modChan c fun ch =>
    { ch with
      state := .idle, txFrame := [], origin := none, afterAnswer := none, replyWindow := none, repeatWait := none }

/-- A channel enters AWAIT_REPEAT, the repeat wait started afresh; a carrier already on the air whose frame has not been
received begins a reception at once (R141, R153). -/
def State.enterAwaitRepeat (s : State) (c : Chan) : State :=
  s.modChan c fun ch =>
    if ch.carrier && !ch.carrierSpent then
      { ch with
        state := .receiving, txFrame := [], afterAnswer := none, repeatWait := none, origin := some .awaitRepeat }
    else
      { ch with
        state := .awaitRepeat, txFrame := [], afterAnswer := none, repeatWait := some s.params.repeatWait, origin := none }

/-- A channel acts on a direction (R153). -/
def State.follow (s : State) (c : Chan) : Direction → State
  | .answer a after =>
    s.modChan c fun ch =>
      { ch with
        state := .answering, origin := none, afterAnswer := some after
        txFrame := answerFrame a.dest a.seq a.code a.map }
  | .wait => s.enterAwaitRepeat c
  | .finish => s.enterIdle c

/-- A well-formed frame is taken and its direction followed. -/
def State.receive (s : State) (c : Chan) (f : Frame) (origin : Origin) : State :=
  let r := s.takeFrame c f origin
  r.1.follow c r.2

/-- The reception of a frame has ended: a carrier that stays active begins no other (R141). -/
def State.endReception (s : State) (c : Chan) : State :=
  s.modChan c fun ch => { ch with carrierSpent := ch.carrier, origin := none }

end Sys2Proof.Machine
end

