-- ==== Sys2Proof/Machine/RadioEvents.lean ====
section
/-! DEFINITION. The meanings of the radio events (Chapter 7): the modem lines, the millisecond countdowns, the reception of frames, and the frames the part sends. An event whose condition does not hold changes nothing. -/

namespace Sys2Proof.Machine

/-! ### The modem lines -/

/-- READY becoming active (R140). -/
def State.readyUp (s : State) (c : Chan) : State :=
  let s1 := s.modChan c fun ch => { ch with ready := true }
  if (s.chan c).state = .down then s1.enterIdleFromDown c else s1

def execReadyActive (c : Chan) (s : State) : Answered := .next (s.event fun t => t.readyUp c)

/-- READY becoming inactive (R140): the channel is DOWN before the attempt's end is reported (assumption 15). -/
def State.readyDown (s : State) (c : Chan) : State :=
  let s1 := s.modChan c fun ch => { ch with ready := false }
  if s.inService c then
    (((s1.modChan c Channel.offAir).enterDown c).post (.channelState c (s.chan c).state .down .ready)).endAttempt c
      (.failed .carrierLost)
  else s1

def execReadyInactive (c : Chan) (s : State) : Answered := .next (s.event fun t => t.readyDown c)

/-- A channel whose CARRIER becomes active (R141). -/
def Channel.carrierUp (ch : Channel) : Channel :=
  let up := { ch with carrier := true, carrierSpent := false, ranOut := false }
  match ch.state with
  | .idle => { up with state := .receiving, origin := some .idle }
  | .awaitRepeat => { up with state := .receiving, origin := some .awaitRepeat, repeatWait := none }
  | .awaitReply => { up with replyWindow := none }
  | _ => up

/-- A channel whose CARRIER becomes active at the same moment as an expiry that was taken first: no reception begins for that
burst, nor any until CARRIER has become inactive and active again (R141). -/
def Channel.carrierMissed (ch : Channel) : Channel := { ch with carrier := true, carrierSpent := true, ranOut := false }

/-- CARRIER becoming active (R141). Directly after an expiry that took the channel to IDLE, the commands do not say whether the
carrier is of the same moment: that is an open choice (assumption 41). -/
def State.carrierUp (s : State) (c : Chan) : State :=
  if (s.chan c).carrier then s
  else if (s.chan c).ranOut ∧ (s.chan c).state = .idle then
    { s with choices := s.choices + 1 }.modChan c
      (if Config.openChoice s.choices % 2 = 0 then Channel.carrierUp else Channel.carrierMissed)
  else s.modChan c Channel.carrierUp

def execCarrierActive (c : Chan) (s : State) : Answered := .next (s.event fun t => t.carrierUp c)

/-- CARRIER becoming inactive (R141). A frame then being received is judged as it stands by the event of its reception's
end. -/
def State.carrierDown (s : State) (c : Chan) : State :=
  s.modChan c fun ch => { ch with carrier := false, carrierSpent := false, ranOut := false }

def execCarrierInactive (c : Chan) (s : State) : Answered := .next (s.event fun t => t.carrierDown c)

/-! ### The millisecond countdowns -/

/-- A channel reaches IDLE by an expiry; a carrier that is not yet on the air can still be of that moment (R141). -/
def State.idleByExpiry (s : State) (c : Chan) : State :=
  (s.enterIdle c).modChan c fun ch => { ch with ranOut := !ch.carrier }

/-- REPLY_WINDOW_EXPIRY (R144) (assumptions 5 and 8). -/
def State.expireReplyWindow (s : State) (c : Chan) : State :=
  if (s.chan c).state = .awaitReply ∧ (s.chan c).replyWindow.isSome then
    (s.endAttempt c (.failed .noReply)).idleByExpiry c
  else s

def execReplyWindowExpiry (c : Chan) (s : State) : Answered := .next (s.event fun t => t.expireReplyWindow c)

/-- REPEAT_WAIT_EXPIRY (R155) (assumptions 5 and 8). -/
def State.expireRepeatWait (s : State) (c : Chan) : State :=
  if (s.chan c).state = .awaitRepeat ∧ (s.chan c).repeatWait.isSome then
    (s.modChan c fun ch => { ch with assembly := none }).idleByExpiry c
  else s

def execRepeatWaitExpiry (c : Chan) (s : State) : Answered := .next (s.event fun t => t.expireRepeatWait c)

/-! ### Reception -/

/-- A frame received in RECEIVING is judged (R153) (assumption 9). -/
def State.frameReceived (s : State) (c : Chan) (bytes : List Byte) : State :=
  let ch := s.chan c
  if ch.state = .receiving ∧ receptionOver ch.carrier bytes then
    let s1 := s.endReception c
    match readFrame bytes, ch.origin with
    | none, some .awaitRepeat => s1.enterAwaitRepeat c
    | none, _ => s1.enterIdle c
    | some f, origin => s1.receive c f (origin.getD .idle)
  else s

def execFrameReceived (c : Chan) (bytes : List Byte) (s : State) : Answered := .next (s.event fun t => t.frameReceived c bytes)

/-- A repeat frame carries the blocks reported missing (R146). -/
def State.sendRepeat (s : State) (c : Chan) (e : Entry) (a : Attempt) (missing : List Nat) : State :=
  (s.modFlying c fun x => { x with blocksSent := x.blocksSent + missing.length }).modChan c fun ch =>
    { ch with
      state := .sending
      replyWindow := none
      attempt := some { a with rpt := true, missing := missing }
      txFrame := telegramFrame e.kind e.addr a.seq a.body true missing }

/-- An ACK that reports the blocks it holds (R145, R146). -/
def State.acked (s : State) (c : Chan) (e : Entry) (a : Attempt) (goodMap : Nat) : State :=
  let b := blockCount a.body.length
  let missing := missingBlocks b goodMap
  if missing.isEmpty then (s.endAttempt c .delivered).enterIdle c
  else if e.blocksSent + missing.length ≤ b + s.params.blockAllowance then s.sendRepeat c e a missing
  else (s.endAttempt c (.failed .blocksExhausted)).enterIdle c

/-- The answer decides the attempt (R145). -/
def State.answered (s : State) (c : Chan) (e : Entry) (a : Attempt) (code goodMap : Nat) : State :=
  if code = ackCode then s.acked c e a goodMap
  else if code = nakBusyCode then (s.endAttempt c (.failed .busy)).enterIdle c
  else (s.endAttempt c (.rejected code)).enterIdle c

/-- The answer a frame is to the entry in flight, if it is that (R129). -/
def Frame.answers (f : Frame) (e : Entry) (a : Attempt) : Option (Nat × Nat) :=
  match e.addr with
  | .crew _ unit => f.answerTo? unit a.seq
  | .group _ _ => none

/-- A frame whose reception began in AWAIT_REPLY decides the attempt (R145, R147). The reply window is stopped while a
reception is under way (assumption 9). -/
def State.replyReceived (s : State) (c : Chan) (bytes : List Byte) : State :=
  let ch := s.chan c
  match s.flying c, ch.attempt with
  | some e, some a =>
    if ch.state = .awaitReply ∧ ch.replyWindow = none ∧ receptionOver ch.carrier bytes then
      let s1 := s.endReception c
      match readFrame bytes with
      | none => (s1.endAttempt c (.failed .collision)).enterIdle c
      | some f =>
        match f.answers e a with
        | some (code, m) => s1.answered c e a code m
        | none => (s1.endAttempt c (.failed .collision)).receive c f .idle
    else s
  | _, _ => s

def execReplyFrameReceived (c : Chan) (bytes : List Byte) (s : State) : Answered :=
  .next (s.event fun t => t.replyReceived c bytes)

/-! ### Sending -/

/-- ATTEMPT_START (R142, R164) (assumption 7). -/
def State.startAttempt (s : State) (c : Chan) : State :=
  match select (s.chan c).queue with
  | none => s
  | some e => if (s.chan c).state = .idle ∧ !(s.chan c).carrier then s.beginAttempt c e else s

def execAttemptStart (c : Chan) (s : State) : Answered := .next (s.event fun t => t.startAttempt c)

/-- A channel enters AWAIT_REPLY (R143); a carrier already on the air whose frame has not been received begins a reception at
once, so that the window does not run (R141). -/
def State.awaitReply (s : State) (c : Chan) : State :=
  s.modChan c fun ch =>
    { ch with
      state := .awaitReply
      txFrame := []
      replyWindow := if ch.carrier && !ch.carrierSpent then none else some s.params.replyWindow }

/-- The last byte of a telegram's frame has gone (R143). -/
def State.sent (s : State) (c : Chan) : State :=
  match s.flying c with
  | none => s
  | some e =>
    if (s.chan c).state = .sending then
      match e.addr with
      | .crew _ _ => s.awaitReply c
      | .group _ _ => (s.endAttempt c .sent).enterIdle c
    else s

def execSendComplete (c : Chan) (s : State) : Answered := .next (s.event fun t => t.sent c)

/-- The last byte of an ANSWER has gone (R154). -/
def State.answerGone (s : State) (c : Chan) : State :=
  if (s.chan c).state = .answering then
    match (s.chan c).afterAnswer with
    | some .await => s.enterAwaitRepeat c
    | _ => s.enterIdle c
  else s

def execAnswerSent (c : Chan) (s : State) : Answered := .next (s.event fun t => t.answerGone c)

end Sys2Proof.Machine
end

