-- ==== Sys2Proof/Machine/WatchRequests.lean ====
section
/-! DEFINITION. The meanings of the Watch Unit's requests (5.4, R116, R117). -/

namespace Sys2Proof.Machine

/-- A duration of START_WATCH: 0 takes the default, any other value is clamped (R105). -/
def watchSpan (lo hi dflt v : Nat) : Nat := if v = 0 then dflt else clamp lo hi v

/-- Whether a duration of START_WATCH is clamped. -/
def watchClamped (lo hi v : Nat) : Bool := v != 0 && clamp lo hi v != v

/-- The watch durations of a worker as START_WATCH returns them (R105) (assumption 12). -/
def Worker.watchFields (w : Worker) : List Byte :=
  u16 w.interval ++ u16 w.grace ++ u16 (w.eff.getD 0) ++ u16 (w.lead.getD 0) ++ countdown w.remaining

/-- START_WATCH (R105). The interval and the grace it carries are two bytes each (assumption 11). -/
def askStartWatch (params : List Byte) (s : State) : Reply :=
  match params with
  | [h, l, ih, il, gh, gl] => s.onWorker h l fun w =>
    if w.watch ≠ .off then s.refuse .badState
    else
      let i := watchSpan 60 3600 s.params.defaultInterval (be16 ih il)
      let g := watchSpan 30 900 s.params.defaultGrace (be16 gh gl)
      let t := ((s.modWorker w.badge fun w => { w with interval := i, grace := g, watch := .watching }).restart w.badge).post
        (.watchState w.badge w.crew .off .watching .request)
      (t, adjusted (watchClamped 60 3600 (be16 ih il) || watchClamped 30 900 (be16 gh gl)),
        ((t.worker? w.badge).map Worker.watchFields).getD [])
  | _ => s.refuse .badValue

def execStartWatch (x : Xfer) (params : List Byte) (s : State) : Answered := .next (s.console x (askStartWatch params))

/-- STOP_WATCH (R106). -/
def askStopWatch (params : List Byte) (s : State) : Reply :=
  match params with
  | [h, l] => s.onWorker h l fun w =>
    if w.watch.inAlarm then s.refuse .badState
    else if w.watch = .off then (s, .ok, [])
    else
      (((s.modWorker w.badge Worker.stopped).strike w.crew w.badge).post (.watchState w.badge w.crew w.watch .off .request),
        .ok, [])
  | _ => s.refuse .badValue

def execStopWatch (x : Xfer) (params : List Byte) (s : State) : Answered := .next (s.console x (askStopWatch params))

/-- A worker's alarm is acknowledged (R116). -/
def State.ackWorker (s : State) (w : Worker) : State :=
  let s1 := s.modWorker w.badge fun w => { w with watch := .acknowledged, escal := none }
  ((s1.channelsOf (.worker w.badge)).foldl State.settleCall s1).post
    (.watchState w.badge w.crew .alarm .acknowledged .request)

/-- A crew alarm is acknowledged (R116). -/
def State.ackCrew (s : State) (k : Crew) : State :=
  let s1 := s.modCrew k.slot fun k => { k with alarm := .acknowledged, escal := none }
  (s1.channelsOf (.crew k.slot)).foldl State.settleCall s1

/-- ACK_ALARM (R116). The target code is 1 for a worker and 2 for a crew (assumption 11). -/
def askAckAlarm (params : List Byte) (s : State) : Reply :=
  match params with
  | [t, h, l] =>
    if t.toNat = 1 then s.onWorker h l fun w =>
      if w.watch ≠ .alarm then s.refuse .badState else (s.ackWorker w, .ok, [])
    else s.refuse .badValue
  | [t, b] =>
    if t.toNat = 2 then s.onCrew b fun k =>
      if k.alarm ≠ .raised then s.refuse .badState else (s.ackCrew k, .ok, [])
    else s.refuse .badValue
  | _ => s.refuse .badValue

def execAckAlarm (x : Xfer) (params : List Byte) (s : State) : Answered := .next (s.console x (askAckAlarm params))

/-- A worker's alarm is cleared, and its watch restarts (R117). -/
def State.clearWorker (s : State) (w : Worker) : State :=
  let s1 := ((s.leaveSets (.worker w.badge)).modWorker w.badge fun w =>
    { w with escal := none, escalated := false, watch := .watching }).restart w.badge
  (s1.post (.watchState w.badge w.crew w.watch .watching .request)).reportCondition w.crew (s.inAlarm w.crew)

/-- A crew alarm is cleared (R117). -/
def State.clearCrew (s : State) (k : Crew) : State :=
  let s1 := (s.leaveSets (.crew k.slot)).modCrew k.slot fun k => { k with alarm := .none, escal := none, escalated := false }
  s1.reportCondition k.slot (s.inAlarm k.slot)

/-- CLEAR_ALARM (R117). The target is coded as for ACK_ALARM. -/
def askClearAlarm (params : List Byte) (s : State) : Reply :=
  match params with
  | [t, h, l] =>
    if t.toNat = 1 then s.onWorker h l fun w =>
      if !w.watch.inAlarm then s.refuse .badState else (s.clearWorker w, .ok, [])
    else s.refuse .badValue
  | [t, b] =>
    if t.toNat = 2 then s.onCrew b fun k =>
      if k.alarm = .none then s.refuse .badState else (s.clearCrew k, .ok, [])
    else s.refuse .badValue
  | _ => s.refuse .badValue

def execClearAlarm (x : Xfer) (params : List Byte) (s : State) : Answered := .next (s.console x (askClearAlarm params))

/-- REVIEW_WORKER (R107): it returns the watch fields alone, as they stood before it. -/
def askReviewWorker (params : List Byte) (s : State) : Reply :=
  match params with
  | [h, l] => s.onWorker h l fun w => (s.modWorker w.badge fun w => { w with missed := 0 }, .ok, w.watchRecord)
  | _ => s.refuse .badValue

def execReviewWorker (x : Xfer) (params : List Byte) (s : State) : Answered := .next (s.console x (askReviewWorker params))

end Sys2Proof.Machine
end

