-- ==== Sys2Proof/Machine/Dispatch.lean ====
section
/-! DEFINITION. Every command and its meaning, one arm each. -/

namespace Sys2Proof.Machine

/-- The effect of a command on the part, its queue of waiting commands apart. -/
def exec (i : Instr) (s : State) : Host.Outcome State Fault Refusal :=
  match i with
  | .powerOnReset => Sys2Proof.Machine.execPowerOnReset s
  | .readTransfer clocks => Sys2Proof.Machine.execReadTransfer clocks s
  | .frameError bytes => Sys2Proof.Machine.execFrameError bytes s
  | .unknownRequest x code params => Sys2Proof.Machine.execUnknownRequest x code params s
  | .identify x params => Sys2Proof.Machine.execIdentify x params s
  | .readNotices x params => Sys2Proof.Machine.execReadNotices x params s
  | .readClock x params => Sys2Proof.Machine.execReadClock x params s
  | .setClock x params => Sys2Proof.Machine.execSetClock x params s
  | .readParam x params => Sys2Proof.Machine.execReadParam x params s
  | .setParam x params => Sys2Proof.Machine.execSetParam x params s
  | .queryChannel x params => Sys2Proof.Machine.execQueryChannel x params s
  | .signOn x params => Sys2Proof.Machine.execSignOn x params s
  | .signOff x params => Sys2Proof.Machine.execSignOff x params s
  | .addMember x params => Sys2Proof.Machine.execAddMember x params s
  | .removeMember x params => Sys2Proof.Machine.execRemoveMember x params s
  | .setChannels x params => Sys2Proof.Machine.execSetChannels x params s
  | .queryCrew x params => Sys2Proof.Machine.execQueryCrew x params s
  | .queryWorker x params => Sys2Proof.Machine.execQueryWorker x params s
  | .createOrder x params => Sys2Proof.Machine.execCreateOrder x params s
  | .assignOrder x params => Sys2Proof.Machine.execAssignOrder x params s
  | .unassignOrder x params => Sys2Proof.Machine.execUnassignOrder x params s
  | .cancelOrder x params => Sys2Proof.Machine.execCancelOrder x params s
  | .bindPermit x params => Sys2Proof.Machine.execBindPermit x params s
  | .retireOrder x params => Sys2Proof.Machine.execRetireOrder x params s
  | .queryOrder x params => Sys2Proof.Machine.execQueryOrder x params s
  | .listQueue x params => Sys2Proof.Machine.execListQueue x params s
  | .loadDevice x params => Sys2Proof.Machine.execLoadDevice x params s
  | .setPosition x params => Sys2Proof.Machine.execSetPosition x params s
  | .unloadDevice x params => Sys2Proof.Machine.execUnloadDevice x params s
  | .queryDevice x params => Sys2Proof.Machine.execQueryDevice x params s
  | .draftPermit x params => Sys2Proof.Machine.execDraftPermit x params s
  | .startSwitching x params => Sys2Proof.Machine.execStartSwitching x params s
  | .grantSurrender x params => Sys2Proof.Machine.execGrantSurrender x params s
  | .denySurrender x params => Sys2Proof.Machine.execDenySurrender x params s
  | .retryPermit x params => Sys2Proof.Machine.execRetryPermit x params s
  | .reassignHolder x params => Sys2Proof.Machine.execReassignHolder x params s
  | .cancelPermit x params => Sys2Proof.Machine.execCancelPermit x params s
  | .retirePermit x params => Sys2Proof.Machine.execRetirePermit x params s
  | .queryPermit x params => Sys2Proof.Machine.execQueryPermit x params s
  | .startWatch x params => Sys2Proof.Machine.execStartWatch x params s
  | .stopWatch x params => Sys2Proof.Machine.execStopWatch x params s
  | .ackAlarm x params => Sys2Proof.Machine.execAckAlarm x params s
  | .clearAlarm x params => Sys2Proof.Machine.execClearAlarm x params s
  | .reviewWorker x params => Sys2Proof.Machine.execReviewWorker x params s
  | .enableChannel x params => Sys2Proof.Machine.execEnableChannel x params s
  | .disableChannel x params => Sys2Proof.Machine.execDisableChannel x params s
  | .restartChannel x params => Sys2Proof.Machine.execRestartChannel x params s
  | .sendText x params => Sys2Proof.Machine.execSendText x params s
  | .readMessage x params => Sys2Proof.Machine.execReadMessage x params s
  | .tick => Sys2Proof.Machine.execTick s
  | .acceptanceExpiry order => Sys2Proof.Machine.execAcceptanceExpiry order s
  | .readbackExpiry serial => Sys2Proof.Machine.execReadbackExpiry serial s
  | .intervalExpiry badge => Sys2Proof.Machine.execIntervalExpiry badge s
  | .restExpiry badge => Sys2Proof.Machine.execRestExpiry badge s
  | .graceExpiry badge => Sys2Proof.Machine.execGraceExpiry badge s
  | .escalationExpiry alarm => Sys2Proof.Machine.execEscalationExpiry alarm s
  | .failoverExpiry c => Sys2Proof.Machine.execFailoverExpiry c s
  | .failbackExpiry c => Sys2Proof.Machine.execFailbackExpiry c s
  | .holdOffExpiry c place => Sys2Proof.Machine.execHoldOffExpiry c place s
  | .replyWindowExpiry c => Sys2Proof.Machine.execReplyWindowExpiry c s
  | .repeatWaitExpiry c => Sys2Proof.Machine.execRepeatWaitExpiry c s
  | .readyActive c => Sys2Proof.Machine.execReadyActive c s
  | .readyInactive c => Sys2Proof.Machine.execReadyInactive c s
  | .carrierActive c => Sys2Proof.Machine.execCarrierActive c s
  | .carrierInactive c => Sys2Proof.Machine.execCarrierInactive c s
  | .frameReceived c bytes => Sys2Proof.Machine.execFrameReceived c bytes s
  | .replyFrameReceived c bytes => Sys2Proof.Machine.execReplyFrameReceived c bytes s
  | .attemptStart c => Sys2Proof.Machine.execAttemptStart c s
  | .sendComplete c => Sys2Proof.Machine.execSendComplete c s
  | .answerSent c => Sys2Proof.Machine.execAnswerSent c s

end Sys2Proof.Machine
end

