-- ==== Sys2Proof/WellFormed.lean ====
section
/-! DEFINITION. Which commands the outside world can give: the ranges of what they name, and console transfers that carry what they say. -/

namespace Sys2Proof

/-- Request codes of the table of 10.6. -/
def knownCodes : List Nat :=
  [0x01, 0x02, 0x03, 0x04, 0x05, 0x06, 0x07, 0x10, 0x11, 0x12, 0x13, 0x14, 0x15, 0x16]
    ++ [0x20, 0x21, 0x22, 0x23, 0x24, 0x25, 0x26, 0x27, 0x30, 0x31, 0x32, 0x33]
    ++ [0x40, 0x41, 0x42, 0x43, 0x44, 0x45, 0x46, 0x47, 0x48, 0x50, 0x51, 0x52, 0x53, 0x54]
    ++ [0x60, 0x61, 0x62, 0x63, 0x64]

/-- A badge (R2). -/
def badgeOk (n : Nat) : Bool := 1 ≤ n && n ≤ 65534

/-- A request frame fits its transfer: at most 120 parameter bytes, and a transfer long enough for the frame (R192, 10.6). -/
def requestFits (x : Xfer) (params : List Byte) : Bool := params.length ≤ 120 && params.length + 6 ≤ x.clocks

/-- What an alarm reference names is in range. -/
def AlarmRef.ok : AlarmRef → Bool
  | .worker badge => badgeOk badge
  | .crew slot => slot ≤ 63

/-- A transfer carries a frame in error: not all its bytes are 0, and they hold no frame without error (R191, R192). -/
def frameInError (bytes : List Byte) : Bool := !bytes.all (· == 0) && (readRequest bytes).isNone

/-- Whether a command can be given. -/
def Instr.wellFormed (i : Instr) : Bool :=
  match i with
  | .powerOnReset | .readTransfer _ | .tick => true
  | .frameError bytes => frameInError bytes
  | .unknownRequest x code params => !knownCodes.contains code.toNat && requestFits x params
  | .acceptanceExpiry n => 1 ≤ n && n ≤ 65535
  | .readbackExpiry n => 1 ≤ n && n ≤ 65535
  | .intervalExpiry b => badgeOk b
  | .restExpiry b => badgeOk b
  | .graceExpiry b => badgeOk b
  | .escalationExpiry a => a.ok
  | .failoverExpiry _ | .failbackExpiry _ | .replyWindowExpiry _ | .repeatWaitExpiry _ => true
  | .holdOffExpiry _ place => place < 24
  | .readyActive _ | .readyInactive _ | .carrierActive _ | .carrierInactive _ => true
  | .frameReceived _ _ | .replyFrameReceived _ _ => true
  | .attemptStart _ | .sendComplete _ | .answerSent _ => true
  | .identify x p | .readNotices x p | .readClock x p | .setClock x p | .readParam x p | .setParam x p
  | .queryChannel x p | .signOn x p | .signOff x p | .addMember x p | .removeMember x p | .setChannels x p
  | .queryCrew x p | .queryWorker x p | .createOrder x p | .assignOrder x p | .unassignOrder x p | .cancelOrder x p
  | .bindPermit x p | .retireOrder x p | .queryOrder x p | .listQueue x p | .loadDevice x p | .setPosition x p
  | .unloadDevice x p | .queryDevice x p | .draftPermit x p | .startSwitching x p | .grantSurrender x p
  | .denySurrender x p | .retryPermit x p | .reassignHolder x p | .cancelPermit x p | .retirePermit x p
  | .queryPermit x p | .startWatch x p | .stopWatch x p | .ackAlarm x p | .clearAlarm x p | .reviewWorker x p
  | .enableChannel x p | .disableChannel x p | .restartChannel x p | .sendText x p | .readMessage x p => requestFits x p

end Sys2Proof
end

