-- ==== Sys2Proof/Safety.lean ====
section
/-! DEFINITION. What a safe run is, and the terms the statements use: the state's invariant, what a command answers on the console link, and the parts of the state that the traffic of telegrams, the work on permits and the moves of crews leave alone. -/

namespace Sys2Proof.Machine

/-! ### Safe runs -/

/-- The part goes on: its next step has a next state. The manual gives the part no stop, so every state is to be so. -/
def State.goesOn (s : State) : Prop := ∃ t, step s = .next t

/-- ATTN and each port's KEY stand as the state has them (R204, R137). -/
def State.outputsRight (s : State) : Prop :=
  s.attn = s.wantsAttention ∧ ∀ c, (s.chan c).key = (s.chan c).state.keyed

/-- Keys rise strictly. -/
def rising (l : List Nat) : Prop := l.Pairwise (· < ·)

/-- Every parameter stands in its range (R199). -/
def Params.inRange (p : Params) : Prop :=
  ∀ n v, p.get? n = some v → (p.range n).1 ≤ v ∧ v ≤ (p.range n).2

/-- The limits of what the part stores for one channel: 24 queue entries (R162) and two messages (R188). -/
def Channel.bounded (ch : Channel) : Prop := ch.queue.length ≤ 24 ∧ ch.mailbox.length ≤ 2

/-- The limits of what every event and every request may leave behind: 64 notices (R202), and each channel's. -/
def State.bounded (s : State) : Prop := s.notices.length ≤ 64 ∧ ∀ c, (s.chan c).bounded

/-- The instructions whose DONE report hangs a tag (R57). -/
def Action.hangsTag : Action → Bool
  | .openDevice | .applyGround | .hangTag => true
  | .removeTag | .closeDevice | .removeGround => false

/-- The limits of a crew's lists: its queue (R24) and its members (R2). -/
def Crew.bounded (k : Crew) : Prop := k.queue.length ≤ 8 ∧ 1 ≤ k.members.length ∧ k.members.length ≤ 6

/-- The limit of a device's tag list (R52), with room for the tag that the pending instruction is to hang. -/
def Device.bounded (d : Device) : Prop :=
  d.tags.length ≤ 8 ∧ ((d.pending.any fun p => p.2.hangsTag) = true → d.tags.length < 8)

/-- The lists that the records of crews and devices hold stand within their limits. -/
def State.listsRight (s : State) : Prop := (∀ k ∈ s.crews, k.bounded) ∧ ∀ d ∈ s.devices, d.bounded

/-- The tables are in order, each record at its own key, within the numbers the manual allows (R1, R2, R21, R47, R62). -/
def State.tablesRight (s : State) : Prop :=
  (rising (s.crews.map (·.slot)) ∧ ∀ k ∈ s.crews, k.slot ≤ 63)
    ∧ (rising (s.workers.map (·.badge)) ∧ s.workers.length ≤ 160 ∧ ∀ w ∈ s.workers, 1 ≤ w.badge ∧ w.badge ≤ 65534)
    ∧ (rising (s.orders.map (·.number)) ∧ s.orders.length ≤ 256 ∧ ∀ o ∈ s.orders, 1 ≤ o.number ∧ o.number ≤ 65535)
    ∧ (rising (s.devices.map (·.number)) ∧ ∀ d ∈ s.devices, d.number ≤ 511)
    ∧ (rising (s.permits.map (·.serial)) ∧ s.permits.length ≤ 32 ∧ ∀ p ∈ s.permits, 1 ≤ p.serial ∧ p.serial ≤ 65535)

/-- The counters that number texts (R172) and permits (R63) stand between 1 and 65535. -/
def State.countersRight (s : State) : Prop :=
  (1 ≤ s.textCounter ∧ s.textCounter ≤ 65535) ∧ 1 ≤ s.serialCounter ∧ s.serialCounter ≤ 65535

/-- The invariant of the part. -/
structure State.Inv (s : State) : Prop where
  bounded  : s.bounded
  tables   : s.tablesRight
  lists    : s.listsRight
  counters : s.countersRight
  params   : s.params.inRange
  outputs  : s.outputsRight
  settled  : s.signals = []

/-! ### What a command does to the console link -/

/-- The state without what the console link and the output lines show. -/
def State.bare (s : State) : State :=
  { s with
    held := none, responseLost := false, linkOut := [], attn := false
    chans := s.chans.map fun ch => { ch with key := false } }

/-- The link after a console request (R191, R193, R194): the response held, its summary with the response-lost indicator as it
stood when the response was formed, and what the transfer shifted out. The commands that wait still wait, and the output
lines are right. -/
structure Replied (s : State) (x : Xfer) (status : Status) (results : List Byte) (t : State) : Prop where
  held    : t.held = some (responseBytes status x.tag
    ({ t with responseLost := s.responseLost || !s.readOut x.clocks } : State).summary results)
  lost    : t.responseLost = false
  out     : t.linkOut = s.shifted x.clocks
  pending : t.pending = s.pending
  outputs : t.outputsRight

/-- A console request is answered with a status and results, and the records are then those of a given state. -/
def Answers (s : State) (x : Xfer) (effect : State) (status : Status) (results : List Byte) (t : State) : Prop :=
  Replied s x status results t ∧ t.bare = { effect with signals := [] }.bare

/-- An event leaves the console link and the commands that wait alone, and the output lines are right. -/
structure Quiet (s t : State) : Prop where
  held    : t.held = s.held
  lost    : t.responseLost = s.responseLost
  out     : t.linkOut = s.linkOut
  pending : t.pending = s.pending
  outputs : t.outputsRight

/-- An event is taken, and the records are then those of a given state. -/
def Takes (s effect t : State) : Prop := Quiet s t ∧ t.bare = { effect with signals := [] }.bare

/-- A command has a next state, of which a condition holds. -/
def Runs (i : Instr) (s : State) (holds : State → Prop) : Prop := ∃ t, exec i s = .next t ∧ holds t

/-- A console request is refused with a status, and changes no record (R195). -/
def Refuses (i : Instr) (s : State) (x : Xfer) (status : Status) : Prop := Runs i s (Answers s x s status [])

/-! ### What the traffic of telegrams leaves alone

Offers, evictions, withdrawals, deferrals, preemptions and space signals reach across records: one freed slot may send
another crew's order. The frame of a state is the state with all that such traffic may change put to one value. -/

/-- The states between which the traffic of telegrams moves an order: ASSIGNED and SENT (R28, R33), and those a preemption
takes back to ASSIGNED (R36). -/
def OrderState.movable : OrderState → Bool
  | .assigned | .sent | .delivered | .accepted | .blocked => true
  | _ => false

/-- All of an order but where its telegrams stand, and but its state and answer time while it is movable. -/
def Order.frame (o : Order) : Order :=
  { o with
    state := if o.state.movable then .assigned else o.state
    deferral := if o.state.movable then none else o.deferral
    acceptance := if o.state.movable then none else o.acceptance
    unanswered := if o.state.movable then false else o.unanswered
    link := none
    followUp := o.followUp.map fun f => (f.1, .owed) }

/-- All of a crew but its outbound sequence and the order of its queue. -/
def Crew.frame (k : Crew) : Crew :=
  { k with outSeq := 0, queue := k.queue.mergeSort (fun a b => decide (a ≤ b)), waitingFor := none }

/-- All of a worker but what its prompts change. -/
def Worker.frame (w : Worker) : Worker := { w with prompt := none, leadOwed := false }

/-- All of a permit but where its telegrams stand. -/
def Permit.frame (p : Permit) : Permit :=
  { p with
    outstanding := p.outstanding.map fun i => { i with status := .queued }
    issue := none
    answer := p.answer.map fun a => { a with status := .queued }
    closing := none
    deferred := false }

/-- All of a channel but its queue, its flow hold and its deferral lists. -/
def Channel.frame (ch : Channel) : Channel :=
  { ch with queue := [], admissions := 0, flowHold := false, permitDefer := [], orderDefer := [] }

/-- A channel's controller: all of a channel but what telegram traffic and the KEY line change. -/
def Channel.air (ch : Channel) : Channel := { ch.frame with key := false }

/-- All of the state but what the traffic of telegrams may change. -/
def State.frame (s : State) : State :=
  { s with
    crews := s.crews.map Crew.frame
    workers := s.workers.map Worker.frame
    orders := s.orders.map Order.frame
    permits := s.permits.map Permit.frame
    chans := s.chans.map Channel.frame
    notices := []
    overflow := false
    owed := []
    signals := []
    choices := 0 }

/-- Two states differ only by the traffic of telegrams, the console link and the output lines. -/
def Alike (s t : State) : Prop := s.frame.bare = t.frame.bare

/-! ### What the other work leaves alone -/

/-- All of a worker but its prompts and the countdowns of its watch. -/
def Worker.frameWatch (w : Worker) : Worker :=
  { w with prompt := none, leadOwed := false, eff := none, lead := none, remaining := none, graceLeft := none }

/-- All of the state but what traffic may change and what a restart or cut of watches may. -/
def State.frameWatch (s : State) : State := { s.frame with workers := s.workers.map Worker.frameWatch }

/-- Two states differ only by traffic, the console link, the output lines and the countdowns of watches. -/
def AlikeButWatches (s t : State) : Prop := s.frameWatch.bare = t.frameWatch.bare

/-- All of the state but what traffic, the restart of watches and the work on permits and devices may change. -/
def State.framePermits (s : State) : State := { s.frameWatch with permits := [], devices := [] }

/-- Two states differ only by traffic, the console link, the output lines, the countdowns of watches, permits and devices. -/
def AlikeButPermits (s t : State) : Prop := s.framePermits.bare = t.framePermits.bare

/-- All of the state but what traffic and the moves of crews may change: where crews stand, and which sets hold alarms. -/
def State.frameMoves (s : State) : State :=
  { s.frame with
    crews := s.crews.map fun k => { k.frame with current := 0 }
    chans := s.chans.map fun ch => { ch.frame with alarmSet := [] } }

/-- Two states differ only by traffic, the console link, the output lines and the moves of crews. -/
def AlikeButMoves (s t : State) : Prop := s.frameMoves.bare = t.frameMoves.bare

/-! ### What the work on a permit brings -/

/-- One of a permit's telegrams waits in the queue of a crew's channel, under the crew's outbound sequence. -/
def Offered (t : State) (k : Crew) (tg : PermitTg) (serial : Nat) (kind : TgKind) (body : List Byte) : Prop :=
  ∃ e ∈ (t.chan k.current).queue,
    e.owner = .permit tg serial ∧ e.kind = kind ∧ e.cls = .safety ∧ e.addr = .crew k.slot k.unit ∧ e.seq = some k.outSeq
      ∧ e.body = .bytes body ∧ e.inFlight = false ∧ e.linked = true

/-- No waiting entry of any queue is linked by an owner. -/
def State.noneWaits (s : State) (o : Owner) : Prop :=
  ∀ c, ∀ e ∈ (s.chan c).queue, e.owner = o → e.inFlight = false → e.linked = false

/-- The head of a crew's queue that no preemption can displace (R36): no EMERGENCY order stands second behind one that is not, and no
other crew's queue holds it. -/
def State.settledHead (s : State) (k : Crew) (n : Nat) : Prop :=
  k.queue.head? = some n ∧ s.emergencySecond k = none ∧ ∀ k' ∈ s.crews, k'.slot ≠ k.slot → n ∉ k'.queue

/-- A permit has claimed a device: granted, the instruction is outstanding; asked to wait, it waits on the device (R54, R71). -/
def Claimed (s t : State) (p p' : Permit) (device index : Nat) (what : ClaimFor) : Prop :=
  ∀ d, s.device? device = some d →
    let r := d.claim p.serial what
    (t.device? device).map (·.pending) = some r.1.pending
      ∧ (∀ act, r.2 = .granted act →
          p'.outstanding.map (fun i => (i.index, i.device, i.role, i.action)) = some (index, device, what.role, act)
            ∧ p'.waiting = false)
      ∧ (r.2 = .wait → p'.outstanding = none ∧ p'.waiting = true ∧ ∃ d', t.device? device = some d' ∧ p.serial ∈ d'.waits)

/-- A permit under no alarm hold has claimed the device of its stack top for restoration (R86). -/
def Restores (s t : State) (p p' : Permit) : Prop :=
  p.hold = false → ∀ device a rest, p.stack = (device, a) :: rest →
    Claimed s t p p' device (100 + (p.steps.findIdx fun step => step.device == device) + 1) .restoration

/-! ### What no work changes -/

/-- What no work inside a command changes, only a few requests and the tick: which records there are, the parameters, the
counters of the tables, the clock, the commands that wait and the console link. -/
structure Shape where
  slots       : List Nat
  badges      : List Nat
  numbers     : List Nat
  devices     : List Nat
  serials     : List Nat
  assignments : Word32
  nextSerial  : Nat
  nextText    : Nat
  clock       : Word32
  params      : Params
  pending     : List Instr
  held        : Option (List Byte)
  lost        : Bool
  out         : List Byte
  deriving DecidableEq, Repr

/-- The shape of a state. -/
def State.shape (s : State) : Shape where
  slots       := s.crews.map (·.slot)
  badges      := s.workers.map (·.badge)
  numbers     := s.orders.map (·.number)
  devices     := s.devices.map (·.number)
  serials     := s.permits.map (·.serial)
  assignments := s.assignments
  nextSerial  := s.serialCounter
  nextText    := s.textCounter
  clock       := s.clock
  params      := s.params
  pending     := s.pending
  held        := s.held
  lost        := s.responseLost
  out         := s.linkOut

end Sys2Proof.Machine
end

