-- ==== Sys2Proof/Certificates/Slice0/Obligations.lean ====
section
/-! DEFINITION. The statements about the model, for the provers. Safety.lean gives their terms: Runs, Refuses, Answers, Takes, Replied, Quiet, Alike and the invariant. -/

open Sys2Proof Sys2Proof.Machine

/-! ### The machine as a whole -/

/-- A step with a command waiting carries out the command at the front of the queue, with the rest of the queue left to wait;
with none waiting the part idles (the idling is the model's choice, assumption 1). -/
def Obligations.StepTakesFrontCommand : Prop :=
  (∀ (i : Instr) (rest : List Instr) (s : State), step { s with pending := i :: rest } = exec i { s with pending := rest })
    ∧ ∀ s : State, step { s with pending := [] } = .next { s with pending := [] }

/-- Every step of every state has a next state: the manual gives the part no stop. -/
def Obligations.EveryStepGoesOn : Prop := ∀ s : State, s.goesOn

/-- The invariant of the part is kept by every step, of whatever command: its tables in order and within their sizes, its
queues, mailboxes and notices within theirs, as are the queue and the members of each crew and the tags of each device, its
parameters and counters in range, its output lines right. -/
def Obligations.StepKeepsInvariant : Prop := ∀ s t : State, s.Inv → step s = .next t → t.Inv

/-- The part after power-on reset meets the invariant. -/
def Obligations.ResetMeetsInvariant : Prop := State.reset.Inv

/-- POWER_ON_RESET brings every table, queue, list, counter, parameter, the clock and ATTN to its reset value, and with them the
model's own fields (assumption 37). The commands that
wait, the number of choices made and the levels of the READY and CARRIER inputs, which are the outside's, stay (assumption 2). -/
def Obligations.ResetCommandResets : Prop :=
  ∀ s : State, Runs .powerOnReset s fun t =>
    t.crews = [] ∧ t.workers = [] ∧ t.orders = [] ∧ t.devices = [] ∧ t.permits = [] ∧ t.assignments = 0
      ∧ t.serialCounter = 1 ∧ t.textCounter = 1 ∧ t.clock = 0 ∧ t.notices = [] ∧ t.overflow = false ∧ t.held = none
      ∧ t.responseLost = false ∧ t.attn = false ∧ t.alarmOrder = [] ∧ t.owed = [] ∧ t.params = Params.reset
      ∧ (∀ c, t.chan c = { Channel.reset with ready := (s.chan c).ready, carrier := (s.chan c).carrier })
      ∧ t.linkOut = [] ∧ t.signals = [] ∧ t.choices = s.choices ∧ t.pending = s.pending

/-! ### The console link (Chapter 10) -/

/-- READ_TRANSFER shifts out the held response from its first byte, 0 after its last, frees it when it was clocked out in full,
and changes no record. -/
def Obligations.ReadTransferShiftsOut : Prop :=
  ∀ (clocks : Nat) (s : State), Runs (.readTransfer clocks) s fun t =>
    t.linkOut = s.shifted clocks ∧ t.linkOut.length = clocks
      ∧ t.held = (if (s.held.all fun r => decide (r.length ≤ clocks)) then none else s.held)
      ∧ t.responseLost = s.responseLost ∧ t.pending = s.pending ∧ t.outputsRight
      ∧ t.bare = { s with signals := [] }.bare

/-- A frame in error is answered FRAME_ERROR, and a request code that is not in the table UNKNOWN_REQUEST. A request whose parameters do
not fit its fields is refused BAD_VALUE, and so is one that names a crew slot, badge, order number, device, serial, channel or parameter
number out of its range; one that names a free record is refused NOT_FOUND. These checks come first, and none of these requests changes
a record. SIGN_ON, CREATE_ORDER, LOAD_DEVICE, SET_POSITION, DRAFT_PERMIT and the queries of the roster, the orders and the channels have
their other checks in statements of their own.
The widths of the parameters of SET_PARAM, START_WATCH and QUERY_CHANNEL and the coding of the target of ACK_ALARM and CLEAR_ALARM are
the model's choice (assumption 11). -/
def Obligations.FaultyRequestsAreAnswered : Prop :=
  (∀ (bytes : List Byte) (s : State), Refuses (.frameError bytes) s ⟨bytes.length, errorTag bytes⟩ .frameError)
    ∧ (∀ (x : Xfer) (code : Byte) (params : List Byte) (s : State), Refuses (.unknownRequest x code params) s x .unknownRequest)
    ∧ (∀ (x : Xfer) (s : State) (params : List Byte),
        let sized : List ((List Byte → Instr) × Nat) :=
          [(.identify x, 0), (.readNotices x, 1), (.readClock x, 0), (.setClock x, 4), (.readParam x, 1), (.setParam x, 3),
            (.queryChannel x, 2), (.signOn x, 7), (.signOff x, 1), (.addMember x, 3), (.removeMember x, 2), (.setChannels x, 3),
            (.queryCrew x, 1), (.queryWorker x, 2), (.assignOrder x, 3), (.unassignOrder x, 2), (.cancelOrder x, 2),
            (.bindPermit x, 4), (.retireOrder x, 2), (.queryOrder x, 2), (.listQueue x, 1), (.loadDevice x, 4),
            (.setPosition x, 3), (.unloadDevice x, 2), (.queryDevice x, 2), (.startSwitching x, 2), (.grantSurrender x, 2),
            (.denySurrender x, 2), (.retryPermit x, 2), (.reassignHolder x, 3), (.cancelPermit x, 2), (.retirePermit x, 2),
            (.queryPermit x, 2), (.startWatch x, 6), (.stopWatch x, 2), (.reviewWorker x, 2), (.enableChannel x, 1),
            (.disableChannel x, 1), (.restartChannel x, 1), (.readMessage x, 1)]
        (∀ r ∈ sized, params.length ≠ r.2 → Refuses (r.1 params) s x .badValue)
          ∧ (∀ r ∈ [Instr.ackAlarm x, Instr.clearAlarm x], params.length ≠ 2 → params.length ≠ 3 → Refuses (r params) s x .badValue)
          ∧ (params.length < 5 → Refuses (.createOrder x params) s x .badValue)
          ∧ (params.length < 3 → Refuses (.draftPermit x params) s x .badValue)
          ∧ (params.length < 2 → Refuses (.sendText x params) s x .badValue))
    ∧ ∀ (x : Xfer) (h l a b c d : Byte) (text : List Byte) (s : State),
        (∀ r ∈ [Instr.signOff x [h], .addMember x [h, a, b], .setChannels x [h, a, b], .sendText x (1 :: h :: text),
              .ackAlarm x [2, h], .clearAlarm x [2, h]],
            (63 < h.toNat → Refuses r s x .badValue)
              ∧ (h.toNat ≤ 63 → s.crew? h.toNat = none → Refuses r s x .notFound))
          ∧ (∀ r ∈ [Instr.removeMember x [h, l], .startWatch x [h, l, a, b, c, d], .stopWatch x [h, l], .reviewWorker x [h, l],
                .ackAlarm x [1, h, l], .clearAlarm x [1, h, l]],
              (be16 h l = 0 ∨ be16 h l = 65535 → Refuses r s x .badValue)
                ∧ (1 ≤ be16 h l → be16 h l ≤ 65534 → s.worker? (be16 h l) = none → Refuses r s x .notFound))
          ∧ (∀ r ∈ [Instr.assignOrder x [h, l, a], .unassignOrder x [h, l], .cancelOrder x [h, l], .bindPermit x [h, l, a, b],
                .retireOrder x [h, l]],
              (be16 h l = 0 → Refuses r s x .badValue)
                ∧ (1 ≤ be16 h l → s.order? (be16 h l) = none → Refuses r s x .notFound))
          ∧ (∀ r ∈ [Instr.unloadDevice x [h, l], .queryDevice x [h, l]],
              (511 < be16 h l → Refuses r s x .badValue)
                ∧ (be16 h l ≤ 511 → s.device? (be16 h l) = none → Refuses r s x .notFound))
          ∧ (∀ r ∈ [Instr.startSwitching x [h, l], .grantSurrender x [h, l], .denySurrender x [h, l], .retryPermit x [h, l],
                .reassignHolder x [h, l, a], .cancelPermit x [h, l], .retirePermit x [h, l], .queryPermit x [h, l]],
              (be16 h l = 0 → Refuses r s x .badValue)
                ∧ (1 ≤ be16 h l → s.permit? (be16 h l) = none → Refuses r s x .notFound))
          ∧ (∀ r ∈ [Instr.enableChannel x [h], .disableChannel x [h], .restartChannel x [h], .readMessage x [h]],
              3 < h.toNat → Refuses r s x .badValue)
          ∧ (1 ≤ be16 h l → (s.order? (be16 h l)).isSome →
              (63 < a.toNat → Refuses (.assignOrder x [h, l, a]) s x .badValue)
                ∧ (a.toNat ≤ 63 → s.crew? a.toNat = none → Refuses (.assignOrder x [h, l, a]) s x .notFound))
          ∧ (1 ≤ be16 h l → (s.permit? (be16 h l)).isSome →
              (63 < a.toNat → Refuses (.reassignHolder x [h, l, a]) s x .badValue)
                ∧ (a.toNat ≤ 63 → s.crew? a.toNat = none → Refuses (.reassignHolder x [h, l, a]) s x .notFound))
          ∧ (h.toNat ≤ 63 → (s.crew? h.toNat).isSome → 3 < a.toNat ∨ (3 < b.toNat ∧ b.toNat ≠ 255) →
              Refuses (.setChannels x [h, a, b]) s x .badValue)
          ∧ (h.toNat ≤ 63 → (s.crew? h.toNat).isSome → Refuses (.sendText x [1, h]) s x .badValue)
          ∧ (h.toNat ≠ 1 → h.toNat ≠ 2 → Refuses (.sendText x (h :: l :: text)) s x .badValue)
          ∧ (text.length < 4 → Refuses (.sendText x (2 :: h :: text)) s x .badValue)
          ∧ (3 < h.toNat ∨ 8191 < be16 a b ∨ 8191 < be16 c d ∨ text = [] →
              Refuses (.sendText x (2 :: h :: a :: b :: c :: d :: text)) s x .badValue)
          ∧ (h.toNat = 0 ∨ 20 < h.toNat → Refuses (.setParam x [h, a, b]) s x .badValue)
          ∧ (∀ r ∈ [Instr.ackAlarm x, Instr.clearAlarm x],
              (h.toNat ≠ 2 → Refuses (r [h, a]) s x .badValue) ∧ (h.toNat ≠ 1 → Refuses (r [h, a, b]) s x .badValue))

/-- IDENTIFY, READ_CLOCK, READ_PARAM and QUERY_CHANNEL answer OK with what they name and change no record; parameters that do
not fit are refused BAD_VALUE.
The width of the parameter number is the model's choice (assumption 11). -/
def Obligations.LinkQueriesAnswer : Prop :=
  ∀ (x : Xfer) (s : State),
    Runs (.identify x []) s (Answers s x s .ok [0x41, 0x20, 1])
      ∧ (∀ b bs, Refuses (.identify x (b :: bs)) s x .badValue)
      ∧ Runs (.readClock x []) s (Answers s x s .ok (u32 s.clock))
      ∧ (∀ b bs, Refuses (.readClock x (b :: bs)) s x .badValue)
      ∧ (∀ (n : Byte) (v d : Nat), s.params.get? n.toNat = some v → Params.reset.get? n.toNat = some d →
          Runs (.readParam x [n]) s (Answers s x s .ok
            ([n] ++ u16 v ++ u16 (s.params.range n.toNat).1 ++ u16 (s.params.range n.toNat).2 ++ u16 d)))
      ∧ (∀ n : Byte, n.toNat = 0 ∨ 20 < n.toNat → Refuses (.readParam x [n]) s x .badValue)
      ∧ (∀ (b first : Byte) (h : b.toNat < 4),
          Runs (.queryChannel x [b, first]) s (Answers s x s .ok (s.channelFields ⟨b.toNat, h⟩ first.toNat)))
      ∧ ∀ b first : Byte, 4 ≤ b.toNat → Refuses (.queryChannel x [b, first]) s x .badValue

/-- SET_CLOCK stores the value it carries, most significant byte first, and changes nothing else. -/
def Obligations.SetClockStores : Prop :=
  ∀ (x : Xfer) (a b c d : Byte) (s : State),
    Runs (.setClock x [a, b, c, d]) s (Answers s x { s with clock := a ++ b ++ c ++ d } .ok [])

/-- SET_PARAM stores the value clamped to the parameter's range, is answered ADJUSTED when it was clamped, and returns the
number, the value stored and, for the high mark, the low mark as it then stands. A lowered high-risk cap cuts the countdowns of the
members of high-risk crews in WATCHING and RESTING, and a lead prompt that falls due by the cut is no longer owed; the countdowns of all
other workers stay. Beside the parameters and this it changes only what telegram traffic changes. A change of a mark re-evaluates every
flow hold: set at a depth of the high mark or more, clear at one of the low mark or less, and otherwise as it was; where no telegram is
deferred on a channel whose hold clears, nothing else changes but the number of open choices, those of the order of the signals (assumption 34).
The width of the parameter number is the model's choice (assumption 11). -/
def Obligations.SetParamStores : Prop :=
  ∀ (x : Xfer) (n h l : Byte) (s : State) (old : Nat), s.params.get? n.toNat = some old →
    let v := clamp (s.params.range n.toNat).1 (s.params.range n.toNat).2 (be16 h l)
    Runs (.setParam x [n, h, l]) s fun t =>
      Replied s x (if v = be16 h l then .ok else .adjusted)
          ([n] ++ u16 v ++ if n.toNat = 8 then u16 (s.params.put 8 v).lowMark else []) t
        ∧ t.params = s.params.put n.toNat v
        ∧ (n.toNat ≠ 13 ∨ old ≤ v → Alike t { s with params := s.params.put n.toNat v })
        ∧ AlikeButWatches t { s with params := s.params.put n.toNat v }
        ∧ (n.toNat = 8 ∨ n.toNat = 9 →
            let marks := s.params.put n.toNat v
            let clears (c : Chan) : Bool := let ch := s.chan c
              ch.flowHold && decide (ch.queue.length < marks.highMark) && decide (ch.queue.length ≤ marks.lowMark)
            (∀ c, clears c = true → (s.chan c).permitDefer = [] ∧ (s.chan c).orderDefer = []) →
              t.bare = { s with
                params := marks, signals := [], choices := s.choices + ((allChans.filter clears).length - 1)
                chans := s.chans.map fun ch =>
                  { ch with
                    flowHold := decide (marks.highMark ≤ ch.queue.length)
                      || (ch.flowHold && decide (marks.lowMark < ch.queue.length)) } : State }.bare)
        ∧ (n.toNat = 13 → v < old → ∀ badge w, s.worker? badge = some w →
            let watched (w : Worker) := (w.remaining, w.graceLeft, w.eff, w.lead)
            let isCut := ∃ k ∈ s.crews, s.highRisk k.slot = true ∧ badge ∈ k.members
            let e := effectiveInterval w.interval w.missed true v
            let left := w.remaining.map (min · e)
            let lead := w.eff.map fun x => leadTime s.params.promptLead (min x e)
            let due := left.any fun r => lead.any fun l => decide (0 < r ∧ r ≤ l)
            (isCut → w.watch = .watching →
                (t.worker? badge).map watched = some (left, w.graceLeft, w.eff.map (min · e), lead)
                  ∧ (t.worker? badge).map (·.leadOwed) = some (w.leadOwed && !due))
              ∧ (isCut → w.watch = .resting → (t.worker? badge).map watched = some (left, w.graceLeft, w.eff, w.lead))
              ∧ (¬ isCut ∨ (w.watch ≠ .watching ∧ w.watch ≠ .resting) → (t.worker? badge).map watched = some (watched w)))

/-- READ_NOTICES takes up to eight of the oldest notices from the queue and READ_MESSAGE the oldest message from a mailbox. The
count asked for is clamped to 1..8; the overflow indication clears when the queue is left empty.
The layout of notices and of a message in a result (assumption 12), and that a clamped count is answered ADJUSTED for an empty queue too
(assumption 33), are the model's choices. -/
def Obligations.ReadingTakesTheOldest : Prop :=
  (∀ (x : Xfer) (n : Byte) (s : State),
      let count := clamp 1 8 n.toNat
      Runs (.readNotices x [n]) s
        (Answers s x { s with notices := s.notices.drop count, overflow := s.overflow && !(s.notices.drop count).isEmpty }
          (if count = n.toNat then .ok else .adjusted)
          (u8 (s.notices.take count).length ++ u8 (s.notices.drop count).length ++ mark s.overflow
            ++ ((s.notices.take count).map Notice.record).flatten)))
    ∧ (∀ (x : Xfer) (b : Byte) (c : Chan) (m : Message) (rest : List Message) (s : State), b.toNat = c.val →
        (s.chan c).mailbox = m :: rest →
        Runs (.readMessage x [b]) s
          (Answers s x (s.modChan c fun ch => { ch with mailbox := rest }) .ok (m.fields ++ u8 rest.length)))
    ∧ ∀ (x : Xfer) (b : Byte) (c : Chan) (s : State), b.toNat = c.val → (s.chan c).mailbox = [] →
        Refuses (.readMessage x [b]) s x .notFound

/-- A console transfer that carries a well-formed command is read as that command. -/
def Obligations.TransferRoundTrip : Prop :=
  ∀ (i : Instr) (bytes : List Byte), i.wellFormed = true → encodeTransfer i = some bytes → decodeTransfer bytes = i

/-! ### Crews and workers (Chapter 1) -/

/-- An accepted SIGN_ON takes the lowest free crew slot and a worker record, and changes nothing else. -/
def Obligations.SignOnEntersTheCrew : Prop :=
  ∀ (x : Xfer) (uh ul q hb a bh bl : Byte) (home : Chan) (alt : Option Chan) (slot : Nat) (more : List Nat) (s : State),
    chanOf hb.toNat = some home → altOf a = some alt → 1 ≤ be16 uh ul → be16 uh ul ≤ 8000 → q.toNat ≤ 3 →
    1 ≤ be16 bh bl → be16 bh bl ≤ 65534 → s.crewOfUnit? (be16 uh ul) = none → s.worker? (be16 bh bl) = none →
    s.freeSlots = slot :: more → s.workers.length < 160 →
    Runs (.signOn x [uh, ul, q, hb, a, bh, bl]) s fun t =>
      Answers s x
          { s with
            crews := tPut Crew.slot
              { slot := slot, unit := be16 uh ul, qual := q.toNat, home := home
                alt := if alt = some home then none else alt, current := home, reach := .reachable, failures := 0
                lastHeard := none, outSeq := 0, inSeq := none, members := [be16 bh bl], alarm := .none, alarmCause := none
                escal := none, escalated := false, queue := [], waitingFor := none } s.crews
            workers := tPut Worker.badge
              { badge := be16 bh bl, crew := slot, watch := .off, interval := s.params.defaultInterval
                grace := s.params.defaultGrace, eff := none, lead := none, remaining := none, graceLeft := none, missed := 0
                leadOwed := false, prompt := none, cause := none, escal := none, escalated := false } s.workers }
          .ok [BitVec.ofNat 8 slot] t
        ∧ (∀ j, j < slot → (s.crew? j).isSome)

/-- SIGN_ON makes its checks in the order of R3, is answered with the first that fails, and then changes nothing. -/
def Obligations.SignOnChecks : Prop :=
  ∀ (x : Xfer) (uh ul q hb a bh bl : Byte) (s : State),
    let row1 := be16 uh ul < 1 ∨ 8000 < be16 uh ul ∨ 3 < q.toNat ∨ 3 < hb.toNat ∨ (3 < a.toNat ∧ a.toNat ≠ 255)
      ∨ be16 bh bl = 0 ∨ be16 bh bl = 65535
    let row2 := (∃ k ∈ s.crews, k.unit = be16 uh ul) ∨ ∃ w ∈ s.workers, w.badge = be16 bh bl
    let row3 := (∀ j < 64, ∃ k ∈ s.crews, k.slot = j) ∨ 160 ≤ s.workers.length
    (row1 → Refuses (.signOn x [uh, ul, q, hb, a, bh, bl]) s x .badValue)
      ∧ (¬ row1 → row2 → Refuses (.signOn x [uh, ul, q, hb, a, bh, bl]) s x .duplicate)
      ∧ (¬ row1 → ¬ row2 → row3 → Refuses (.signOn x [uh, ul, q, hb, a, bh, bl]) s x .full)

/-- ADD_MEMBER: its checks in order, and an accepted one appends the badge to the member list of a crew and takes a worker
record in watch state OFF. -/
def Obligations.AddMemberAppends : Prop :=
  ∀ (x : Xfer) (b h l : Byte) (k : Crew) (s : State), b.toNat ≤ 63 → s.crew? b.toNat = some k →
    (be16 h l = 0 ∨ be16 h l = 65535 → Refuses (.addMember x [b, h, l]) s x .badValue)
      ∧ (be16 h l ≠ 0 → be16 h l ≠ 65535 → (s.worker? (be16 h l)).isSome → Refuses (.addMember x [b, h, l]) s x .duplicate)
      ∧ (be16 h l ≠ 0 → be16 h l ≠ 65535 → s.worker? (be16 h l) = none → 6 ≤ k.members.length ∨ 160 ≤ s.workers.length →
          Refuses (.addMember x [b, h, l]) s x .full)
      ∧ (be16 h l ≠ 0 → be16 h l ≠ 65535 → s.worker? (be16 h l) = none → k.members.length < 6 → s.workers.length < 160 →
          Runs (.addMember x [b, h, l]) s
            (Answers s x
              { s.modCrew b.toNat (fun k' => { k' with members := k'.members ++ [be16 h l] }) with
                workers := tPut Worker.badge (s.newWorker (be16 h l) b.toNat) s.workers }
              .ok [BitVec.ofNat 8 (k.members.length + 1)]))

/-- REMOVE_MEMBER takes a worker that is not the only member and not in alarm from its crew and frees its record; beside that it
changes only what telegram traffic changes. Otherwise it is refused BAD_STATE. -/
def Obligations.RemoveMemberFrees : Prop :=
  ∀ (x : Xfer) (h l : Byte) (w : Worker) (k : Crew) (s : State), 1 ≤ be16 h l → be16 h l ≤ 65534 →
    s.worker? (be16 h l) = some w → s.crew? w.crew = some k →
    (k.members.length ≤ 1 ∨ w.watch = .alarm ∨ w.watch = .acknowledged → Refuses (.removeMember x [h, l]) s x .badState)
      ∧ (2 ≤ k.members.length → w.watch ≠ .alarm → w.watch ≠ .acknowledged →
          Runs (.removeMember x [h, l]) s fun t =>
            Replied s x .ok [BitVec.ofNat 8 (k.members.length - 1)] t
              ∧ Alike t
                { s.modCrew w.crew (fun k' => { k' with members := k'.members.erase (be16 h l) }) with
                  workers := tDel Worker.badge (be16 h l) s.workers })

/-- SIGN_OFF is refused CONFLICT while the crew holds a permit that is not CLOSED or has an order out of ASSIGNED in its queue.
An accepted one makes each order of the crew's queue OPEN with no crew, leaves no order assigned to the crew, and frees the crew slot and
the crew's worker records. Of the entries for the crew those that wait leave its channel's queue, and what stays anywhere is an orphan; the
crew's alarms leave every set. It returns how many orders it made OPEN and how many entries for the crew it withdrew; no other crew, no
permit's work and no device changes.
That an alarm call withdrawn with the alarms is not counted is the model's choice (assumption 23). -/
def Obligations.SignOffTearsDown : Prop :=
  ∀ (x : Xfer) (b : Byte) (k : Crew) (s : State), b.toNat ≤ 63 → s.crew? b.toNat = some k →
    ((∃ p ∈ s.permits, p.holder = b.toNat ∧ p.state ≠ .closed)
        ∨ (∃ n ∈ k.queue, ∃ o, s.order? n = some o ∧ o.state ≠ .assigned) → Refuses (.signOff x [b]) s x .conflict)
      ∧ ((∀ p ∈ s.permits, p.holder = b.toNat → p.state = .closed) →
          (∀ n ∈ k.queue, ∀ o, s.order? n = some o → o.state = .assigned) →
          Runs (.signOff x [b]) s fun t =>
            Replied s x .ok (u8 k.queue.length
                ++ u8 ((s.chan k.current).queue.filter fun e => !e.inFlight && e.isFor b.toNat).length) t
              ∧ t.crew? b.toNat = none
              ∧ (∀ j, j ≠ b.toNat → (t.crew? j).map Crew.frame = (s.crew? j).map Crew.frame)
              ∧ (∀ w ∈ t.workers, w.crew ≠ b.toNat)
              ∧ (∀ o ∈ t.orders, o.crew ≠ some b.toNat)
              ∧ (∀ n ∈ k.queue, ∀ o, s.order? n = some o →
                  (t.order? n).map (fun o => (o.state, o.crew, o.deferral)) = some (.opened, none, none))
              ∧ (∀ c, ∀ e ∈ (t.chan c).queue, e.addr.slot? = some b.toNat → e.orphan = true)
              ∧ (∀ e ∈ (t.chan k.current).queue, e.addr.slot? = some b.toNat →
                  e.inFlight = true ∨ e ∈ (s.chan k.current).queue)
              ∧ (let alarms := s.alarmOrder.filter fun a => decide (s.alarmCrew a = some b.toNat)
                t.alarmOrder = alarms.foldl List.erase s.alarmOrder
                  ∧ ∀ c, (t.chan c).alarmSet = alarms.foldl List.erase (s.chan c).alarmSet)
              ∧ t.permits.map Permit.frame = s.permits.map Permit.frame
              ∧ t.devices = s.devices ∧ t.params = s.params ∧ t.clock = s.clock)

/-- SET_CHANNELS stores the home and alternate channels and puts the crew on the home channel if that is in service, else on
the alternate if that is, else on the home channel; no other crew's channels change. -/
def Obligations.SetChannelsMoves : Prop :=
  ∀ (x : Xfer) (b hb a : Byte) (k : Crew) (home : Chan) (alt : Option Chan) (s : State), b.toNat ≤ 63 →
    s.crew? b.toNat = some k → chanOf hb.toNat = some home → altOf a = some alt →
    let kept := if alt = some home then none else alt
    let chosen := if s.inService home then home else if kept.any s.inService then kept.getD home else home
    Runs (.setChannels x [b, hb, a]) s fun t =>
      Replied s x .ok (u8 home.val ++ altField kept ++ u8 chosen.val) t
        ∧ (t.crew? b.toNat).map (·.current) = some chosen
        ∧ (∀ j, j ≠ b.toNat → (t.crew? j).map (·.current) = (s.crew? j).map (·.current))
        ∧ AlikeButMoves t (s.modCrew b.toNat fun k => { k with home := home, alt := kept })

/-- QUERY_CREW, QUERY_WORKER, QUERY_ORDER and LIST_QUEUE answer OK with the records as they stand and change no field; a number
out of range is refused BAD_VALUE and a free record NOT_FOUND.
The layout of the results is the model's choice (assumption 12). -/
def Obligations.RosterAndOrderQueries : Prop :=
  ∀ (x : Xfer) (s : State),
    (∀ (b : Byte) (k : Crew), b.toNat ≤ 63 → s.crew? b.toNat = some k →
        Runs (.queryCrew x [b]) s (Answers s x s .ok (s.crewFields k))
          ∧ Runs (.listQueue x [b]) s
              (Answers s x s .ok (itemList ((k.queue.filterMap s.order?).map Order.queueFields))))
      ∧ (∀ b : Byte, 63 < b.toNat → Refuses (.queryCrew x [b]) s x .badValue ∧ Refuses (.listQueue x [b]) s x .badValue)
      ∧ (∀ b : Byte, b.toNat ≤ 63 → s.crew? b.toNat = none →
          Refuses (.queryCrew x [b]) s x .notFound ∧ Refuses (.listQueue x [b]) s x .notFound)
      ∧ (∀ (h l : Byte) (w : Worker), 1 ≤ be16 h l → be16 h l ≤ 65534 → s.worker? (be16 h l) = some w →
          Runs (.queryWorker x [h, l]) s (Answers s x s .ok (s.workerFields w)))
      ∧ (∀ h l : Byte, be16 h l = 0 ∨ be16 h l = 65535 → Refuses (.queryWorker x [h, l]) s x .badValue)
      ∧ (∀ h l : Byte, 1 ≤ be16 h l → be16 h l ≤ 65534 → s.worker? (be16 h l) = none →
          Refuses (.queryWorker x [h, l]) s x .notFound)
      ∧ (∀ (h l : Byte) (o : Order), 1 ≤ be16 h l → s.order? (be16 h l) = some o →
          Runs (.queryOrder x [h, l]) s (Answers s x s .ok (s.orderFields o)))
      ∧ (∀ h l : Byte, be16 h l = 0 → Refuses (.queryOrder x [h, l]) s x .badValue)
      ∧ ∀ h l : Byte, 1 ≤ be16 h l → s.order? (be16 h l) = none → Refuses (.queryOrder x [h, l]) s x .notFound

/-! ### Work orders (Chapter 2) -/

/-- CREATE_ORDER: its checks in the order of R22, and an accepted one takes a record with the text's first 64 bytes.
The width of the stored text length in the result is the model's choice (assumption 12). -/
def Obligations.CreateOrderTakesARecord : Prop :=
  ∀ (x : Xfer) (nh nl p sh sl : Byte) (text : List Byte) (s : State),
    let row1 := be16 nh nl = 0 ∨ p.toNat = 0 ∨ 4 < p.toNat
    let row2 := ∃ o ∈ s.orders, o.number = be16 nh nl
    let row3 := be16 sh sl ≠ 0 ∧ ∀ q ∈ s.permits, q.serial ≠ be16 sh sl
    let cmd := Instr.createOrder x (nh :: nl :: p :: sh :: sl :: text)
    (row1 → Refuses cmd s x .badValue)
      ∧ (¬ row1 → row2 → Refuses cmd s x .duplicate)
      ∧ (¬ row1 → ¬ row2 → row3 → Refuses cmd s x .notFound)
      ∧ (¬ row1 → ¬ row2 → ¬ row3 → 256 ≤ s.orders.length → Refuses cmd s x .full)
      ∧ ∀ priority, priorityOf p.toNat = some priority → ¬ row1 → ¬ row2 → ¬ row3 → s.orders.length < 256 →
          Runs cmd s
            (Answers s x
              { s with
                orders := tPut Order.number
                  { number := be16 nh nl, priority := priority, state := .opened, crew := none
                    bound := if be16 sh sl = 0 then none else some (be16 sh sl), text := text.take 64, created := s.clock
                    deliveredAt := none, asgSeq := 0, deferral := none, returned := none, acceptance := none
                    unanswered := false, link := none, followUp := none } s.orders }
              (if 64 < text.length then .adjusted else .ok) (u16 (be16 nh nl) ++ u8 (min 64 text.length)))

/-- ASSIGN_ORDER: its checks, and what an accepted one writes: the order is the crew's, with the assignment counter's value, its
follow-up, deferral cause and marks cleared; it stands in the crew's queue and the counter advances. Beside that only telegram
traffic changes the state (the offer of a new head, preemption, evictions). Its place: before an ASSIGNED head only where it ranks first of
the whole queue, the old head then by rank among the rest, and otherwise by rank behind the head. An EMERGENCY order that then stands
second takes the place of a head that is not one and on which no work has begun, no telegram of it in flight: the old head goes back to
ASSIGNED, by rank among the rest, its telegram withdrawn, and the new head is sent where its crew is not LOST and its channel's queue has
room. -/
def Obligations.AssignOrderPlaces : Prop :=
  ∀ (x : Xfer) (h l b : Byte) (o : Order) (k : Crew) (s : State), 1 ≤ be16 h l → s.order? (be16 h l) = some o →
    b.toNat ≤ 63 → s.crew? b.toNat = some k →
    let free := o.state = .opened ∨ o.state = .returned ∨ o.state = .undelivered
    let busy := o.link ≠ none ∨ ∃ f, o.followUp = some f ∧ (f.2 = .owed ∨ f.2 = .queued ∨ f.2 = .inFlight)
    (¬ free → Refuses (.assignOrder x [h, l, b]) s x .badState)
      ∧ (free → busy → Refuses (.assignOrder x [h, l, b]) s x .conflict)
      ∧ (free → ¬ busy → 8 ≤ k.queue.length → Refuses (.assignOrder x [h, l, b]) s x .full)
      ∧ (free → ¬ busy → k.queue.length < 8 →
          Runs (.assignOrder x [h, l, b]) s fun t =>
            (∃ results, Replied s x .ok results t ∧ results.length = 3)
              ∧ Alike t
                ({ s.modOrder (be16 h l) (fun o' =>
                    { o' with
                      crew := some b.toNat, state := .assigned, asgSeq := s.assignments, deferral := none, returned := none
                      unanswered := false, followUp := none }) with
                  assignments := s.assignments + 1 }.modCrew b.toNat fun k => { k with queue := be16 h l :: k.queue })
              ∧ (be16 h l ∉ k.queue →
                  let n := be16 h l
                  let rank := (s.modOrder n fun o => { o with asgSeq := s.assignments }).rankOf
                  let placed (m : Nat) (front back : List Nat) : Prop :=
                    (∀ j ∈ front, ranksBefore (rank m) (rank j) = false)
                      ∧ ∀ j, back.head? = some j → ranksBefore (rank m) (rank j) = true
                  let queued (q : List Nat) : Prop := (t.crew? b.toNat).map (·.queue) = some q
                  (k.queue = [] → queued [n])
                    ∧ ∀ head rest ho, k.queue = head :: rest → s.order? head = some ho →
                        let first := ho.state = .assigned ∧ ∀ m ∈ head :: rest, ranksBefore (rank n) (rank m) = true
                        (first → ∃ front back, rest = front ++ back ∧ placed head front back ∧ queued (n :: front ++ head :: back))
                          ∧ (¬ first → ∃ front back second more, rest = front ++ back ∧ placed n front back
                              ∧ front ++ n :: back = second :: more
                              ∧ ∀ so, s.order? second = some so →
                                  let preempts := so.priority = .emergency ∧ ho.priority ≠ .emergency
                                    ∧ (ho.state = .assigned ∨ (ho.state = .sent ∧ ho.link = some .queued)
                                      ∨ ((ho.state = .delivered ∨ ho.state = .accepted ∨ ho.state = .blocked) ∧ ho.link = none))
                                  (¬ preempts → queued (head :: second :: more))
                                    ∧ (preempts → (∃ before after, more = before ++ after ∧ placed head before after
                                          ∧ queued (second :: before ++ head :: after))
                                        ∧ ((∀ k' ∈ s.crews, k'.slot ≠ b.toNat → head ∉ k'.queue) →
                                            (t.order? head).map (fun o => (o.state, o.link, o.deferral, o.acceptance, o.unanswered))
                                                = some (.assigned, none, none, none, false)
                                              ∧ (ho.state = .sent → ∀ c, ∀ e ∈ (t.chan c).queue, e.owner = .order head → e.inFlight = true))
                                        ∧ (second = n ∨ so.state = .assigned → k.reach ≠ .lost →
                                            (s.chan k.current).queue.length < 24 →
                                            (∀ c, ∀ e ∈ (s.chan c).queue, e.owner = .order second → e.inFlight = true) →
                                            (t.order? second).map (fun o => (o.state, o.link)) = some (.sent, some .queued)
                                              ∧ ∃ e ∈ (t.chan k.current).queue,
                                                  e.owner = .order second ∧ e.cls = .safety ∧ e.addr = k.addr ∧ e.inFlight = false)))))

/-- An order that is not an emergency, assigned to a crew with an empty queue that is not LOST and whose channel's queue admits
orders, is sent at once: it is SENT, its ORDER telegram waits in the queue of the crew's channel at the end of the order class
under the crew's outbound sequence, and the sequence advances. -/
def Obligations.AssignToIdleCrewSends : Prop :=
  ∀ (x : Xfer) (h l b : Byte) (o : Order) (k : Crew) (s : State), 1 ≤ be16 h l → s.order? (be16 h l) = some o →
    b.toNat ≤ 63 → s.crew? b.toNat = some k → o.state = .opened → o.link = none → o.followUp = none → o.acceptance = none →
    o.priority ≠ .emergency → k.queue = [] → k.reach ≠ .lost → (s.chan k.current).queue.length < 24 →
    (s.chan k.current).flowHold = false →
    Runs (.assignOrder x [h, l, b]) s fun t =>
      Replied s x .ok [1, 3, 0] t
        ∧ t.order? (be16 h l) = some
            { o with
              crew := some b.toNat, state := .sent, asgSeq := s.assignments, deferral := none, returned := none
              unanswered := false, link := some .queued, followUp := none }
        ∧ (t.crew? b.toNat).map (fun k => (k.queue, k.outSeq)) = some ([be16 h l], k.outSeq + 1)
        ∧ (t.chan k.current).queue = insertEntry
            { owner := .order (be16 h l), kind := .order, cls := .order, addr := .crew b.toNat k.unit, seq := some k.outSeq
              body := .bytes (u16 (be16 h l) ++ u8 o.priority.code ++ u16 (o.bound.getD 0) ++ u8 o.text.length ++ o.text)
              attempts := 0, holdOff := 0, blocksSent := 0, repeats := none, rearm := false, inFlight := false
              orphan := false, admission := (s.chan k.current).admissions, linked := true } (s.chan k.current).queue
        ∧ ∀ c, c ≠ k.current → (t.chan c).queue = (s.chan c).queue

/-- UNASSIGN_ORDER makes an ASSIGNED order OPEN with no crew and takes it from its crew's queue; beside that only telegram traffic
changes the state. Any other order is refused BAD_STATE. -/
def Obligations.UnassignOrderOpens : Prop :=
  ∀ (x : Xfer) (h l : Byte) (o : Order) (s : State), 1 ≤ be16 h l → s.order? (be16 h l) = some o →
    (o.state ≠ .assigned → Refuses (.unassignOrder x [h, l]) s x .badState)
      ∧ ∀ slot, o.state = .assigned → o.crew = some slot →
          Runs (.unassignOrder x [h, l]) s fun t =>
            Replied s x .ok [] t
              ∧ Alike t ((s.modOrder (be16 h l) fun o => { o with state := .opened, crew := none, deferral := none }).modCrew slot
                  fun k => { k with queue := k.queue.erase (be16 h l) })

/-- CANCEL_ORDER makes an order CANCELLED, takes it from its crew's queue and, where the crew can have it in hand, makes
ORDER_CANCEL its follow-up; it returns the old state and whether it did. An order that has ended is refused BAD_STATE. -/
def Obligations.CancelOrderCancels : Prop :=
  ∀ (x : Xfer) (h l : Byte) (o : Order) (s : State), 1 ≤ be16 h l → s.order? (be16 h l) = some o →
    let ended := o.state = .complete ∨ o.state = .returned ∨ o.state = .undelivered ∨ o.state = .cancelled
    let inHand := o.state = .delivered ∨ o.state = .accepted ∨ o.state = .blocked ∨ o.state = .working
    (ended → Refuses (.cancelOrder x [h, l]) s x .badState)
      ∧ ∀ slot, ¬ ended → (o.crew = some slot ∨ (o.crew = none ∧ s.crew? slot = none)) →
          Runs (.cancelOrder x [h, l]) s fun t =>
            Replied s x .ok (u8 o.state.code ++ if inHand then [1] else [0]) t
              ∧ Alike t ((s.modOrder (be16 h l) fun o' =>
                  { o' with
                    state := .cancelled, acceptance := none, deferral := none
                    followUp := if inHand then some (.cancel, .owed) else o'.followUp }).modCrew slot
                  fun k => { k with queue := k.queue.erase (be16 h l) })

/-- BIND_PERMIT stores or clears an order's bound serial, after its checks; nothing else changes. -/
def Obligations.BindPermitBinds : Prop :=
  ∀ (x : Xfer) (h l sh sl : Byte) (o : Order) (s : State), 1 ≤ be16 h l → s.order? (be16 h l) = some o →
    let open_ := o.state = .opened ∨ o.state = .assigned ∨ o.state = .sent ∨ o.state = .delivered ∨ o.state = .accepted
    (¬ open_ → Refuses (.bindPermit x [h, l, sh, sl]) s x .badState)
      ∧ (open_ → be16 sh sl ≠ 0 → s.permit? (be16 sh sl) = none → Refuses (.bindPermit x [h, l, sh, sl]) s x .notFound)
      ∧ (open_ → be16 sh sl = 0 ∨ (s.permit? (be16 sh sl)).isSome →
          Runs (.bindPermit x [h, l, sh, sl]) s
            (Answers s x
              (s.modOrder (be16 h l) fun o => { o with bound := if be16 sh sl = 0 then none else some (be16 sh sl) }) .ok []))

/-- RETIRE_ORDER and RETIRE_PERMIT free the record they name, once nothing of it is under way; before that they are refused. -/
def Obligations.RetiringFreesTheRecord : Prop :=
  (∀ (x : Xfer) (h l : Byte) (o : Order) (s : State), 1 ≤ be16 h l → s.order? (be16 h l) = some o →
      let done := o.state = .opened ∨ o.state = .complete ∨ o.state = .returned ∨ o.state = .undelivered ∨ o.state = .cancelled
      let busy := o.link ≠ none ∨ ∃ f, o.followUp = some f ∧ (f.2 = .owed ∨ f.2 = .queued ∨ f.2 = .inFlight)
      (¬ done → Refuses (.retireOrder x [h, l]) s x .badState)
        ∧ (done → busy → Refuses (.retireOrder x [h, l]) s x .conflict)
        ∧ (done → ¬ busy → Runs (.retireOrder x [h, l]) s
            (Answers s x { s with orders := tDel Order.number (be16 h l) s.orders } .ok [])))
    ∧ ∀ (x : Xfer) (h l : Byte) (p : Permit) (s : State), 1 ≤ be16 h l → s.permit? (be16 h l) = some p →
      let busy := (∃ st, p.closing = some st ∧ (st = .deferred ∨ st = .queued ∨ st = .inFlight))
        ∨ ∃ a, p.answer = some a ∧ (a.status = .deferred ∨ a.status = .queued ∨ a.status = .inFlight)
      (p.state ≠ .closed → Refuses (.retirePermit x [h, l]) s x .badState)
        ∧ (p.state = .closed → busy → Refuses (.retirePermit x [h, l]) s x .conflict)
        ∧ (p.state = .closed → ¬ busy → Runs (.retirePermit x [h, l]) s
            (Answers s x { s with permits := tDel Permit.serial (be16 h l) s.permits } .ok []))

/-! ### Switching points (Chapter 3) -/

/-- LOAD_DEVICE makes its checks in the order of R48; an accepted one loads the place, untagged and free, and returns the number and
the isolation position: CLOSED for a GROUND, OPEN for the rest. -/
def Obligations.LoadDeviceLoads : Prop :=
  ∀ (x : Xfer) (h l kb pb : Byte) (s : State),
    let row1 := 511 < be16 h l ∨ kb.toNat < 1 ∨ 4 < kb.toNat ∨ pb.toNat < 1 ∨ 2 < pb.toNat
    let row2 := ∃ d ∈ s.devices, d.number = be16 h l
    (row1 → Refuses (.loadDevice x [h, l, kb, pb]) s x .badValue)
      ∧ (¬ row1 → row2 → Refuses (.loadDevice x [h, l, kb, pb]) s x .duplicate)
      ∧ ∀ kind position, kindOf kb.toNat = some kind → positionOf pb.toNat = some position → be16 h l ≤ 511 → ¬ row2 →
          Runs (.loadDevice x [h, l, kb, pb]) s
            (Answers s x
              { s with
                devices := tPut Device.number
                  { number := be16 h l, kind := kind, position := position, tags := [], restore := none, pending := none
                    waits := [] } s.devices }
              .ok (u16 (be16 h l) ++ if kb.toNat = 4 then [2] else [1]))

/-- SET_POSITION stores the position reported for a device that is untagged and has no pending instruction; its checks come
first, and a refused one changes nothing. -/
def Obligations.SetPositionStores : Prop :=
  ∀ (x : Xfer) (h l pb : Byte) (s : State),
    (511 < be16 h l → Refuses (.setPosition x [h, l, pb]) s x .badValue)
      ∧ (be16 h l ≤ 511 → s.device? (be16 h l) = none → Refuses (.setPosition x [h, l, pb]) s x .notFound)
      ∧ ∀ d, be16 h l ≤ 511 → s.device? (be16 h l) = some d →
          (pb.toNat < 1 ∨ 2 < pb.toNat → Refuses (.setPosition x [h, l, pb]) s x .badValue)
            ∧ (1 ≤ pb.toNat → pb.toNat ≤ 2 → d.tags ≠ [] ∨ d.pending ≠ none → Refuses (.setPosition x [h, l, pb]) s x .conflict)
            ∧ ∀ position, positionOf pb.toNat = some position → d.tags = [] → d.pending = none →
                Runs (.setPosition x [h, l, pb]) s
                  (Answers s x (s.modDevice (be16 h l) fun d => { d with position := position }) .ok [])

/-- UNLOAD_DEVICE unloads a device that is untagged, free and named by no permit that is not CLOSED, and is refused CONFLICT for
any other. QUERY_DEVICE and QUERY_PERMIT answer OK with the records as they stand and change no field.
The layout of the results is the model's choice (assumption 12). -/
def Obligations.UnloadAndQueries : Prop :=
  ∀ (x : Xfer) (h l : Byte) (s : State),
    (∀ d, be16 h l ≤ 511 → s.device? (be16 h l) = some d →
        let named := ∃ p ∈ s.permits, p.state ≠ .closed ∧ ∃ t ∈ p.steps, t.device = be16 h l
        (d.tags ≠ [] ∨ d.pending ≠ none ∨ named → Refuses (.unloadDevice x [h, l]) s x .conflict)
          ∧ (d.tags = [] → d.pending = none → ¬ named →
              Runs (.unloadDevice x [h, l]) s
                (Answers s x { s with devices := tDel Device.number (be16 h l) s.devices } .ok []))
          ∧ Runs (.queryDevice x [h, l]) s (Answers s x s .ok (s.deviceFields d)))
      ∧ ∀ p, 1 ≤ be16 h l → s.permit? (be16 h l) = some p →
          Runs (.queryPermit x [h, l]) s (Answers s x s .ok (s.permitFields p))

/-- How a claim on a device is decided (R54), and the action it derives: HANG_TAG for an isolation claim on a device that stands at
its isolation position, the drafted action otherwise (R55); for a restoration claim REMOVE_TAG while another permit's tag hangs or
the device is to stay at its isolation position, otherwise the action that returns it (R56). -/
def Obligations.ClaimIsDecided : Prop :=
  ∀ (d : Device) (serial : Nat),
    (∀ p what, d.pending = some p →
        d.claim serial what = ({ d with waits := if serial ∈ d.waits then d.waits else d.waits ++ [serial] }, .wait))
      ∧ (∀ a, d.pending = none → 8 ≤ d.tags.length → d.claim serial (.isolation a) = (d, .tagLimit))
      ∧ (∀ a, d.pending = none → d.tags.length < 8 →
          let action := if d.position = d.isolation then Action.hangTag else a.action
          d.claim serial (.isolation a)
            = ({ d with pending := some (serial, action), waits := d.waits.erase serial }, .granted action))
      ∧ (d.pending = none →
          let action :=
            if (∃ t ∈ d.tags, t ≠ serial) ∨ d.restore = some d.isolation then Action.removeTag
            else if d.kind = .ground then Action.removeGround else Action.closeDevice
          d.claim serial .restoration
            = ({ d with pending := some (serial, action), waits := d.waits.erase serial }, .granted action))

/-- A device with tags stands at its isolation position and holds a restore position, and one without holds none: a granted
claim and the DONE report of its instruction keep it so, an isolation by a permit without a tag on the device and a restoration
alike; the first tag hung records the position from before it. -/
def Obligations.TaggedDeviceStaysIsolated : Prop :=
  ∀ (d : Device) (serial : Nat) (what : ClaimFor) (a : Action),
    let right (d : Device) := d.tags.Nodup ∧ (d.tags ≠ [] → d.position = d.isolation ∧ d.restore.isSome)
      ∧ (d.tags = [] → d.restore = none)
    right d → (what ≠ .restoration → serial ∉ d.tags) → (d.claim serial what).2 = .granted a →
      let d' := (d.claim serial what).1.applyDone
      right d'
        ∧ (what ≠ .restoration → d'.tags = d.tags ++ [serial] ∧ (d.tags = [] → d'.restore = some d.position))
        ∧ (what = .restoration → d'.tags = d.tags.erase serial
            ∧ (d'.tags = [] → d.tags ≠ [] → d.restore = some d'.position))

/-! ### Switching permits (Chapter 4) -/

/-- DRAFT_PERMIT makes its checks in the order of R64. An accepted one takes a record under the first serial from the serial counter
on, wrapping from 65535 to 1, that no record holds, and the counter then stands one past it; it makes no claim, offers no telegram
and posts no notice. -/
def Obligations.DraftPermitTakesARecord : Prop :=
  ∀ (x : Xfer) (hb q n : Byte) (rest : List Byte) (s : State),
    let cmd := Instr.draftPermit x (hb :: q :: n :: rest)
    let asked := (readSteps rest).bind draftSteps
    let row1 := 63 < hb.toNat ∨ 3 < q.toNat ∨ n.toNat = 0 ∨ 12 < n.toNat ∨ asked = none
      ∨ ∃ steps, asked = some steps
          ∧ (steps.length ≠ n.toNat ∨ (∃ t ∈ steps, 511 < t.device) ∨ ¬ (steps.map (·.device)).Nodup)
    (row1 → Refuses cmd s x .badValue)
      ∧ ∀ steps, asked = some steps → ¬ row1 →
          (s.crew? hb.toNat = none ∨ (∃ t ∈ steps, s.device? t.device = none) → Refuses cmd s x .notFound)
            ∧ ∀ k, s.crew? hb.toNat = some k → (∀ t ∈ steps, (s.device? t.device).isSome) →
                let suited := ∀ t ∈ steps, ∀ d, s.device? t.device = some d → (t.action = .applyGround ↔ d.kind = .ground)
                (¬ suited → Refuses cmd s x .badValue)
                  ∧ (suited → k.qual < q.toNat → Refuses cmd s x .conflict)
                  ∧ (suited → q.toNat ≤ k.qual → 32 ≤ s.permits.length → Refuses cmd s x .full)
                  ∧ (suited → q.toNat ≤ k.qual → s.permits.length < 32 → 1 ≤ s.serialCounter → s.serialCounter ≤ 65535 →
                      let nth (i : Nat) := (s.serialCounter - 1 + i) % 65535 + 1
                      Runs cmd s fun t => ∃ i,
                        s.permit? (nth i) = none ∧ (∀ j, j < i → (s.permit? (nth j)).isSome)
                          ∧ Answers s x
                            { s with
                              permits := tPut Permit.serial
                                { serial := nth i, holder := hb.toNat, minQual := q.toNat, state := .draft, steps := steps
                                  k := 0, stack := [], outstanding := none, lastReleased := none, cancelWait := false
                                  stall := none, issueCount := 0, issue := none, issueOwed := false, readback := none
                                  digest := none, surrender := false, answer := none, closing := none
                                  hold := s.inAlarm hb.toNat, deferred := false, waiting := false } s.permits
                              serialCounter := if nth i = 65535 then 1 else nth i + 1 }
                            .ok (u16 (nth i)) t)

/-- START_SWITCHING takes a DRAFT permit to SWITCHING and claims the device of its first step: granted, the instruction is
recorded and offered, and a queue with room takes in its STEP_INSTRUCT where no lead prompt is owed and no earlier STEP_INSTRUCT of the
permit waits; asked to wait, the permit waits on the device; at the tag limit, the permit stalls. Under alarm hold no
claim is made. The response gives the state and the claim's answer.
The layout of the result is the model's choice (assumption 12). -/
def Obligations.StartSwitchingClaims : Prop :=
  ∀ (x : Xfer) (h l : Byte) (p : Permit) (first : Step) (d : Device) (s : State), 1 ≤ be16 h l →
    s.permit? (be16 h l) = some p →
    (p.state ≠ .draft → Refuses (.startSwitching x [h, l]) s x .badState)
      ∧ (p.state = .draft → p.steps.head? = some first → s.device? first.device = some d → p.outstanding = none →
          p.cancelWait = false →
          let claimed := (d.claim (be16 h l) (.isolation first.action)).1
          let moved := s.modPermit (be16 h l) fun p => { p with k := 0, state := .switching }
          (p.hold = true →
              Runs (.startSwitching x [h, l]) s fun t => Replied s x .ok [2, 0, 0] t ∧ AlikeButWatches t moved)
            ∧ (p.hold = false → ∀ a, (d.claim (be16 h l) (.isolation first.action)).2 = .granted a →
                Runs (.startSwitching x [h, l]) s fun t =>
                  Replied s x .ok [2, 1, 3] t
                    ∧ AlikeButWatches t ((moved.modDevice first.device fun d =>
                        (d.claim (be16 h l) (.isolation first.action)).1).modPermit (be16 h l) fun p =>
                          { p with outstanding := some ⟨1, first.device, .isolation, a, .queued⟩, waiting := false })
                    ∧ t.device? first.device = some claimed
                    ∧ ∀ k, s.crew? p.holder = some k → (s.chan k.current).queue.length < 24 →
                        (∀ w ∈ s.workers, w.watch = .watching → w.leadOwed = false) → s.noneWaits (.permit .instruct (be16 h l)) →
                        (t.permit? (be16 h l)).bind (·.outstanding) = some ⟨1, first.device, .isolation, a, .queued⟩
                          ∧ Offered t k .instruct (be16 h l) .stepInstruct
                              (u16 (be16 h l) ++ [1] ++ u16 first.device ++ u8 a.code))
            ∧ (p.hold = false → (d.claim (be16 h l) (.isolation first.action)).2 = .wait →
                Runs (.startSwitching x [h, l]) s fun t =>
                  Replied s x .ok [2, 1, 1] t
                    ∧ AlikeButWatches t ((moved.modDevice first.device fun d =>
                        (d.claim (be16 h l) (.isolation first.action)).1).modPermit (be16 h l) fun p => { p with waiting := true })
                    ∧ t.device? first.device = some claimed)
            ∧ (p.hold = false → (d.claim (be16 h l) (.isolation first.action)).2 = .tagLimit →
                Runs (.startSwitching x [h, l]) s fun t =>
                  Replied s x .ok [6, 1, 2] t
                    ∧ (t.permit? (be16 h l)).map (fun p => (p.state, p.stall)) = some (.stalled, some (.switching, .tagLimit))
                    ∧ AlikeButPermits t s))

/-- GRANT_SURRENDER, for a permit IN_FORCE whose surrender waits and which is under no alarm hold and has no WORKING order bound to
it, answers the crew GRANTED and takes the permit to RESTORING, where it claims the device of its stack top. DENY_SURRENDER, for a permit IN_FORCE whose surrender waits, answers
DENIED; the permit stays IN_FORCE, and beside that only telegram traffic changes the state. A queue with room takes the answer in.
Otherwise both are refused. -/
def Obligations.SurrenderIsAnswered : Prop :=
  ∀ (x : Xfer) (h l : Byte) (p : Permit) (s : State), 1 ≤ be16 h l → s.permit? (be16 h l) = some p →
    let working := ∃ o ∈ s.orders, o.state = .working ∧ o.bound = some (be16 h l) ∧ o.crew = some p.holder
    (p.state ≠ .inForce ∨ p.surrender = false →
        Refuses (.grantSurrender x [h, l]) s x .badState ∧ Refuses (.denySurrender x [h, l]) s x .badState)
      ∧ (p.state = .inForce → p.surrender = true → p.hold = true ∨ working → Refuses (.grantSurrender x [h, l]) s x .conflict)
      ∧ (p.state = .inForce → p.surrender = true → p.hold = false → ¬ working →
          Runs (.grantSurrender x [h, l]) s fun t =>
            Replied s x .ok [5] t
              ∧ (t.permit? (be16 h l)).map (fun p => (p.state, p.surrender, p.answer.map fun a => (a.answer, a.reason)))
                  = some (.restoring, false, some (.granted, none))
              ∧ AlikeButPermits t s
              ∧ (p.outstanding = none → p.cancelWait = false →
                  ∃ p', t.permit? (be16 h l) = some p' ∧ p'.stack = p.stack ∧ Restores s t p p')
              ∧ ∀ k, s.crew? p.holder = some k → (s.chan k.current).queue.length < 24 →
                  Offered t k .answer (be16 h l) .surrenderAnswer (u16 (be16 h l) ++ [1, 0]))
      ∧ (p.state = .inForce → p.surrender = true →
          Runs (.denySurrender x [h, l]) s fun t =>
            Replied s x .ok [] t
              ∧ Alike t (s.modPermit (be16 h l) fun p =>
                  { p with surrender := false, answer := some ⟨.denied, none, .queued⟩ })
              ∧ ∀ k, s.crew? p.holder = some k → (s.chan k.current).queue.length < 24 →
                  Offered t k .answer (be16 h l) .surrenderAnswer (u16 (be16 h l) ++ [3, 0]))

/-- RETRY_PERMIT takes a STALLED permit back to the phase it stalled from, and it resumes there: a permit back in ISSUING issues
again with its count started afresh, or owes the issue under alarm hold; one back in SWITCHING claims the device of the step at its index
and stalls again where that device is at the tag limit; one back in RESTORING claims the device of its stack top. Under alarm hold
neither claims. -/
def Obligations.RetryPermitResumes : Prop :=
  ∀ (x : Xfer) (h l : Byte) (p : Permit) (s : State), 1 ≤ be16 h l → s.permit? (be16 h l) = some p →
    (p.state ≠ .stalled → Refuses (.retryPermit x [h, l]) s x .badState)
      ∧ ∀ phase cause, p.state = .stalled → p.stall = some (phase, cause) →
          Runs (.retryPermit x [h, l]) s fun t => ∃ p',
            t.permit? (be16 h l) = some p' ∧ Replied s x .ok (u8 p'.state.code) t ∧ AlikeButPermits t s
              ∧ (let limit := phase = .switching ∧ p.hold = false ∧ p.cancelWait = false ∧ p.outstanding = none
                    ∧ ∃ step d, p.steps[p.k]? = some step ∧ s.device? step.device = some d ∧ d.pending = none ∧ 8 ≤ d.tags.length
                (limit → p'.state = .stalled ∧ p'.stall = some (.switching, .tagLimit))
                  ∧ (¬ limit → p'.state = phase.state ∧ p'.stall = none))
              ∧ (p.cancelWait = false → p.outstanding = none →
                  (phase = .switching → p.hold = false → ∀ step, p.steps[p.k]? = some step →
                      Claimed s t p p' step.device (p.k + 1) (.isolation step.action))
                    ∧ (phase = .restoring → Restores s t p p')
                    ∧ (phase ≠ .issuing → p.hold = true → p'.outstanding = none))
              ∧ (phase = .issuing → p.hold = false → p'.issueCount = 1)
              ∧ (phase = .issuing → p.hold = true → p'.issueCount = 0 ∧ p'.issueOwed = true)

/-- REASSIGN_HOLDER gives a STALLED permit to a qualified crew: the holder and the alarm hold mark change and a PERMIT_STATE notice
with cause HOLDER is posted; nothing else changes. Its checks come first. -/
def Obligations.ReassignHolderGives : Prop :=
  ∀ (x : Xfer) (h l b : Byte) (p : Permit) (k : Crew) (s : State), 1 ≤ be16 h l → s.permit? (be16 h l) = some p →
    b.toNat ≤ 63 → s.crew? b.toNat = some k →
    let busy := ∃ a, p.answer = some a ∧ (a.status = .deferred ∨ a.status = .queued ∨ a.status = .inFlight)
    (p.state ≠ .stalled → Refuses (.reassignHolder x [h, l, b]) s x .badState)
      ∧ (p.state = .stalled → k.qual < p.minQual ∨ busy → Refuses (.reassignHolder x [h, l, b]) s x .conflict)
      ∧ (p.state = .stalled → p.minQual ≤ k.qual → ¬ busy →
          Runs (.reassignHolder x [h, l, b]) s
            (Answers s x
              ((s.modPermit (be16 h l) fun p => { p with holder := b.toNat, hold := s.inAlarm b.toNat }).post
                (.permitState (be16 h l) b.toNat .stalled .stalled .holder)) .ok []))

/-- CANCEL_PERMIT closes a DRAFT permit. In SWITCHING with its instruction IN_FLIGHT or DELIVERED the permit is RESTORING and waits for the
report. In SWITCHING otherwise, in ISSUING, and STALLED from either, restoration begins at once: the permit is RESTORING and claims the
device of its stack top, or is CLOSED where the stack is empty, and no wait is set. In ISSUING an issue telegram not yet delivered is given
up, one that is DEFERRED or IN_FLIGHT where none waits. An instruction not yet sent is released, its index the last
released. In RESTORING it gives up the wait for a report: the instruction is released, its index the last released, the wait is over and
restoration begins. The stack stays. It is refused BAD_STATE for a permit IN_FORCE, CLOSED, in RESTORING without such a wait, or STALLED from
RESTORING. -/
def Obligations.CancelPermitTurnsBack : Prop :=
  ∀ (x : Xfer) (h l : Byte) (p : Permit) (s : State), 1 ≤ be16 h l → s.permit? (be16 h l) = some p →
    let refused := p.state = .inForce ∨ p.state = .closed ∨ (p.state = .restoring ∧ p.cancelWait = false)
      ∨ (p.state = .stalled ∧ ∃ c, p.stall = some (.restoring, c))
    (refused → Refuses (.cancelPermit x [h, l]) s x .badState)
      ∧ (¬ refused →
          Runs (.cancelPermit x [h, l]) s fun t => ∃ p',
            t.permit? (be16 h l) = some p' ∧ Replied s x .ok (u8 p'.state.code ++ mark p'.cancelWait) t ∧ AlikeButPermits t s
              ∧ p'.stack = p.stack ∧ (p.state = .draft → p'.state = .closed)
              ∧ (∀ i, p.state = .switching → p.outstanding = some i → i.status = .inFlight ∨ i.status = .delivered →
                  p'.state = .restoring ∧ p'.cancelWait = true ∧ p'.outstanding = some i)
              ∧ (let begun := p'.state = (if p.stack = [] then .closed else .restoring)
                    ∧ (p.cancelWait = false ∨ p.state = .restoring → p'.cancelWait = false)
                let free := p.outstanding = none ∧ p.cancelWait = false
                let released (i : Outstanding) := p'.lastReleased = some i.index
                  ∧ ∀ d, s.device? i.device = some d → p.serial ∉ d.waits → (∀ e, p.stack.head? = some e → e.1 ≠ i.device) →
                      (p.cancelWait = false ∨ p.state = .restoring → Restores s t p p')
                        ∧ (d.waits = [] → t.device? i.device = some { d with pending := none })
                (p.state = .switching → p.outstanding = none → begun ∧ (free → Restores s t p p'))
                  ∧ (∀ i, p.state = .switching → p.outstanding = some i → i.status = .deferred ∨ i.status = .queued →
                      begun ∧ released i)
                  ∧ (p.state = .issuing → begun ∧ p'.readback = none ∧ p'.issueOwed = false ∧ (free → Restores s t p p')
                      ∧ (p.issue = some .queued
                          ∨ ((p.issue = some .deferred ∨ p.issue = some .inFlight) ∧ s.noneWaits (.permit .issue (be16 h l))) →
                          p'.issue = none))
                  ∧ (p.state = .stalled → begun ∧ p'.stall = none ∧ (free → Restores s t p p'))
                  ∧ (p.state = .restoring → begun ∧ ∀ i, p.outstanding = some i → released i)))

/-- The pair sum of any bytes has both its parts below 251, and a change of one byte by a value that is no multiple of 251
changes it. So it is for the digest of a permit, over its serial, its holder's unit address, its step count and its steps, and for the check
of a header: a header with one byte so changed is malformed. -/
def Obligations.PairSumDetectsOneByte : Prop :=
  (∀ bs : List Byte, (pairAcc bs).1 ≤ 250 ∧ (pairAcc bs).2 ≤ 250 ∧ pairSum bs ≤ 64250)
    ∧ (∀ (p : Permit) (unit : Nat), digestOf p unit ≤ 64250)
    ∧ ∀ (front back : List Byte) (a b : Byte), a.toNat % 251 ≠ b.toNat % 251 →
        pairSum (front ++ a :: back) ≠ pairSum (front ++ b :: back)
          ∧ (let listed (p : Permit) (unit : Nat) : List Byte := u16 p.serial ++ u16 unit ++ u8 p.steps.length
                ++ (p.steps.map fun step => u16 step.device ++ u8 step.action.code).flatten
            ∀ (p q : Permit) (unit unit' : Nat), listed p unit = front ++ a :: back → listed q unit' = front ++ b :: back →
              digestOf p unit ≠ digestOf q unit')
          ∧ ∀ rest : List Byte, (front ++ a :: back).length = 11 →
              readHeader (front ++ b :: back ++ checkBytes (front ++ a :: back) ++ rest) = none

/-! ### Lone worker watch (Chapter 5) -/

/-- The effective interval and the lead by the three stages of R100: the interval, for a high-risk crew at most the cap; from two missed
check-ins on half of that but at least 60; the lead at most half of it. The effective interval lies in 60..3600 and is never longer than the interval, a high-risk crew's never longer than the larger of
its cap and 60; two missed check-ins never lengthen it; and the lead is at most half of it. -/
def Obligations.EffectiveIntervalBounds : Prop :=
  ∀ (interval missed cap lead : Nat) (highRisk : Bool), 60 ≤ interval → interval ≤ 3600 → 60 ≤ cap → cap ≤ 1800 →
    let e := effectiveInterval interval missed highRisk cap
    let first := if highRisk then min interval cap else interval
    e = (if missed < 2 then first else max 60 (first / 2)) ∧ leadTime lead e = min lead (e / 2)
      ∧ 60 ≤ e ∧ e ≤ 3600 ∧ e ≤ interval ∧ (highRisk = true → e ≤ cap)
      ∧ effectiveInterval interval (missed + 1) highRisk cap ≤ e
      ∧ leadTime lead e ≤ e / 2 ∧ leadTime lead e ≤ lead

/-- START_WATCH, for a worker whose watch is OFF, stores the durations (0 for the default, others clamped), and puts the worker in
WATCHING with the interval restarted, a lead prompt being owed where the lead is above 0; beside that only telegram traffic changes the
state.
The widths of the interval and the grace it carries (assumption 11), the layout of the result (assumption 12), and that it is START_WATCH
alone that takes up changed defaults (assumption 44) are the model's choices. -/
def Obligations.StartWatchWatches : Prop :=
  ∀ (x : Xfer) (h l ih il gh gl : Byte) (w : Worker) (s : State), 1 ≤ be16 h l → be16 h l ≤ 65534 →
    s.worker? (be16 h l) = some w →
    (w.watch ≠ .off → Refuses (.startWatch x [h, l, ih, il, gh, gl]) s x .badState)
      ∧ (w.watch = .off →
          let i := if be16 ih il = 0 then s.params.defaultInterval else clamp 60 3600 (be16 ih il)
          let g := if be16 gh gl = 0 then s.params.defaultGrace else clamp 30 900 (be16 gh gl)
          let e := effectiveInterval i w.missed (s.highRisk w.crew) s.params.highRiskCap
          let lead := leadTime s.params.promptLead e
          let asked := (be16 ih il = 0 ∨ be16 ih il = i) ∧ (be16 gh gl = 0 ∨ be16 gh gl = g)
          Runs (.startWatch x [h, l, ih, il, gh, gl]) s fun t =>
            Replied s x (if asked then .ok else .adjusted) (u16 i ++ u16 g ++ u16 e ++ u16 lead ++ u16 e) t
              ∧ Alike t (s.modWorker (be16 h l) fun w =>
                  { w with
                    watch := .watching, interval := i, grace := g, eff := some e, lead := some lead, remaining := some e
                    graceLeft := none })
              ∧ (t.worker? (be16 h l)).map (·.leadOwed) = some (decide (0 < lead)))

/-- STOP_WATCH ends a watch and keeps its durations, its missed count and its alarm cause; it changes nothing for a watch that is
OFF, and is refused BAD_STATE in alarm. REVIEW_WORKER returns the watch fields as they stood and sets the missed count to 0.
The layout of the result is the model's choice (assumption 12). -/
def Obligations.StopAndReview : Prop :=
  ∀ (x : Xfer) (h l : Byte) (w : Worker) (s : State), 1 ≤ be16 h l → be16 h l ≤ 65534 → s.worker? (be16 h l) = some w →
    (w.watch = .alarm ∨ w.watch = .acknowledged → Refuses (.stopWatch x [h, l]) s x .badState)
      ∧ (w.watch = .off → Runs (.stopWatch x [h, l]) s (Answers s x s .ok []))
      ∧ (w.watch = .watching ∨ w.watch = .resting ∨ w.watch = .due →
          Runs (.stopWatch x [h, l]) s fun t =>
            Replied s x .ok [] t
              ∧ Alike t (s.modWorker (be16 h l) fun w =>
                  { w with watch := .off, remaining := none, graceLeft := none, eff := none, lead := none }))
      ∧ Runs (.reviewWorker x [h, l]) s
          (Answers s x (s.modWorker (be16 h l) fun w => { w with missed := 0 }) .ok w.watchRecord)

/-- ACK_ALARM makes a worker's ALARM or a crew's RAISED alarm acknowledged and stops its escalation countdown; the alarm stays in every
set, and beside that only telegram traffic changes the state. Any other state is refused BAD_STATE, any other target BAD_VALUE.
The coding of the target is the model's choice (assumption 11). -/
def Obligations.AckAlarmAcknowledges : Prop :=
  ∀ (x : Xfer) (h l b : Byte) (s : State),
    (∀ w, 1 ≤ be16 h l → be16 h l ≤ 65534 → s.worker? (be16 h l) = some w →
        (w.watch ≠ .alarm → Refuses (.ackAlarm x [1, h, l]) s x .badState)
          ∧ (w.watch = .alarm → Runs (.ackAlarm x [1, h, l]) s fun t =>
              Replied s x .ok [] t
                ∧ Alike t (s.modWorker (be16 h l) fun w => { w with watch := .acknowledged, escal := none })))
      ∧ (∀ k, b.toNat ≤ 63 → s.crew? b.toNat = some k →
          (k.alarm ≠ .raised → Refuses (.ackAlarm x [2, b]) s x .badState)
            ∧ (k.alarm = .raised → Runs (.ackAlarm x [2, b]) s fun t =>
                Replied s x .ok [] t
                  ∧ Alike t (s.modCrew b.toNat fun k => { k with alarm := .acknowledged, escal := none })))
      ∧ (h.toNat ≠ 1 → h.toNat ≠ 2 → Refuses (.ackAlarm x [h, l]) s x .badValue ∧ Refuses (.ackAlarm x [h, l, b]) s x .badValue)

/-- CLEAR_ALARM ends an alarm: it leaves every set, and a worker is back under watch with the interval restarted and a lead prompt owed where
the lead is above 0, a crew alarm NONE. Where no other alarm of the crew stands, the alarm hold of its permits that are not CLOSED clears, and
one in ISSUING that owes its issue issues; where one stands, and on the permits of other crews, the hold stays as it was.
Beside that only telegram traffic, and the work of permits that resume from alarm hold, change the state.
The coding of the target (assumption 11), and that the restart keeps the stored interval and grace (assumption 44), are the model's
choices. -/
def Obligations.ClearAlarmEnds : Prop :=
  ∀ (x : Xfer) (h l b : Byte) (s : State),
    let stands (w : Worker) := w.watch = .alarm ∨ w.watch = .acknowledged
    let holds (slot : Nat) (calm : Prop) (t : State) : Prop := ∀ serial p, s.permit? serial = some p →
      ∃ p', t.permit? serial = some p'
        ∧ (calm → p.holder = slot → p.state ≠ .closed → p'.hold = false
            ∧ (p.state = .issuing → p.issueOwed = true → p'.issueCount = p.issueCount + 1 ∧ p'.issueOwed = false))
        ∧ (¬ calm ∨ (∀ q ∈ s.permits, q.serial = serial → q.holder ≠ slot ∨ q.state = .closed) → p'.hold = p.hold)
    (∀ w, 1 ≤ be16 h l → be16 h l ≤ 65534 → s.worker? (be16 h l) = some w →
        (w.watch ≠ .alarm → w.watch ≠ .acknowledged → Refuses (.clearAlarm x [1, h, l]) s x .badState)
          ∧ (w.watch = .alarm ∨ w.watch = .acknowledged → Runs (.clearAlarm x [1, h, l]) s fun t =>
              Replied s x .ok [] t
                ∧ AlikeButPermits t
                  ({ s.modChans (fun ch => { ch with alarmSet := ch.alarmSet.erase (.worker (be16 h l)) }) with
                      alarmOrder := s.alarmOrder.erase (.worker (be16 h l)) }.modWorker (be16 h l) fun w =>
                    { w with watch := .watching, escal := none, escalated := false })
                ∧ let e := effectiveInterval w.interval w.missed (s.highRisk w.crew) s.params.highRiskCap
                  let lead := leadTime s.params.promptLead e
                  (t.worker? (be16 h l)).map (fun w => (w.eff, w.lead, w.remaining, w.graceLeft, w.leadOwed))
                      = some (some e, some lead, some e, none, decide (0 < lead))
                    ∧ holds w.crew ((∀ w' ∈ s.workers, w'.crew = w.crew → w'.badge ≠ w.badge → ¬ stands w')
                        ∧ ∀ k, s.crew? w.crew = some k → k.alarm = .none) t))
      ∧ (∀ k, b.toNat ≤ 63 → s.crew? b.toNat = some k →
          (k.alarm = .none → Refuses (.clearAlarm x [2, b]) s x .badState)
            ∧ (k.alarm ≠ .none → Runs (.clearAlarm x [2, b]) s fun t =>
                Replied s x .ok [] t
                  ∧ AlikeButPermits t
                    ({ s.modChans (fun ch => { ch with alarmSet := ch.alarmSet.erase (.crew b.toNat) }) with
                        alarmOrder := s.alarmOrder.erase (.crew b.toNat) }.modCrew b.toNat fun k =>
                      { k with alarm := .none, escal := none, escalated := false })
                  ∧ holds b.toNat (∀ w' ∈ s.workers, w'.crew = b.toNat → ¬ stands w') t))

/-! ### Radio channels and their queues (Chapters 7 and 8) -/

/-- ENABLE_CHANNEL takes a channel that is OFF to DOWN with the failover countdown running and, where READY is active, on to IDLE
with the failback countdown running; beside that only telegram traffic changes the state. Any other state is refused. -/
def Obligations.EnableChannelEnables : Prop :=
  ∀ (x : Xfer) (b : Byte) (c : Chan) (s : State), b.toNat = c.val →
    ((s.chan c).state ≠ .off → Refuses (.enableChannel x [b]) s x .badState)
      ∧ ((s.chan c).state = .off → (s.chan c).ready = false → Runs (.enableChannel x [b]) s fun t =>
          Replied s x .ok [2] t
            ∧ Alike t (s.modChan c fun ch => { ch with state := .down, failover := some s.params.failoverTime, txFrame := [] }))
      ∧ ((s.chan c).state = .off → (s.chan c).ready = true → Runs (.enableChannel x [b]) s fun t =>
          Replied s x .ok [3] t
            ∧ Alike t (s.modChan c fun ch =>
                { ch with state := .idle, failover := none, failback := some s.params.failoverTime, txFrame := [] }))

/-- DISABLE_CHANNEL takes a channel out of service: it is OFF, sends and receives nothing, runs no countdown and assembles nothing, and
its mailbox and its alarms stay. Each crew on it is moved to its other channel where that is in service, and stays on it otherwise; the
response counts the crews moved and the entries flushed, which are all of the queue where no entry is in flight, every entry is a group's
or for a crew on this channel or an orphan, none is an order's own telegram and no crew moves. Beside that only telegram traffic changes
the state.
That the moment of an expiry is over then, so that ranOut is clear, is the model's choice (assumption 41). -/
def Obligations.DisableChannelTakesOff : Prop :=
  ∀ (x : Xfer) (b : Byte) (c : Chan) (s : State), s.Inv → b.toNat = c.val →
    let other (k : Crew) := k.alt.map fun a => if k.current = k.home then a else k.home
    let moves (k : Crew) : Bool := decide (k.current = c) && (other k).any fun b => decide (b ≠ c) && s.inService b
    ((s.chan c).state = .off → Refuses (.disableChannel x [b]) s x .badState)
      ∧ ((s.chan c).state ≠ .off → Runs (.disableChannel x [b]) s fun t =>
          (∃ flushed, Replied s x .ok (u8 (s.crews.filter moves).length ++ u8 flushed) t
              ∧ ((∀ k ∈ s.crews, moves k = false) →
                  (∀ e ∈ (s.chan c).queue, e.inFlight = false ∧ (∀ n, e.owner ≠ .order n)
                    ∧ ∀ slot unit k, e.addr = .crew slot unit → e.orphan = false → s.crew? slot = some k → k.current = c) →
                  flushed = (s.chan c).queue.length ∧ (t.chan c).queue = []))
            ∧ (∀ k ∈ s.crews, (t.crew? k.slot).map (·.current) = some (if moves k then (other k).getD c else k.current))
            ∧ (t.chan c).alarmSet = (s.chan c).alarmSet
            ∧ AlikeButMoves t (s.modChan c fun ch =>
                { ch with
                  state := .off, attempt := if ch.queue.any (·.inFlight) then none else ch.attempt, replyWindow := none
                  repeatWait := none, origin := none, failover := none, failback := none, afterAnswer := none
                  assembly := none, txFrame := [], ranOut := false }))

/-- RESTART_CHANNEL drops what a channel has under way, flushes its queue, empties its mailbox and takes it through DOWN, and on to IDLE
where READY is active; beside that only telegram traffic changes the state. The response counts the entries flushed, which are all of the
queue where no entry is in flight, every entry is a group's or for a crew on this channel or an orphan, and none is an order's own
telegram; a channel that stays DOWN is then left with an empty queue. It is refused BAD_STATE for a channel that is OFF.
That the moment of an expiry is over then, so that ranOut is clear, is the model's choice (assumption 41). -/
def Obligations.RestartChannelRestarts : Prop :=
  ∀ (x : Xfer) (b : Byte) (c : Chan) (s : State), b.toNat = c.val →
    ((s.chan c).state = .off → Refuses (.restartChannel x [b]) s x .badState)
      ∧ ((s.chan c).state ≠ .off → Runs (.restartChannel x [b]) s fun t =>
          (∃ flushed, Replied s x .ok (u8 flushed) t
              ∧ ((∀ e ∈ (s.chan c).queue, e.inFlight = false ∧ (∀ n, e.owner ≠ .order n)
                    ∧ ∀ slot unit k, e.addr = .crew slot unit → e.orphan = false → s.crew? slot = some k → k.current = c) →
                  flushed = (s.chan c).queue.length ∧ ((s.chan c).ready = false → (t.chan c).queue = [])))
            ∧ Alike t (s.modChan c fun ch =>
                { ch with
                  state := if ch.ready then .idle else .down
                  attempt := if ch.queue.any (·.inFlight) then none else ch.attempt, replyWindow := none
                  repeatWait := none, origin := none
                  failover := if ch.ready then none else some s.params.failoverTime
                  failback := if ch.ready then some s.params.failoverTime else none, afterAnswer := none, assembly := none
                  txFrame := [], mailbox := [], ranOut := false }))

/-- SEND_TEXT to a crew or to a group of crews: refused FULL or HELD by its channel's queue, and admitted otherwise at the end of the
queue with the text's first 80 bytes; a text to a crew takes the crew's outbound sequence, a text to a group none. The text number is
the text counter's, which advances; nothing else changes but the queue's flow hold.
The width of the stored text length in the result is the model's choice (assumption 12). -/
def Obligations.SendTextQueues : Prop :=
  ∀ (x : Xfer) (b : Byte) (s : State),
    (∀ (k : Crew) (text : List Byte), b.toNat ≤ 63 → s.crew? b.toNat = some k → text ≠ [] →
        (24 ≤ (s.chan k.current).queue.length → Refuses (.sendText x (1 :: b :: text)) s x .full)
          ∧ ((s.chan k.current).queue.length < 24 → (s.chan k.current).flowHold = true →
              Refuses (.sendText x (1 :: b :: text)) s x .held)
          ∧ ((s.chan k.current).queue.length < 24 → (s.chan k.current).flowHold = false →
              Runs (.sendText x (1 :: b :: text)) s
                (Answers s x
                  ((({ s with textCounter := s.textCounter % 65535 + 1 }.modCrew b.toNat fun k =>
                      { k with outSeq := k.outSeq + 1 }).modChan k.current fun ch =>
                    { ch with
                      queue := insertEntry
                        { owner := .text s.textCounter, kind := .text, cls := .text, addr := .crew b.toNat k.unit
                          seq := some k.outSeq, body := .bytes (text.take 80), attempts := 0, holdOff := 0, blocksSent := 0
                          repeats := none, rearm := false, inFlight := false, orphan := false, admission := ch.admissions
                          linked := true } ch.queue
                      admissions := ch.admissions + 1
                      flowHold := ch.flowHold || decide (s.params.highMark ≤ ch.queue.length + 1) }))
                  (if 80 < text.length then .adjusted else .ok)
                  (u16 s.textCounter ++ u8 k.current.val ++ u8 (min 80 text.length) ++ u8 k.outSeq.toNat))))
      ∧ ∀ (c : Chan) (sh sl mh ml : Byte) (text : List Byte), b.toNat = c.val → be16 sh sl ≤ 8191 → be16 mh ml ≤ 8191 →
          text ≠ [] →
          let reach := (s.crews.filter fun k =>
            decide (k.current = c ∧ k.unit &&& be16 mh ml = be16 sh sl &&& be16 mh ml)).length
          (reach = 0 → Refuses (.sendText x (2 :: b :: sh :: sl :: mh :: ml :: text)) s x .notFound)
            ∧ (reach ≠ 0 → 24 ≤ (s.chan c).queue.length →
                Refuses (.sendText x (2 :: b :: sh :: sl :: mh :: ml :: text)) s x .full)
            ∧ (reach ≠ 0 → (s.chan c).queue.length < 24 → (s.chan c).flowHold = true →
                Refuses (.sendText x (2 :: b :: sh :: sl :: mh :: ml :: text)) s x .held)
            ∧ (reach ≠ 0 → (s.chan c).queue.length < 24 → (s.chan c).flowHold = false →
                Runs (.sendText x (2 :: b :: sh :: sl :: mh :: ml :: text)) s
                  (Answers s x
                    ({ s with textCounter := s.textCounter % 65535 + 1 }.modChan c fun ch =>
                      { ch with
                        queue := insertEntry
                          { owner := .text s.textCounter, kind := .text, cls := .text
                            addr := .group (be16 sh sl) (be16 mh ml), seq := none, body := .bytes (text.take 80)
                            attempts := 0, holdOff := 0, blocksSent := 0, repeats := some 1, rearm := false
                            inFlight := false, orphan := false, admission := ch.admissions, linked := true } ch.queue
                        admissions := ch.admissions + 1
                        flowHold := ch.flowHold || decide (s.params.highMark ≤ ch.queue.length + 1) })
                    (if 80 < text.length then .adjusted else .ok)
                    (u16 s.textCounter ++ u8 c.val ++ u8 (min 80 text.length) ++ u8 reach)))

/-- An offer is admitted below 24 entries unless the flow hold stands against its class; in a full queue it is admitted only over a
victim. A victim is never in flight, never of the EMERGENCY class for an EMERGENCY offer, and for a SAFETY offer a TEXT while one waits,
an ORDER entry while one waits and no TEXT does, and otherwise a CHECK_PROMPT that is not offered for a CHECK_PROMPT. It is the newest of
its kind, the last such in the list; in a queue in order of class, no entry that waits is of a lower class than the victim of an
EMERGENCY offer. -/
def Obligations.OffersAreDecided : Prop :=
  ∀ (ch : Channel) (cls : TgClass) (kind : TgKind),
    let waits (p : Entry → Prop) : Prop := ∃ e ∈ ch.queue, e.inFlight = false ∧ p e
    let newestOf (p : Entry → Prop) : Prop := ∃ front v back, ch.queue = front ++ v :: back ∧ verdict ch cls kind = .ok (some v)
      ∧ v.inFlight = false ∧ p v ∧ ∀ e ∈ back, e.inFlight = false → ¬ p e
    (ch.queue.length < 24 → cls = .emergency ∨ cls = .safety → verdict ch cls kind = .ok none)
      ∧ (ch.queue.length < 24 → cls = .order ∨ cls = .text →
          verdict ch cls kind = if ch.flowHold then .error .flow else .ok none)
      ∧ (24 ≤ ch.queue.length → cls = .order ∨ cls = .text → verdict ch cls kind = .error .full)
      ∧ (24 ≤ ch.queue.length → cls = .emergency → waits (·.cls ≠ .emergency) → newestOf (·.cls ≠ .emergency))
      ∧ (24 ≤ ch.queue.length → cls = .emergency → (ch.queue.map (·.cls.code)).Pairwise (· ≤ ·) →
          ∀ v, verdict ch cls kind = .ok (some v) → ∀ e ∈ ch.queue, e.inFlight = false → e.cls.code ≤ v.cls.code)
      ∧ (24 ≤ ch.queue.length → cls = .emergency → ¬ waits (·.cls ≠ .emergency) → verdict ch cls kind = .error .full)
      ∧ (24 ≤ ch.queue.length → cls = .safety → waits (·.cls = .text) → newestOf (·.cls = .text))
      ∧ (24 ≤ ch.queue.length → cls = .safety → ¬ waits (·.cls = .text) → waits (·.cls = .order) → newestOf (·.cls = .order))
      ∧ (24 ≤ ch.queue.length → cls = .safety → ¬ waits (·.cls = .text) → ¬ waits (·.cls = .order) → kind ≠ .checkPrompt →
          waits (·.kind = .checkPrompt) → newestOf (·.kind = .checkPrompt))
      ∧ (24 ≤ ch.queue.length → cls = .safety → ¬ waits (·.cls = .text) → ¬ waits (·.cls = .order) →
          kind = .checkPrompt ∨ ¬ waits (·.kind = .checkPrompt) → verdict ch cls kind = .error .full)

/-- An admitted entry stands behind every entry of its own and of higher classes and before every entry of lower ones, and no other
entry moves: a queue in order of class stays so. -/
def Obligations.AdmissionKeepsOrder : Prop :=
  ∀ (e : Entry) (q : List Entry), (q.map (·.cls.code)).Pairwise (· ≤ ·) →
    ((insertEntry e q).map (·.cls.code)).Pairwise (· ≤ ·)
      ∧ ∃ front back, q = front ++ back ∧ insertEntry e q = front ++ e :: back
          ∧ (∀ x ∈ front, x.cls.code ≤ e.cls.code) ∧ ∀ x ∈ back, e.cls.code < x.cls.code

/-! ### The tick and the countdowns (10.2, Chapters 2 to 5 and 7) -/

/-- A tick advances the clock by 1 and lowers every running countdown of seconds by 1, none below 0: of workers, crews, orders, permits
and channels, and the hold-offs of the queues' entries. Where no lead prompt is owed it changes nothing else; otherwise it changes only
what the lead prompts that fall due change. A lead prompt falls due when the remaining countdown comes to the lead or below and is above 0:
it is offered and is no longer owed, and a queue with room, no flow hold and no other prompt of the crew takes it in.
That what a countdown does at 0 is a command of its own is the model's choice (assumption 5), and so is the mark that the moment of an
expiry is over (assumption 41). -/
def Obligations.TickCountsDown : Prop :=
  ∀ s : State,
    let ticked : State :=
      { s with
        clock := s.clock + 1
        crews := s.crews.map fun k => { k with escal := k.escal.map (· - 1) }
        workers := s.workers.map fun w =>
          { w with remaining := w.remaining.map (· - 1), graceLeft := w.graceLeft.map (· - 1), escal := w.escal.map (· - 1) }
        orders := s.orders.map fun o => { o with acceptance := o.acceptance.map (· - 1) }
        permits := s.permits.map fun p => { p with readback := p.readback.map (· - 1) }
        chans := s.chans.map fun ch =>
          { ch with
            failover := ch.failover.map (· - 1), failback := ch.failback.map (· - 1), ranOut := false
            queue := ch.queue.map fun e => { e with holdOff := e.holdOff - 1 } } }
    Runs .tick s fun t =>
      Quiet s t ∧ Alike t ticked
        ∧ ((∀ w ∈ s.workers, w.watch = .watching → w.leadOwed = false) → Takes s ticked t)
        ∧ ∀ w k r l, s.worker? w.badge = some w → w.watch = .watching → w.leadOwed = true → w.remaining = some r → w.lead = some l →
            2 ≤ r → r - 1 ≤ l → (∀ w' ∈ s.workers, w' ≠ w → w'.watch = .watching → w'.leadOwed = false) →
            s.crew? w.crew = some k → (s.chan k.current).queue.length < 24 → (s.chan k.current).flowHold = false →
            (∀ e ∈ (s.chan k.current).queue, e.owner ≠ .prompt k.slot ∨ e.inFlight = true) →
            (t.worker? w.badge).map (fun w => (w.leadOwed, w.prompt)) = some (false, some .queued)
              ∧ ∃ e ∈ (t.chan k.current).queue, e.owner = .prompt k.slot ∧ e.body = .prompt false [w.badge] ∧ e.cls = .safety

/-- ACCEPTANCE_EXPIRY, for an order whose acceptance countdown stands at 0, stops the countdown, sets the unanswered mark and posts
ORDER_UNANSWERED; nothing else changes. For any other order it changes nothing.
READBACK_EXPIRY, for a permit in ISSUING whose readback countdown stands at 0: below the issue limit the permit issues again, its count
one higher and its digest computed anew, or under alarm hold owes the issue; at the limit it stalls with cause READBACK. For any other
permit it changes nothing.
That an expiry waits for its command at 0 is the model's choice (assumption 5). -/
def Obligations.AcceptanceAndReadbackExpire : Prop :=
  (∀ (n : Nat) (s : State),
      (∀ o, s.order? n = some o → o.acceptance = some 0 →
          Runs (.acceptanceExpiry n) s
            (Takes s ((s.modOrder n fun o => { o with acceptance := none, unanswered := true }).post
              (.orderUnanswered n o.crew (o.deliveredAt.getD 0)))))
        ∧ ((∀ o, s.order? n = some o → o.acceptance ≠ some 0) → Runs (.acceptanceExpiry n) s (Takes s s)))
    ∧ ∀ (n : Nat) (s : State),
      (∀ p, s.permit? n = some p → p.state = .issuing → p.readback = some 0 →
          (p.issueCount < s.params.issueLimit → p.hold = false → Runs (.readbackExpiry n) s fun t =>
              Quiet s t
                ∧ Alike t (s.modPermit n fun p =>
                    { p with digest := some (s.digest p), issueCount := p.issueCount + 1, issueOwed := false, readback := none }))
            ∧ (p.issueCount < s.params.issueLimit → p.hold = true → Runs (.readbackExpiry n) s
                (Takes s (s.modPermit n fun p => { p with issueOwed := true, readback := none })))
            ∧ (s.params.issueLimit ≤ p.issueCount → Runs (.readbackExpiry n) s
                (Takes s ((({ s with devices := s.devices.map fun (d : Device) => { d with waits := d.waits.erase n } } : State).modPermit n fun p =>
                    { p with
                      state := .stalled, stall := some (.issuing, .readback), waiting := false, readback := none
                      issueOwed := false }).post (.permitState n p.holder .issuing .stalled (.stalled .readback))))))
        ∧ ((∀ p, s.permit? n = some p → p.state ≠ .issuing ∨ p.readback ≠ some 0) →
            Runs (.readbackExpiry n) s (Takes s s))

/-- INTERVAL_EXPIRY for a WATCHING worker, and REST_EXPIRY for a RESTING one, whose remaining countdown stands at 0: the worker is DUE with the
grace countdown running, and an overdue prompt is offered, which a queue with room, no flow hold and no other prompt of the crew takes in;
beside that only telegram traffic changes the state. For any other worker they change nothing.
That an expiry waits for its command at 0 is the model's choice (assumption 5). -/
def Obligations.WorkerBecomesDue : Prop :=
  ∀ (badge : Nat) (s : State) (st : WatchState) (cmd : Instr),
    (st = .watching ∧ cmd = .intervalExpiry badge) ∨ (st = .resting ∧ cmd = .restExpiry badge) →
    (∀ w, s.worker? badge = some w → w.watch = st → w.remaining = some 0 →
        Runs cmd s fun t =>
          Quiet s t
            ∧ Alike t (s.modWorker badge fun w' => { w' with watch := .due, graceLeft := some w'.grace })
            ∧ ∀ k, s.crew? w.crew = some k → (s.chan k.current).queue.length < 24 → (s.chan k.current).flowHold = false →
                (∀ e ∈ (s.chan k.current).queue, e.owner ≠ .prompt k.slot ∨ e.inFlight = true) →
                (t.worker? badge).bind (·.prompt) = some .queued
                  ∧ ∃ e ∈ (t.chan k.current).queue, e.owner = .prompt k.slot ∧ e.body = .prompt true [badge] ∧ e.cls = .safety)
      ∧ ((∀ w, s.worker? badge = some w → w.watch ≠ st ∨ w.remaining ≠ some 0) → Runs cmd s (Takes s s))

/-- GRACE_EXPIRY, for a DUE worker whose grace countdown stands at 0: the missed count advances, at most to 15, and the worker is in ALARM with
cause TIMEOUT and the escalation countdown running. The alarm is the last of the set of its crew's channel and of every set that held it;
permits of the crew that are not CLOSED come under alarm hold. Beside that only telegram traffic changes the state. For any other worker it
changes nothing.
That an expiry waits for its command at 0 is the model's choice (assumption 5). -/
def Obligations.GraceExpiryRaisesAlarm : Prop :=
  ∀ (badge : Nat) (s : State),
    (∀ w k, s.Inv → s.worker? badge = some w → s.crew? w.crew = some k → w.watch = .due → w.graceLeft = some 0 →
        let entered (c : Chan) : Channel :=
          if c = k.current ∨ .worker badge ∈ (s.chan c).alarmSet then
            { s.chan c with alarmSet := (s.chan c).alarmSet.erase (.worker badge) ++ [.worker badge] }
          else s.chan c
        Runs (.graceExpiry badge) s fun t =>
          Quiet s t
            ∧ Alike t
              { s with
                alarmOrder := s.alarmOrder.erase (.worker badge) ++ [.worker badge]
                chans := ⟨entered 0, entered 1, entered 2, entered 3⟩
                permits := s.permits.map fun p =>
                  if p.holder = k.slot ∧ p.state ≠ .closed then { p with hold := p.hold || !s.inAlarm k.slot } else p
                workers := s.workers.map fun w' =>
                  if w'.badge = badge then
                    { w' with
                      watch := .alarm, missed := min 15 (w.missed + 1), cause := some .timeout
                      escal := some s.params.escalationTime, escalated := false, remaining := none, graceLeft := none }
                  else w' })
      ∧ ((∀ w, s.worker? badge = some w → w.watch ≠ .due ∨ w.graceLeft ≠ some 0) → Runs (.graceExpiry badge) s (Takes s s))

/-- ESCALATION_EXPIRY, for a worker in ALARM or a crew alarm RAISED whose escalation countdown stands at 0: the alarm is marked escalated and
joins the set of every channel that is not OFF, in its place by order of entry; beside that only telegram traffic changes the state. For
any other alarm it changes nothing.
That an expiry waits for its command at 0 is the model's choice (assumption 5). -/
def Obligations.EscalationWidens : Prop :=
  ∀ (s : State),
    let widened (a : AlarmRef) (ch : Channel) : Channel :=
      if ch.state ≠ .off ∧ a ∉ ch.alarmSet then
        { ch with alarmSet := s.alarmOrder.filter fun x => x == a || ch.alarmSet.contains x }
      else ch
    (∀ badge w, s.worker? badge = some w → w.watch = .alarm → w.escal = some 0 →
        Runs (.escalationExpiry (.worker badge)) s fun t =>
          Quiet s t
            ∧ Alike t ((s.modWorker badge fun w => { w with escal := none, escalated := true }).modChans
                (widened (.worker badge))))
      ∧ (∀ slot k, s.crew? slot = some k → k.alarm = .raised → k.escal = some 0 →
          Runs (.escalationExpiry (.crew slot)) s fun t =>
            Quiet s t
              ∧ Alike t ((s.modCrew slot fun k => { k with escal := none, escalated := true }).modChans (widened (.crew slot))))
      ∧ (∀ badge, (∀ w, s.worker? badge = some w → w.watch ≠ .alarm ∨ w.escal ≠ some 0) →
          Runs (.escalationExpiry (.worker badge)) s (Takes s s))
      ∧ ∀ slot, (∀ k, s.crew? slot = some k → k.alarm ≠ .raised ∨ k.escal ≠ some 0) →
          Runs (.escalationExpiry (.crew slot)) s (Takes s s)

/-- FAILOVER_EXPIRY, for a channel DOWN whose failover countdown stands at 0, moves each crew on it to its other channel where that is in
service; FAILBACK_EXPIRY, for a channel in service whose failback countdown stands at 0, moves each crew whose home it is back to it. Both
stop the countdown, and beside that only the moves and telegram traffic change the state. Otherwise they change nothing.
That an expiry waits for its command at 0 is the model's choice (assumption 5). -/
def Obligations.FailoverAndFailbackMove : Prop :=
  ∀ (c : Chan) (s : State), s.Inv →
    ((s.chan c).failover = some 0 → (s.chan c).state = .down → Runs (.failoverExpiry c) s fun t =>
        Quiet s t
          ∧ (∀ k ∈ s.crews,
              let other := k.alt.map fun a => if k.current = k.home then a else k.home
              (t.crew? k.slot).map (·.current)
                = some (if k.current = c ∧ other.any s.inService then other.getD c else k.current))
          ∧ AlikeButMoves t (s.modChan c fun ch => { ch with failover := none }))
      ∧ ((s.chan c).failover ≠ some 0 ∨ (s.chan c).state ≠ .down → Runs (.failoverExpiry c) s (Takes s s))
      ∧ ((s.chan c).failback = some 0 → s.inService c = true → Runs (.failbackExpiry c) s fun t =>
          Quiet s t
            ∧ (∀ k ∈ s.crews, (t.crew? k.slot).map (·.current) = some (if k.home = c then c else k.current))
            ∧ AlikeButMoves t (s.modChan c fun ch => { ch with failback := none }))
      ∧ ((s.chan c).failback ≠ some 0 ∨ s.inService c = false → Runs (.failbackExpiry c) s (Takes s s))

/-! ### The radio events (Chapters 7 and 9) -/

/-- READY becoming active takes a channel that is DOWN to IDLE, with the failover countdown stopped and the failback countdown running;
becoming inactive, it takes a channel in service DOWN with nothing sent, received, awaited or assembled and the failover countdown
running, and the attempt under way is at its end. On any other channel the line alone changes. CARRIER becoming active begins a reception
in IDLE and AWAIT_REPEAT and stops the reply window in AWAIT_REPLY; directly after an expiry that took the channel to IDLE it either does
so or begins no reception until CARRIER has become inactive and active again.
The model's choices here: the events set the level of their line in every channel state, OFF included, and carrierSpent keeps whether the
burst on the air begins a reception (assumption 9); whether a CARRIER_ACTIVE directly after an expiry is of the same moment is open
(assumption 41); HOLD_OFF_EXPIRY changes no record (assumption 6), the entry being eligible by its hold-off standing at 0. -/
def Obligations.LinesFollow : Prop :=
  ∀ (c : Chan) (s : State),
    ((s.chan c).state ≠ .down → Runs (.readyActive c) s (Takes s (s.modChan c fun ch => { ch with ready := true })))
      ∧ ((s.chan c).state = .down → Runs (.readyActive c) s fun t =>
          Quiet s t
            ∧ Alike t (s.modChan c fun ch =>
                { ch with
                  ready := true, state := .idle, failover := none, failback := some s.params.failoverTime, txFrame := [] }))
      ∧ (s.inService c = false → Runs (.readyInactive c) s (Takes s (s.modChan c fun ch => { ch with ready := false })))
      ∧ (s.inService c = true →
          let fallen (ch : Channel) : Channel :=
            { ch with
              ready := false, state := .down, attempt := if ch.queue.any (·.inFlight) then none else ch.attempt
              failover := some s.params.failoverTime, failback := none, replyWindow := none, repeatWait := none
              origin := none, afterAnswer := none, assembly := none, txFrame := [], ranOut := false }
          Runs (.readyInactive c) s fun t =>
            Quiet s t ∧ (t.chan c).air = (fallen (s.chan c)).air ∧ (∀ c', c' ≠ c → (t.chan c').air = (s.chan c').air)
              ∧ ((∀ e ∈ (s.chan c).queue, e.inFlight = false) → Alike t (s.modChan c fallen)))
      ∧ (let risen (ch : Channel) : Channel :=
          let up := { ch with carrier := true, carrierSpent := false, ranOut := false }
          if ch.state = .idle then { up with state := .receiving, origin := some .idle }
          else if ch.state = .awaitRepeat then { up with state := .receiving, origin := some .awaitRepeat, repeatWait := none }
          else if ch.state = .awaitReply then { up with replyWindow := none }
          else up
        let missed (ch : Channel) : Channel := { ch with carrier := true, carrierSpent := true, ranOut := false }
        let sameMoment := (s.chan c).ranOut = true ∧ (s.chan c).state = .idle
        let chosen := { s with choices := s.choices + 1 }
        ((s.chan c).carrier = true → Runs (.carrierActive c) s (Takes s s))
          ∧ ((s.chan c).carrier = false → ¬ sameMoment → Runs (.carrierActive c) s (Takes s (s.modChan c risen)))
          ∧ ((s.chan c).carrier = false → sameMoment → Runs (.carrierActive c) s fun t =>
              Takes s (chosen.modChan c risen) t ∨ Takes s (chosen.modChan c missed) t))
      ∧ Runs (.carrierInactive c) s
          (Takes s (s.modChan c fun ch => { ch with carrier := false, carrierSpent := false, ranOut := false }))
      ∧ ∀ place, Runs (.holdOffExpiry c place) s (Takes s s)

/-- ATTEMPT_START, on a channel that is IDLE with no carrier, begins an attempt with the first entry whose hold-off is 0: the channel is
SENDING a first frame with every block of the body, under the entry's sequence or the channel's group sequence, which then advances; the
entry is in flight with one attempt more. Otherwise it changes nothing. SEND_COMPLETE ends the sending: an individual telegram awaits its
reply, and a group telegram's attempt is over. A group TEXT leaves its queue with its result. An alarm call leaves its queue where no alarm
of the set is unacknowledged, and where its last repeat is spent; otherwise it stays, with its repeats restored by a re-arm mark or one
repeat less. What leaves frees a slot, which on a channel with nothing deferred changes only the flow hold.
That an attempt begins by its command alone (assumption 7), and that it ends the moment of an expiry (assumption 41), are the model's
choices. -/
def Obligations.SendingCourse : Prop :=
  ∀ (c : Chan) (s : State),
    (∀ front e back, (s.chan c).state = .idle → (s.chan c).carrier = false → (s.chan c).queue = front ++ e :: back →
        (∀ x ∈ front, x.holdOff ≠ 0) → e.holdOff = 0 →
        let body := s.bodyOf c e
        let seq := e.seq.getD (s.chan c).groupSeq
        Runs (.attemptStart c) s fun t =>
          Quiet s t
            ∧ Alike t (s.modChan c fun ch =>
                { ch with
                  state := .sending, ranOut := false
                  attempt := some { entry := e.admission, rpt := false, missing := [], body := body, seq := seq }
                  groupSeq := if e.seq.isSome then ch.groupSeq else ch.groupSeq + 1
                  txFrame := telegramFrame e.kind e.addr seq body false (List.range (blockCount body.length)) })
            ∧ (t.chan c).queue = front
                ++ { e with inFlight := true, attempts := e.attempts + 1, blocksSent := blockCount body.length } :: back)
      ∧ ((s.chan c).state ≠ .idle ∨ (s.chan c).carrier = true ∨ (∀ e ∈ (s.chan c).queue, e.holdOff ≠ 0) →
          Runs (.attemptStart c) s (Takes s s))
      ∧ ((s.chan c).state ≠ .sending ∨ (∀ e ∈ (s.chan c).queue, e.inFlight = false) → Runs (.sendComplete c) s (Takes s s))
      ∧ ∀ front e back, (s.chan c).state = .sending → (s.chan c).queue = front ++ e :: back →
          (∀ x ∈ front, x.inFlight = false) → e.inFlight = true →
          let idled (ch : Channel) : Channel :=
            { ch with
              state := .idle, attempt := none, txFrame := [], origin := none, afterAnswer := none, replyWindow := none
              repeatWait := none }
          (∀ slot unit, e.addr = .crew slot unit → Runs (.sendComplete c) s (Takes s (s.modChan c fun ch =>
              { ch with
                state := .awaitReply, txFrame := []
                replyWindow := if ch.carrier && !ch.carrierSpent then none else some s.params.replyWindow })))
            ∧ (∀ sel m, e.addr = .group sel m → Runs (.sendComplete c) s fun t =>
                Quiet s t ∧ (t.chan c).air = (idled (s.chan c)).air)
            ∧ ∀ sel m, e.addr = .group sel m → e.orphan = false →
                let depth := (front ++ back).length
                let gone := s.modChan c fun ch =>
                  { idled ch with
                    queue := front ++ back
                    flowHold := decide (s.params.highMark ≤ depth) || (ch.flowHold && decide (s.params.lowMark < depth)) }
                let stays (e' : Entry) := s.modChan c fun ch => { idled ch with queue := front ++ e' :: back }
                let nothingDeferred := (s.chan c).permitDefer = [] ∧ (s.chan c).orderDefer = []
                let calls := ∃ a ∈ (s.chan c).alarmSet, s.unacked a = true
                (∀ n, e.owner = .text n → nothingDeferred →
                    Runs (.sendComplete c) s (Takes s (gone.post (.textResult n (.group c sel m) .sent))))
                  ∧ ∀ ch, e.owner = .alarmCall ch →
                      (¬ calls ∨ (e.rearm = false ∧ e.repeats.getD 0 ≤ 1) → nothingDeferred →
                          Runs (.sendComplete c) s (Takes s gone))
                        ∧ (calls → e.rearm = true → Runs (.sendComplete c) s (Takes s (stays
                            { e with
                              inFlight := false, attempts := 0, rearm := false, repeats := some s.params.alarmRepeats
                              holdOff := 0 })))
                        ∧ (calls → e.rearm = false → ∀ left, e.repeats = some left → 2 ≤ left →
                            Runs (.sendComplete c) s (Takes s (stays
                              { e with
                                inFlight := false, attempts := 0, repeats := some (left - 1)
                                holdOff := s.params.alarmRepeatInterval })))

/-- REPLY_WINDOW_EXPIRY ends the attempt with no reply and the channel is IDLE; an attempt below the attempt limit leaves its telegram to be
sent again, and then only telegram traffic changes the rest of the state: the entry stays in its place with the retry hold-off, where its
crew is on the roster and stands on the channel and, for an ORDER, is the order's crew and has no other order. At the attempt limit the failure is final: the crew's failures
rise and it is SUSPECT, or LOST from the reach threshold on; a TEXT leaves its queue; an order is UNDELIVERED, out of its crew's queue and
its telegram out of the channel's; a permit whose instruction or issue failed is STALLED with cause UNDELIVERED, an issue where no other of
the permit waits. REPEAT_WAIT_EXPIRY
frees the assembly and the channel is IDLE. ANSWER_SENT takes the channel to IDLE or to await a repeat. Each changes nothing where its condition does not hold.
That these waits end by their commands alone (assumption 8), and the mark that one has just ended with no carrier on the air
(assumption 41), are the model's choices. -/
def Obligations.WaitsEnd : Prop :=
  ∀ (c : Chan) (s : State),
    let idled (ch : Channel) : Channel :=
      { ch with state := .idle, txFrame := [], origin := none, afterAnswer := none, replyWindow := none, repeatWait := none }
    let ended (ch : Channel) : Channel :=
      { idled ch with attempt := if ch.queue.any (·.inFlight) then none else ch.attempt, ranOut := !ch.carrier }
    ((s.chan c).state = .awaitReply → (s.chan c).replyWindow ≠ none → Runs (.replyWindowExpiry c) s fun t =>
        Quiet s t ∧ (t.chan c).air = (ended (s.chan c)).air
          ∧ ∀ e, (s.chan c).queue.find? (·.inFlight) = some e → e.orphan = false → s.links e = true → e.kind ≠ .alarmCall →
              e.attempts < s.params.attemptLimit →
              Alike t (s.modChan c ended)
                ∧ ∀ front back slot unit k, (s.chan c).queue = front ++ e :: back → (∀ x ∈ front, x.inFlight = false) →
                    e.addr = .crew slot unit → s.crew? slot = some k → k.current = c →
                    (∀ n o, e.owner = .order n → s.order? n = some o → o.crew = some slot ∧ k.queue = [n]) →
                    (t.chan c).queue = front ++ { e with inFlight := false, holdOff := s.params.retryHoldOff } :: back)
      ∧ (∀ front e back slot unit k, (s.chan c).state = .awaitReply → (s.chan c).replyWindow ≠ none →
          (s.chan c).queue = front ++ e :: back → (∀ x ∈ front ++ back, x.inFlight = false) → e.inFlight = true →
          e.addr = .crew slot unit → e.orphan = false → s.links e = true → s.params.attemptLimit ≤ e.attempts →
          s.crew? slot = some k →
          let failures := min 15 (k.failures + 1)
          let reach := if s.params.reachThreshold ≤ failures then Reach.lost else Reach.suspect
          Runs (.replyWindowExpiry c) s fun t =>
            Quiet s t ∧ (t.chan c).air = (ended (s.chan c)).air
              ∧ (t.crew? slot).map (fun k => (k.failures, k.reach)) = some (failures, reach)
              ∧ (∀ x ∈ (t.chan c).queue, x.inFlight = false)
              ∧ (∀ n, e.owner = .text n → (s.chan c).permitDefer = [] → (s.chan c).orderDefer = [] →
                  (t.chan c).queue = front ++ back
                    ∧ Alike t ((s.modChan c ended).modCrew slot fun k => { k with failures := failures, reach := reach }))
              ∧ (∀ n o, e.owner = .order n → s.order? n = some o →
                  (t.order? n).map (fun o => (o.state, o.link, o.crew)) = some (.undelivered, none, o.crew)
                    ∧ ((∀ x ∈ front ++ back, x.owner ≠ .order n) → ∀ x ∈ (t.chan c).queue, x.owner ≠ .order n)
                    ∧ (o.crew = some slot →
                        Alike t (((s.modChan c ended).modOrder n fun o => { o with state := .undelivered }).modCrew slot fun k =>
                          { k with queue := k.queue.erase n, failures := failures, reach := reach })))
              ∧ (∀ serial p i phase, e.owner = .permit .instruct serial → s.permit? serial = some p → p.outstanding = some i →
                  p.cancelWait = false → p.state = phase.state →
                  (t.permit? serial).map (fun p => (p.state, p.stall, p.outstanding, p.lastReleased))
                    = some (.stalled, some (phase, .undelivered), none, some i.index))
              ∧ ∀ serial p, e.owner = .permit .issue serial → s.permit? serial = some p → s.noneWaits (.permit .issue serial) →
                  (t.permit? serial).map (fun p => (p.state, p.stall, p.issue))
                    = some (.stalled, some (.issuing, .undelivered), none))
      ∧ ((s.chan c).state ≠ .awaitReply ∨ (s.chan c).replyWindow = none → Runs (.replyWindowExpiry c) s (Takes s s))
      ∧ ((s.chan c).state = .awaitRepeat → (s.chan c).repeatWait ≠ none → Runs (.repeatWaitExpiry c) s
          (Takes s (s.modChan c fun ch => { idled ch with assembly := none, ranOut := !ch.carrier })))
      ∧ ((s.chan c).state ≠ .awaitRepeat ∨ (s.chan c).repeatWait = none → Runs (.repeatWaitExpiry c) s (Takes s s))
      ∧ ((s.chan c).state ≠ .answering → Runs (.answerSent c) s (Takes s s))
      ∧ ((s.chan c).state = .answering → (s.chan c).afterAnswer ≠ some .await → Runs (.answerSent c) s
          (Takes s (s.modChan c idled)))
      ∧ ((s.chan c).state = .answering → (s.chan c).afterAnswer = some .await → Runs (.answerSent c) s
          (Takes s (s.modChan c fun ch =>
            if ch.carrier && !ch.carrierSpent then
              { ch with
                state := .receiving, txFrame := [], afterAnswer := none, repeatWait := none, origin := some .awaitRepeat }
            else
              { ch with
                state := .awaitRepeat, txFrame := [], afterAnswer := none, repeatWait := some s.params.repeatWait
                origin := none })))

/-- FRAME_RECEIVED, once a reception is over: a malformed frame and one that is not for the base station leave the channel where it waited; a
telegram with blocks missing is kept and answered ACK with the map of the blocks held; a whole one from a stranger is answered
NAK_UNKNOWN, or ACK for an EMERGENCY, with its notice, and a repeated one ACK. A new one from a crew is accepted: the crew is REACHABLE,
its sequence is recorded, and it is answered by its kind. A kind that is not taken and a body that does not fit it are answered
NAK_REJECTED. A TEXT stands behind the messages in the mailbox, or is answered NAK_BUSY by a full one and its sequence not recorded. A
CHECK_IN, REST or RESUME of a badge that is no member is answered NAK_REJECTED; of a member, it restarts the watch, a lead prompt being
owed where the lead is above 0, or begins the rest as its watch state has it, a refused REST being answered NAK_REJECTED.
An EMERGENCY raises the alarm of the member, or the crew's, and holds
the crew's permits. An ORDER_REPLY, of a crew that is not LOST or is owed no follow-up, changes the head it names as its table has it; a
STEP_REPORT changes the device and the permit of the instruction outstanding, where that permit does not wait for the device as well; a
READBACK changes the permit in ISSUING, and a right one takes a head BLOCKED under it to WORKING and queues ORDER_CLEARED;
a SURRENDER changes the permit in force. Each is otherwise ignored, an ORDER_REPLY of a LOST crew left
aside, and all are answered ACK. Beside that only telegram traffic and the work of the permits reported on change the
state. Where no reception is over nothing changes.
When a reception is over (assumption 9), that a restart keeps the stored interval and grace (assumption 44), that a TEXT of no
bytes is recorded in spite of a full mailbox (assumption 31), and that a refused REST of a worker in alarm changes no record at high risk too (assumption 32), are the model's choices. -/
def Obligations.FrameReceivedIsJudged : Prop :=
  ∀ (c : Chan) (bytes : List Byte) (s : State),
    let cmd := Instr.frameReceived c bytes
    let ch := s.chan c
    let done := ch.state = .receiving ∧ receptionOver ch.carrier bytes = true
    let ignored := readFrame bytes = none ∨ ∃ f, readFrame bytes = some f ∧ (f.header.toBase = false ∨ f.header.kind = 1)
    let answering (h : Header) (after : AfterAnswer) (code map : Nat) (kept : Option Assembly) (ch : Channel) : Channel :=
      { ch with
        carrierSpent := ch.carrier, state := .answering, origin := none, afterAnswer := some after, assembly := kept
        txFrame := answerFrame h.src h.seq code map }
    (¬ done → Runs cmd s (Takes s s))
      ∧ (done → ignored → ch.origin ≠ some .awaitRepeat → Runs cmd s (Takes s (s.modChan c fun ch =>
          { ch with
            carrierSpent := ch.carrier, state := .idle, txFrame := [], origin := none, afterAnswer := none
            replyWindow := none, repeatWait := none })))
      ∧ (done → ignored → ch.origin = some .awaitRepeat → Runs cmd s (Takes s (s.modChan c fun ch =>
          { ch with
            carrierSpent := ch.carrier, state := .awaitRepeat, txFrame := [], origin := none, afterAnswer := none
            repeatWait := some s.params.repeatWait })))
      ∧ ∀ f, done → readFrame bytes = some f → f.header.toBase = true → f.header.kind ≠ 1 →
          let held := match ch.assembly with
            | some a => if a.continues f.header then a else Assembly.start f.header
            | none => Assembly.start f.header
          let a := held.take f
          let full := fullMap (blockCount f.header.len)
          (a.complete = false → Runs cmd s (Takes s (s.modChan c (answering f.header .await 1 a.map (some a)))))
            ∧ (a.complete = true → s.crewOfUnit? f.header.src = none → f.header.kind ≠ 0x25 → Runs cmd s
                (Takes s ((s.modChan c (answering f.header .finish 4 full none)).post
                  (.stranger c f.header.src f.header.kind f.header.seq))))
            ∧ (∀ h l x, a.complete = true → s.crewOfUnit? f.header.src = none → f.header.kind = 0x25 → a.body = [h, l, x] →
                Runs cmd s
                  (Takes s ((s.modChan c (answering f.header .finish 1 full none)).post
                    (.strangerEmergency c f.header.src f.header.seq (be16 h l) (if x.toNat = 2 then .manDown else .panic)))))
            ∧ (a.complete = true → s.crewOfUnit? f.header.src = none → f.header.kind = 0x25 → a.body.length ≠ 3 →
                Runs cmd s
                  (Takes s ((s.modChan c (answering f.header .finish 1 full none)).post
                    (.strangerEmergency c f.header.src f.header.seq 0 .panic))))
            ∧ (∀ k, a.complete = true → s.crewOfUnit? f.header.src = some k → k.inSeq = some f.header.seq →
                Runs cmd s (Takes s (s.modChan c (answering f.header .finish 1 full none))))
            ∧ ∀ k, a.complete = true → s.crewOfUnit? f.header.src = some k → s.crew? k.slot = some k →
                k.inSeq ≠ some f.header.seq →
                let kind := f.header.kind
                let len := a.body.length
                let fits : Bool := (kind == 0x30 && 1 ≤ len && len ≤ 80) || ((kind == 0x21 || kind == 0x25) && len == 3)
                  || ((kind == 0x22 || kind == 0x23 || kind == 0x24 || kind == 0x28) && len == 2)
                  || ((kind == 0x26 || kind == 0x27) && len == 4)
                let busy : Bool := kind == 0x30 && fits && 2 ≤ ch.mailbox.length
                let heard (code : Nat) : State := (s.modChan c (answering f.header .finish code full none)).modCrew k.slot fun k =>
                  { k with
                    failures := 0, reach := .reachable, lastHeard := some s.clock
                    inSeq := if busy then k.inSeq else some f.header.seq }
                let gives (code : Nat) (effect : State → State) : Prop :=
                  Runs cmd s fun t => Quiet s t ∧ Alike t (effect (heard code))
                (fits = false → gives 3 id)
                  ∧ (kind = 0x30 → fits = true → 2 ≤ ch.mailbox.length → gives 2 id)
                  ∧ (kind = 0x30 → fits = true → ch.mailbox.length < 2 → gives 1 fun u => u.modChan c fun ch =>
                      { ch with mailbox := ch.mailbox ++ [⟨k.slot, k.unit, c, s.clock, f.header.seq, a.body⟩] })
                  -- CHECK_IN, REST and RESUME
                  ∧ (∀ h l, a.body = [h, l] → kind = 0x22 ∨ kind = 0x23 ∨ kind = 0x24 → be16 h l ∉ k.members → gives 3 id)
                  ∧ (∀ h l w, a.body = [h, l] → be16 h l ∈ k.members → s.worker? (be16 h l) = some w →
                      let e := effectiveInterval w.interval w.missed (s.highRisk w.crew) s.params.highRiskCap
                      let restarted (w : Worker) : Worker :=
                        { w with
                          eff := some e, lead := some (leadTime s.params.promptLead e), remaining := some e, graceLeft := none }
                      let restarts (f : Worker → Worker) : Prop := Runs cmd s fun t =>
                        Quiet s t ∧ Alike t ((heard 1).modWorker (be16 h l) f)
                          ∧ (t.worker? (be16 h l)).map (·.leadOwed) = some (decide (0 < leadTime s.params.promptLead e))
                      (kind = 0x22 ∨ kind = 0x24 → w.watch = .watching → restarts restarted)
                        ∧ ((kind = 0x22 ∨ kind = 0x24) ∧ w.watch = .due ∨ kind = 0x24 ∧ w.watch = .resting →
                            restarts fun w => { restarted w with watch := .watching })
                        ∧ (kind = 0x22 ∧ w.watch = .resting
                              ∨ (kind = 0x22 ∨ kind = 0x24) ∧ (w.watch = .off ∨ w.watch = .alarm ∨ w.watch = .acknowledged) →
                            gives 1 id)
                        ∧ (kind = 0x23 → w.watch = .watching ∨ w.watch = .due → s.highRisk w.crew = false →
                            gives 1 fun u => u.modWorker (be16 h l) fun w =>
                              { w with watch := .resting, remaining := some s.params.restLimit, graceLeft := none })
                        ∧ (kind = 0x23 → (w.watch ≠ .watching ∧ w.watch ≠ .due) ∨ s.highRisk w.crew = true → gives 3 id))
                  -- EMERGENCY
                  ∧ (∀ h l x, a.body = [h, l, x] → kind = 0x25 → s.Inv →
                      let cause := if x.toNat = 2 then AlarmCause.manDown else AlarmCause.panic
                      let entered (ref : AlarmRef) (at' : Crew) (u : State) : State :=
                        let set (c : Chan) : Channel :=
                          if c = at'.current ∨ ref ∈ (u.chan c).alarmSet then
                            { u.chan c with alarmSet := (u.chan c).alarmSet.erase ref ++ [ref] }
                          else u.chan c
                        { u with
                          chans := ⟨set 0, set 1, set 2, set 3⟩
                          alarmOrder := s.alarmOrder.erase ref ++ [ref]
                          permits := s.permits.map fun p =>
                            if p.holder = at'.slot ∧ p.state ≠ .closed then { p with hold := p.hold || !s.inAlarm at'.slot }
                            else p }
                      (∀ w at', be16 h l ∈ k.members → s.worker? (be16 h l) = some w → s.crew? w.crew = some at' →
                          (w.watch ≠ .alarm → gives 1 fun u => (entered (.worker (be16 h l)) at' u).modWorker (be16 h l) fun w =>
                              { w with
                                watch := .alarm, cause := some cause, escal := some s.params.escalationTime, escalated := false
                                remaining := none, graceLeft := none })
                            ∧ (w.watch = .alarm → gives 1 fun u => u.modWorker (be16 h l) fun w => { w with cause := some cause }))
                        ∧ (be16 h l ∉ k.members →
                            (k.alarm ≠ .raised → gives 1 fun u => (entered (.crew k.slot) k u).modCrew k.slot fun k =>
                                { k with
                                  alarm := .raised, alarmCause := some cause, escal := some s.params.escalationTime
                                  escalated := false })
                              ∧ (k.alarm = .raised → gives 1 fun u => u.modCrew k.slot fun k =>
                                  { k with alarmCause := some cause })))
                  -- ORDER_REPLY, from a crew to which its acceptance brings no offer
                  ∧ (∀ h l x, a.body = [h, l, x] → kind = 0x21 →
                      let n := be16 h l
                      let reply := x.toNat
                      let allowed (o : Order) := ((reply = 1 ∨ reply = 2) ∧ (o.state = .sent ∨ o.state = .delivered))
                        ∨ (reply = 3 ∧ o.state = .accepted) ∨ (reply = 4 ∧ o.state = .working)
                        ∨ (reply = 5 ∧ (o.state = .accepted ∨ o.state = .blocked ∨ o.state = .working))
                      (k.reach ≠ .lost → (∀ o, s.order? n = some o → k.queue.head? = some n → ¬ allowed o) → gives 1 id)
                        ∧ ∀ o, s.order? n = some o → k.queue.head? = some n → allowed o → k.reach ≠ .lost ∨ s.owedOf k.slot = [] →
                            let mayWork := ∀ serial, o.bound = some serial →
                              ∃ p, s.permit? serial = some p ∧ p.state = .inForce ∧ p.holder = k.slot
                            let alone := k.queue = [n] ∧ ∀ k' ∈ s.crews, k'.slot ≠ k.slot → n ∉ k'.queue
                            let stays (st : OrderState) (f : Order → Order) : Prop :=
                              Runs cmd s fun t => Quiet s t ∧ Alike t ((heard 1).modOrder n f)
                                ∧ (alone → (t.order? n).map (fun o => (o.state, o.acceptance, o.unanswered))
                                    = some (st, (f o).acceptance, o.unanswered))
                            let leaves (f : Order → Order) : Prop := gives 1 fun u =>
                              (u.modOrder n f).modCrew k.slot fun k => { k with queue := k.queue.erase n }
                            (reply = 1 → stays .accepted fun o => { o with state := .accepted, acceptance := none })
                              ∧ (reply = 2 → leaves fun o =>
                                  { o with state := .returned, returned := some .declined, crew := none, acceptance := none })
                              ∧ (reply = 3 → mayWork → stays .working fun o => { o with state := .working })
                              ∧ (reply = 3 → ¬ mayWork → stays .blocked fun o => { o with state := .blocked })
                              ∧ (reply = 4 → leaves fun o => { o with state := .complete })
                              ∧ (reply = 5 → leaves fun o => { o with state := .returned, returned := some .unable }))
                  -- STEP_REPORT
                  ∧ (∀ h l x y, a.body = [h, l, x, y] → kind = 0x26 →
                      let serial := be16 h l
                      ((∀ p i, s.permit? serial = some p → p.holder = k.slot → y.toNat = 1 ∨ y.toNat = 2 → p.outstanding = some i →
                          i.index ≠ x.toNat) → gives 1 id)
                        ∧ ∀ p i d, s.permit? serial = some p → p.holder = k.slot → p.outstanding = some i → i.index = x.toNat →
                            s.device? i.device = some d → serial ∉ d.waits → y.toNat = 1 ∨ y.toNat = 2 →
                            Runs cmd s fun t => ∃ p', t.permit? serial = some p' ∧ Quiet s t ∧ AlikeButPermits t (heard 1)
                              ∧ (p.cancelWait = true → p'.cancelWait = false)
                              ∧ (y.toNat = 1 → p.cancelWait = false → p.state = .switching → i.role = .isolation →
                                  p'.k = p.k + 1 ∧ p'.stack = (i.device, i.action) :: p.stack
                                    ∧ (p.k + 1 = p.steps.length → p'.state = .issuing ∧ p'.outstanding = none)
                                    ∧ (p.k + 1 ≠ p.steps.length →
                                        p'.state = .switching ∨ (p'.state = .stalled ∧ p'.stall = some (.switching, .tagLimit)))
                                    ∧ (d.waits = [] → (∀ step, p.steps[p.k + 1]? = some step → step.device ≠ i.device) →
                                        t.device? i.device = some { d.applyDone with pending := none }))
                              ∧ (y.toNat = 1 → p.cancelWait = false → p.state = .restoring → i.role = .restoration →
                                  p'.stack = p.stack.drop 1
                                    ∧ p'.state = (if p.stack.drop 1 = [] then .closed else .restoring)
                                    ∧ (d.waits = [] → (∀ e, p.stack[1]? = some e → e.1 ≠ i.device) →
                                        t.device? i.device = some { d.applyDone with pending := none }))
                              ∧ (y.toNat = 2 → p.cancelWait = false → ∀ phase, p.state = phase.state →
                                  p'.state = .stalled ∧ p'.stall = some (phase, .unable) ∧ p'.outstanding = none
                                    ∧ p'.lastReleased = some i.index ∧ p'.stack = p.stack ∧ p'.k = p.k
                                    ∧ (d.waits = [] → t.device? i.device = some { d with pending := none })))
                  -- READBACK
                  ∧ (∀ h l x y, a.body = [h, l, x, y] → kind = 0x27 →
                      let serial := be16 h l
                      ((∀ p, s.permit? serial = some p → p.holder = k.slot → p.state ≠ .issuing) → gives 1 id)
                        ∧ ∀ p, s.permit? serial = some p → p.holder = k.slot → p.state = .issuing →
                            let right := be16 x y = p.digest.getD (s.digest p)
                            Runs cmd s fun t => ∃ p', t.permit? serial = some p' ∧ Quiet s t
                              ∧ (right → p'.state = .inForce ∧ p'.readback = none ∧ p'.issueOwed = false)
                              ∧ (¬ right → s.params.issueLimit ≤ p.issueCount →
                                  p'.state = .stalled ∧ p'.stall = some (.issuing, .readback))
                              ∧ (¬ right → p.issueCount < s.params.issueLimit → p'.state = .issuing
                                  ∧ (p.hold = false → p'.issueCount = p.issueCount + 1)
                                  ∧ (p.hold = true → p'.issueCount = p.issueCount ∧ p'.issueOwed = true))
                              ∧ (¬ right ∨ (∀ o ∈ s.orders, o.state = .blocked → o.bound = some serial → o.crew ≠ some k.slot) →
                                  AlikeButPermits t (heard 1))
                              ∧ (right → s.Inv → ∀ n, s.settledHead k n →
                                  let cleared (o : Order) := o.state = .blocked ∧ o.bound = some serial ∧ o.crew = some k.slot
                                  (∃ o, s.order? n = some o ∧ cleared o) → (∀ o ∈ s.orders, cleared o → o.number = n) →
                                  AlikeButPermits t ((heard 1).modOrder n fun o =>
                                      { o with state := .working, followUp := some (.cleared, .owed) })
                                    ∧ (k.reach ≠ .lost → (s.chan k.current).queue.length < 24 → s.noneWaits (.followUp n) →
                                        (t.order? n).map (fun o => (o.state, o.followUp)) = some (.working, some (.cleared, .queued))
                                          ∧ ∃ e ∈ (t.chan k.current).queue, e.owner = .followUp n ∧ e.kind = .orderCleared
                                              ∧ e.cls = .safety ∧ e.addr = k.addr
                                              ∧ e.body = .bytes (u16 n ++ u16 serial))))
                  -- SURRENDER
                  ∧ (∀ h l, a.body = [h, l] → kind = 0x28 →
                      let serial := be16 h l
                      ((∀ p, s.permit? serial = some p → p.holder = k.slot → p.state = .inForce → p.surrender = true) → gives 1 id)
                        ∧ ∀ p, s.permit? serial = some p → p.holder = k.slot → p.state = .inForce → p.surrender = false →
                            let working := ∃ o ∈ s.orders, o.state = .working ∧ o.bound = some serial ∧ o.crew = some k.slot
                            Runs cmd s fun t => ∃ p', t.permit? serial = some p' ∧ Quiet s t ∧ AlikeButPermits t (heard 1)
                              ∧ p'.state = .inForce
                              ∧ (p.hold = true → p'.surrender = false
                                  ∧ p'.answer.map (fun a => (a.answer, a.reason)) = some (.held, some .alarm))
                              ∧ (p.hold = false → working → p'.surrender = false
                                  ∧ p'.answer.map (fun a => (a.answer, a.reason)) = some (.held, some .ordersOpen))
                              ∧ (p.hold = false → ¬ working → p'.surrender = true))

/-- REPLY_FRAME_RECEIVED, once the reception is over: an ACK of every block ends the attempt delivered, and its crew is reachable. An order
in SENT is then delivered at the clock's value, and stands DELIVERED with no link and the acceptance countdown running where it is a head
that no preemption displaces; an order that has left SENT keeps its state, loses its link and, CANCELLED, takes ORDER_CANCEL for its
follow-up. A follow-up, a prompt or a permit's telegram is DELIVERED in its record where no other of it waits, a PERMIT_ISSUE starts the
readback countdown, and beside that an order in SENT and a permit's telegram change only what telegram traffic does.
An answer NAK_REJECTED or NAK_UNKNOWN ends the attempt REJECTED and leaves the crew's standing: an order in SENT is UNDELIVERED and out of
its crew's queue, and one that has left SENT only loses its link; a follow-up, a prompt, an answer to a surrender and a PERMIT_CLOSED are
FAILED; a TEXT is reported; an instruction or an issue stalls its permit with cause UNDELIVERED, and an instruction whose permit was
cancelled begins restoration.
An ACK that leaves blocks out brings a repeat frame with those, within the block allowance; any other answer, a malformed frame, and a
frame that is no answer to the telegram, end the attempt, and below the attempt limit the last two, an answer NAK_BUSY and a spent block allowance leave the
telegram to be sent again: the entry stays in its place with the retry hold-off, where its crew is on the roster and stands on
the channel and, for an ORDER, is the order's crew and has no other order. A frame that is no
answer is then received as one from IDLE is: ignored where it is not a telegram to the base station, and otherwise assembled and answered,
its crew heard. Where no reply is awaited it changes nothing. What a delivery and a rejection bring to the records is stated for states that meet the
invariant.
When a reception is over is the model's choice (assumption 9). -/
def Obligations.ReplyFrameDecides : Prop :=
  ∀ (c : Chan) (bytes : List Byte) (s : State),
    let ready := (s.chan c).state = .awaitReply ∧ (s.chan c).replyWindow = none ∧ receptionOver (s.chan c).carrier bytes = true
    let decided (ch : Channel) : Channel :=
      { ch with
        carrierSpent := ch.carrier, state := .idle, attempt := none, txFrame := [], origin := none, afterAnswer := none
        replyWindow := none, repeatWait := none }
    (¬ ready ∨ (∀ e ∈ (s.chan c).queue, e.inFlight = false) ∨ (s.chan c).attempt = none →
        Runs (.replyFrameReceived c bytes) s (Takes s s))
      ∧ ∀ front e back a slot unit, ready → (s.chan c).queue = front ++ e :: back → (∀ x ∈ front, x.inFlight = false) →
          e.inFlight = true → e.addr = .crew slot unit → (s.chan c).attempt = some a →
          let again := e.orphan = false ∧ s.links e = true ∧ e.kind ≠ .alarmCall ∧ e.attempts < s.params.attemptLimit
          let stays (t : State) : Prop := ∀ k, s.crew? slot = some k → k.current = c →
            (∀ n o, e.owner = .order n → s.order? n = some o → o.crew = some slot ∧ k.queue = [n]) →
            (t.chan c).queue = front ++ { e with inFlight := false, holdOff := s.params.retryHoldOff } :: back
          let heard : State := (s.modChan c decided).modCrew slot fun k =>
            { k with failures := 0, reach := .reachable, lastHeard := some s.clock }
          let settled (n : Nat) : Prop := ∃ k, s.crew? slot = some k ∧ s.settledHead k n
          let unlinked (t : State) : Prop := ∀ n o, e.owner = .order n → s.order? n = some o → o.state ≠ .sent →
            o.state.movable = false ∨ (o.state ≠ .assigned ∧ settled n) →
            (t.order? n).map (fun o => (o.state, o.link)) = some (o.state, none)
          let followed (t : State) (st : FollowStatus) : Prop := ∀ n o kind old, e.owner = .followUp n → e.linked = true →
            s.order? n = some o → o.followUp = some (kind, old) → s.noneWaits (.followUp n) →
            (t.order? n).map (·.followUp) = some (some (kind, st))
          let prompted (t : State) (st : PromptStatus) : Prop := ∀ who overdue badges badge w, e.owner = .prompt who →
            e.body = .prompt overdue badges → badge ∈ badges → s.worker? badge = some w → w.crew = who →
            (∀ c, ∀ x ∈ (s.chan c).queue, x.owner = .prompt who → x.inFlight = true) →
            (t.worker? badge).map (·.prompt) = some (some st)
          (readFrame bytes = none
              ∨ (∃ f, readFrame bytes = some f ∧ f.answerTo? unit a.seq = none ∧ (f.header.toBase = false ∨ f.header.kind = 1)) →
              Runs (.replyFrameReceived c bytes) s fun t =>
                Quiet s t ∧ (t.chan c).air = (decided (s.chan c)).air ∧ (again → Alike t (s.modChan c decided) ∧ stays t))
            ∧ (∀ f, readFrame bytes = some f → f.answerTo? unit a.seq = none → f.header.toBase = true → f.header.kind ≠ 1 →
                let held := match (s.chan c).assembly with
                  | some x => if x.continues f.header then x else Assembly.start f.header
                  | none => Assembly.start f.header
                let whole := held.take f
                let awaiting (ch : Channel) : Channel :=
                  { ch with
                    carrierSpent := ch.carrier, state := .answering, attempt := none, origin := none, replyWindow := none
                    afterAnswer := some .await, assembly := some whole
                    txFrame := answerFrame f.header.src f.header.seq 1 whole.map }
                (whole.complete = false → Runs (.replyFrameReceived c bytes) s fun t =>
                    Quiet s t ∧ (t.chan c).air = (awaiting (s.chan c)).air
                      ∧ (again → Alike t (s.modChan c awaiting) ∧ stays t))
                  ∧ (whole.complete = true → Runs (.replyFrameReceived c bytes) s fun t =>
                      Quiet s t ∧ (t.chan c).state = .answering ∧ (t.chan c).afterAnswer = some .finish
                        ∧ (t.chan c).attempt = none ∧ (t.chan c).assembly = none
                        ∧ ∃ code,
                            (t.chan c).txFrame
                                = answerFrame f.header.src f.header.seq code (fullMap (blockCount f.header.len))
                              ∧ (s.crewOfUnit? f.header.src = none → f.header.kind ≠ 0x25 → code = 4)
                              ∧ (s.crewOfUnit? f.header.src = none → f.header.kind = 0x25 → code = 1)
                              ∧ ∀ k, s.crewOfUnit? f.header.src = some k →
                                  (k.inSeq = some f.header.seq → code = 1)
                                    ∧ (k.inSeq ≠ some f.header.seq → (code = 1 ∨ code = 2 ∨ code = 3)
                                      ∧ (t.crew? k.slot).map (fun k => (k.failures, k.reach, k.lastHeard))
                                          = some (0, .reachable, some s.clock))))
            ∧ ∀ f code m, readFrame bytes = some f → f.answerTo? unit a.seq = some (code, m) →
                let missing := missingBlocks (blockCount a.body.length) m
                let fits := e.blocksSent + missing.length ≤ blockCount a.body.length + s.params.blockAllowance
                (code ≠ 1 ∨ missing = [] ∨ ¬ fits → Runs (.replyFrameReceived c bytes) s fun t =>
                    Quiet s t ∧ (t.chan c).air = (decided (s.chan c)).air
                      ∧ (code = 2 ∨ (code = 1 ∧ missing ≠ [] ∧ ¬ fits) → again → Alike t (s.modChan c decided) ∧ stays t))
                  ∧ (code = 1 → missing = [] → e.orphan = false → (s.crew? slot).isSome →
                      Runs (.replyFrameReceived c bytes) s fun t =>
                        (t.crew? slot).map (fun k => (k.failures, k.reach, k.lastHeard)) = some (0, .reachable, some s.clock)
                          ∧ (∀ n o, e.owner = .order n → s.order? n = some o → o.state = .sent →
                              (t.order? n).map (·.deliveredAt) = some (some s.clock))
                          ∧ (s.Inv →
                            (∀ n o, e.owner = .order n → s.order? n = some o → o.state = .sent →
                                Alike t (heard.modOrder n fun o => { o with deliveredAt := some s.clock })
                                  ∧ (settled n → (t.order? n).map (fun o => (o.state, o.link, o.acceptance, o.deliveredAt))
                                      = some (.delivered, none, some s.params.acceptanceTimeout, some s.clock)))
                              ∧ unlinked t
                              ∧ (∀ n o, e.owner = .order n → s.order? n = some o → o.state = .cancelled →
                                  (t.order? n).map (fun o => o.followUp.map (·.1)) = some (some .cancel))
                              ∧ followed t .delivered ∧ prompted t .delivered
                              ∧ ∀ tg serial p, e.owner = .permit tg serial → e.linked = true → s.permit? serial = some p →
                                  Alike t (heard.modPermit serial fun p =>
                                      if tg = .issue then { p with readback := some s.params.readbackWait } else p)
                                    ∧ (p.tg? tg ≠ none → s.noneWaits (.permit tg serial) →
                                        (t.permit? serial).map (·.tg? tg) = some (some .delivered))))
                  ∧ (code ≠ 1 → code ≠ 2 → e.orphan = false → Runs (.replyFrameReceived c bytes) s fun t =>
                      (t.crew? slot).map (fun k => (k.failures, k.reach, k.lastHeard))
                          = (s.crew? slot).map (fun k => (k.failures, k.reach, k.lastHeard))
                        ∧ (s.Inv →
                          (∀ n o, e.owner = .order n → s.order? n = some o → o.state = .sent →
                              (t.order? n).map (fun o => (o.state, o.link, o.crew)) = some (.undelivered, none, o.crew)
                                ∧ (o.crew = some slot →
                                    Alike t (((s.modChan c decided).modOrder n fun o => { o with state := .undelivered }).modCrew slot fun k =>
                                      { k with queue := k.queue.erase n })))
                          ∧ unlinked t ∧ followed t .failed ∧ prompted t .failed
                          ∧ (∀ n, e.owner = .text n → Alike t (s.modChan c decided)
                              ∧ (s.notices.length < 64 → ⟨s.clock, .textResult n (.crew slot) (.rejected code)⟩ ∈ t.notices))
                          ∧ ∀ tg serial p, e.owner = .permit tg serial → e.linked = true → s.permit? serial = some p →
                              (∀ i phase, tg = .instruct → p.outstanding = some i → p.cancelWait = false → p.state = phase.state →
                                  (t.permit? serial).map (fun p => (p.state, p.stall, p.outstanding, p.lastReleased))
                                    = some (.stalled, some (phase, .undelivered), none, some i.index))
                                ∧ (∀ i, tg = .instruct → p.outstanding = some i → p.cancelWait = true → p.state = .restoring →
                                    (t.permit? serial).map (fun p => (p.state, p.cancelWait, p.lastReleased))
                                      = some (if p.stack = [] then .closed else .restoring, false, some i.index))
                                ∧ (tg = .issue → s.noneWaits (.permit .issue serial) →
                                    (t.permit? serial).map (fun p => (p.state, p.stall, p.issue))
                                      = some (.stalled, some (.issuing, .undelivered), none))
                                ∧ (tg = .answer ∨ tg = .closing → Alike t (s.modChan c decided)
                                    ∧ (p.tg? tg ≠ none → s.noneWaits (.permit tg serial) →
                                        (t.permit? serial).map (·.tg? tg) = some (some .failed)))))
                  ∧ (code = 1 → missing ≠ [] → fits → Runs (.replyFrameReceived c bytes) s
                      (Takes s (s.modChan c fun ch =>
                        { ch with
                          carrierSpent := ch.carrier, origin := none, state := .sending, replyWindow := none
                          attempt := some { a with rpt := true, missing := missing }
                          txFrame := telegramFrame e.kind e.addr a.seq a.body true missing
                          queue := front ++ { e with blocksSent := e.blocksSent + missing.length } :: back })))
end

