-- ==== Sys2Proof/Laws/State.lean ====
section
/-! SUPPORT. The small lemmas of the state's updates: what each changes, and every field it leaves, true by unfolding. -/

namespace Sys2Proof.Machine

/-! ### A change to a crew -/

section
variable (s : State) (slot : Nat) (f : Crew → Crew)

@[simp] theorem State.modCrew_crews : (s.modCrew slot f).crews = tMod Crew.slot slot f s.crews := rfl
@[simp] theorem State.modCrew_workers : (s.modCrew slot f).workers = s.workers := rfl
@[simp] theorem State.modCrew_orders : (s.modCrew slot f).orders = s.orders := rfl
@[simp] theorem State.modCrew_assignments : (s.modCrew slot f).assignments = s.assignments := rfl
@[simp] theorem State.modCrew_devices : (s.modCrew slot f).devices = s.devices := rfl
@[simp] theorem State.modCrew_permits : (s.modCrew slot f).permits = s.permits := rfl
@[simp] theorem State.modCrew_serialCounter : (s.modCrew slot f).serialCounter = s.serialCounter := rfl
@[simp] theorem State.modCrew_chans : (s.modCrew slot f).chans = s.chans := rfl
@[simp] theorem State.modCrew_textCounter : (s.modCrew slot f).textCounter = s.textCounter := rfl
@[simp] theorem State.modCrew_held : (s.modCrew slot f).held = s.held := rfl
@[simp] theorem State.modCrew_responseLost : (s.modCrew slot f).responseLost = s.responseLost := rfl
@[simp] theorem State.modCrew_notices : (s.modCrew slot f).notices = s.notices := rfl
@[simp] theorem State.modCrew_overflow : (s.modCrew slot f).overflow = s.overflow := rfl
@[simp] theorem State.modCrew_clock : (s.modCrew slot f).clock = s.clock := rfl
@[simp] theorem State.modCrew_params : (s.modCrew slot f).params = s.params := rfl
@[simp] theorem State.modCrew_attn : (s.modCrew slot f).attn = s.attn := rfl
@[simp] theorem State.modCrew_linkOut : (s.modCrew slot f).linkOut = s.linkOut := rfl
@[simp] theorem State.modCrew_alarmOrder : (s.modCrew slot f).alarmOrder = s.alarmOrder := rfl
@[simp] theorem State.modCrew_owed : (s.modCrew slot f).owed = s.owed := rfl
@[simp] theorem State.modCrew_signals : (s.modCrew slot f).signals = s.signals := rfl
@[simp] theorem State.modCrew_choices : (s.modCrew slot f).choices = s.choices := rfl
@[simp] theorem State.modCrew_pending : (s.modCrew slot f).pending = s.pending := rfl

end

/-! ### A change to a worker -/

section
variable (s : State) (badge : Nat) (f : Worker → Worker)

@[simp] theorem State.modWorker_crews : (s.modWorker badge f).crews = s.crews := rfl
@[simp] theorem State.modWorker_workers : (s.modWorker badge f).workers = tMod Worker.badge badge f s.workers := rfl
@[simp] theorem State.modWorker_orders : (s.modWorker badge f).orders = s.orders := rfl
@[simp] theorem State.modWorker_assignments : (s.modWorker badge f).assignments = s.assignments := rfl
@[simp] theorem State.modWorker_devices : (s.modWorker badge f).devices = s.devices := rfl
@[simp] theorem State.modWorker_permits : (s.modWorker badge f).permits = s.permits := rfl
@[simp] theorem State.modWorker_serialCounter : (s.modWorker badge f).serialCounter = s.serialCounter := rfl
@[simp] theorem State.modWorker_chans : (s.modWorker badge f).chans = s.chans := rfl
@[simp] theorem State.modWorker_textCounter : (s.modWorker badge f).textCounter = s.textCounter := rfl
@[simp] theorem State.modWorker_held : (s.modWorker badge f).held = s.held := rfl
@[simp] theorem State.modWorker_responseLost : (s.modWorker badge f).responseLost = s.responseLost := rfl
@[simp] theorem State.modWorker_notices : (s.modWorker badge f).notices = s.notices := rfl
@[simp] theorem State.modWorker_overflow : (s.modWorker badge f).overflow = s.overflow := rfl
@[simp] theorem State.modWorker_clock : (s.modWorker badge f).clock = s.clock := rfl
@[simp] theorem State.modWorker_params : (s.modWorker badge f).params = s.params := rfl
@[simp] theorem State.modWorker_attn : (s.modWorker badge f).attn = s.attn := rfl
@[simp] theorem State.modWorker_linkOut : (s.modWorker badge f).linkOut = s.linkOut := rfl
@[simp] theorem State.modWorker_alarmOrder : (s.modWorker badge f).alarmOrder = s.alarmOrder := rfl
@[simp] theorem State.modWorker_owed : (s.modWorker badge f).owed = s.owed := rfl
@[simp] theorem State.modWorker_signals : (s.modWorker badge f).signals = s.signals := rfl
@[simp] theorem State.modWorker_choices : (s.modWorker badge f).choices = s.choices := rfl
@[simp] theorem State.modWorker_pending : (s.modWorker badge f).pending = s.pending := rfl

end

/-! ### A change to an order -/

section
variable (s : State) (n : Nat) (f : Order → Order)

@[simp] theorem State.modOrder_crews : (s.modOrder n f).crews = s.crews := rfl
@[simp] theorem State.modOrder_workers : (s.modOrder n f).workers = s.workers := rfl
@[simp] theorem State.modOrder_orders : (s.modOrder n f).orders = tMod Order.number n f s.orders := rfl
@[simp] theorem State.modOrder_assignments : (s.modOrder n f).assignments = s.assignments := rfl
@[simp] theorem State.modOrder_devices : (s.modOrder n f).devices = s.devices := rfl
@[simp] theorem State.modOrder_permits : (s.modOrder n f).permits = s.permits := rfl
@[simp] theorem State.modOrder_serialCounter : (s.modOrder n f).serialCounter = s.serialCounter := rfl
@[simp] theorem State.modOrder_chans : (s.modOrder n f).chans = s.chans := rfl
@[simp] theorem State.modOrder_textCounter : (s.modOrder n f).textCounter = s.textCounter := rfl
@[simp] theorem State.modOrder_held : (s.modOrder n f).held = s.held := rfl
@[simp] theorem State.modOrder_responseLost : (s.modOrder n f).responseLost = s.responseLost := rfl
@[simp] theorem State.modOrder_notices : (s.modOrder n f).notices = s.notices := rfl
@[simp] theorem State.modOrder_overflow : (s.modOrder n f).overflow = s.overflow := rfl
@[simp] theorem State.modOrder_clock : (s.modOrder n f).clock = s.clock := rfl
@[simp] theorem State.modOrder_params : (s.modOrder n f).params = s.params := rfl
@[simp] theorem State.modOrder_attn : (s.modOrder n f).attn = s.attn := rfl
@[simp] theorem State.modOrder_linkOut : (s.modOrder n f).linkOut = s.linkOut := rfl
@[simp] theorem State.modOrder_alarmOrder : (s.modOrder n f).alarmOrder = s.alarmOrder := rfl
@[simp] theorem State.modOrder_owed : (s.modOrder n f).owed = s.owed := rfl
@[simp] theorem State.modOrder_signals : (s.modOrder n f).signals = s.signals := rfl
@[simp] theorem State.modOrder_choices : (s.modOrder n f).choices = s.choices := rfl
@[simp] theorem State.modOrder_pending : (s.modOrder n f).pending = s.pending := rfl

end

/-! ### A change to a device -/

section
variable (s : State) (n : Nat) (f : Device → Device)

@[simp] theorem State.modDevice_crews : (s.modDevice n f).crews = s.crews := rfl
@[simp] theorem State.modDevice_workers : (s.modDevice n f).workers = s.workers := rfl
@[simp] theorem State.modDevice_orders : (s.modDevice n f).orders = s.orders := rfl
@[simp] theorem State.modDevice_assignments : (s.modDevice n f).assignments = s.assignments := rfl
@[simp] theorem State.modDevice_devices : (s.modDevice n f).devices = tMod Device.number n f s.devices := rfl
@[simp] theorem State.modDevice_permits : (s.modDevice n f).permits = s.permits := rfl
@[simp] theorem State.modDevice_serialCounter : (s.modDevice n f).serialCounter = s.serialCounter := rfl
@[simp] theorem State.modDevice_chans : (s.modDevice n f).chans = s.chans := rfl
@[simp] theorem State.modDevice_textCounter : (s.modDevice n f).textCounter = s.textCounter := rfl
@[simp] theorem State.modDevice_held : (s.modDevice n f).held = s.held := rfl
@[simp] theorem State.modDevice_responseLost : (s.modDevice n f).responseLost = s.responseLost := rfl
@[simp] theorem State.modDevice_notices : (s.modDevice n f).notices = s.notices := rfl
@[simp] theorem State.modDevice_overflow : (s.modDevice n f).overflow = s.overflow := rfl
@[simp] theorem State.modDevice_clock : (s.modDevice n f).clock = s.clock := rfl
@[simp] theorem State.modDevice_params : (s.modDevice n f).params = s.params := rfl
@[simp] theorem State.modDevice_attn : (s.modDevice n f).attn = s.attn := rfl
@[simp] theorem State.modDevice_linkOut : (s.modDevice n f).linkOut = s.linkOut := rfl
@[simp] theorem State.modDevice_alarmOrder : (s.modDevice n f).alarmOrder = s.alarmOrder := rfl
@[simp] theorem State.modDevice_owed : (s.modDevice n f).owed = s.owed := rfl
@[simp] theorem State.modDevice_signals : (s.modDevice n f).signals = s.signals := rfl
@[simp] theorem State.modDevice_choices : (s.modDevice n f).choices = s.choices := rfl
@[simp] theorem State.modDevice_pending : (s.modDevice n f).pending = s.pending := rfl

end

/-! ### A change to a permit -/

section
variable (s : State) (serial : Nat) (f : Permit → Permit)

@[simp] theorem State.modPermit_crews : (s.modPermit serial f).crews = s.crews := rfl
@[simp] theorem State.modPermit_workers : (s.modPermit serial f).workers = s.workers := rfl
@[simp] theorem State.modPermit_orders : (s.modPermit serial f).orders = s.orders := rfl
@[simp] theorem State.modPermit_assignments : (s.modPermit serial f).assignments = s.assignments := rfl
@[simp] theorem State.modPermit_devices : (s.modPermit serial f).devices = s.devices := rfl
@[simp] theorem State.modPermit_permits : (s.modPermit serial f).permits = tMod Permit.serial serial f s.permits := rfl
@[simp] theorem State.modPermit_serialCounter : (s.modPermit serial f).serialCounter = s.serialCounter := rfl
@[simp] theorem State.modPermit_chans : (s.modPermit serial f).chans = s.chans := rfl
@[simp] theorem State.modPermit_textCounter : (s.modPermit serial f).textCounter = s.textCounter := rfl
@[simp] theorem State.modPermit_held : (s.modPermit serial f).held = s.held := rfl
@[simp] theorem State.modPermit_responseLost : (s.modPermit serial f).responseLost = s.responseLost := rfl
@[simp] theorem State.modPermit_notices : (s.modPermit serial f).notices = s.notices := rfl
@[simp] theorem State.modPermit_overflow : (s.modPermit serial f).overflow = s.overflow := rfl
@[simp] theorem State.modPermit_clock : (s.modPermit serial f).clock = s.clock := rfl
@[simp] theorem State.modPermit_params : (s.modPermit serial f).params = s.params := rfl
@[simp] theorem State.modPermit_attn : (s.modPermit serial f).attn = s.attn := rfl
@[simp] theorem State.modPermit_linkOut : (s.modPermit serial f).linkOut = s.linkOut := rfl
@[simp] theorem State.modPermit_alarmOrder : (s.modPermit serial f).alarmOrder = s.alarmOrder := rfl
@[simp] theorem State.modPermit_owed : (s.modPermit serial f).owed = s.owed := rfl
@[simp] theorem State.modPermit_signals : (s.modPermit serial f).signals = s.signals := rfl
@[simp] theorem State.modPermit_choices : (s.modPermit serial f).choices = s.choices := rfl
@[simp] theorem State.modPermit_pending : (s.modPermit serial f).pending = s.pending := rfl

end

/-! ### A change to a channel -/

section
variable (s : State) (c : Chan) (f : Channel → Channel)

@[simp] theorem State.modChan_crews : (s.modChan c f).crews = s.crews := rfl
@[simp] theorem State.modChan_workers : (s.modChan c f).workers = s.workers := rfl
@[simp] theorem State.modChan_orders : (s.modChan c f).orders = s.orders := rfl
@[simp] theorem State.modChan_assignments : (s.modChan c f).assignments = s.assignments := rfl
@[simp] theorem State.modChan_devices : (s.modChan c f).devices = s.devices := rfl
@[simp] theorem State.modChan_permits : (s.modChan c f).permits = s.permits := rfl
@[simp] theorem State.modChan_serialCounter : (s.modChan c f).serialCounter = s.serialCounter := rfl
@[simp] theorem State.modChan_chans : (s.modChan c f).chans = s.chans.set c (f (s.chans.get c)) := rfl
@[simp] theorem State.modChan_textCounter : (s.modChan c f).textCounter = s.textCounter := rfl
@[simp] theorem State.modChan_held : (s.modChan c f).held = s.held := rfl
@[simp] theorem State.modChan_responseLost : (s.modChan c f).responseLost = s.responseLost := rfl
@[simp] theorem State.modChan_notices : (s.modChan c f).notices = s.notices := rfl
@[simp] theorem State.modChan_overflow : (s.modChan c f).overflow = s.overflow := rfl
@[simp] theorem State.modChan_clock : (s.modChan c f).clock = s.clock := rfl
@[simp] theorem State.modChan_params : (s.modChan c f).params = s.params := rfl
@[simp] theorem State.modChan_attn : (s.modChan c f).attn = s.attn := rfl
@[simp] theorem State.modChan_linkOut : (s.modChan c f).linkOut = s.linkOut := rfl
@[simp] theorem State.modChan_alarmOrder : (s.modChan c f).alarmOrder = s.alarmOrder := rfl
@[simp] theorem State.modChan_owed : (s.modChan c f).owed = s.owed := rfl
@[simp] theorem State.modChan_signals : (s.modChan c f).signals = s.signals := rfl
@[simp] theorem State.modChan_choices : (s.modChan c f).choices = s.choices := rfl
@[simp] theorem State.modChan_pending : (s.modChan c f).pending = s.pending := rfl

end

/-! ### A change to the channels -/

section
variable (s : State) (f : Channel → Channel)

@[simp] theorem State.modChans_crews : (s.modChans f).crews = s.crews := rfl
@[simp] theorem State.modChans_workers : (s.modChans f).workers = s.workers := rfl
@[simp] theorem State.modChans_orders : (s.modChans f).orders = s.orders := rfl
@[simp] theorem State.modChans_assignments : (s.modChans f).assignments = s.assignments := rfl
@[simp] theorem State.modChans_devices : (s.modChans f).devices = s.devices := rfl
@[simp] theorem State.modChans_permits : (s.modChans f).permits = s.permits := rfl
@[simp] theorem State.modChans_serialCounter : (s.modChans f).serialCounter = s.serialCounter := rfl
@[simp] theorem State.modChans_chans : (s.modChans f).chans = s.chans.map f := rfl
@[simp] theorem State.modChans_textCounter : (s.modChans f).textCounter = s.textCounter := rfl
@[simp] theorem State.modChans_held : (s.modChans f).held = s.held := rfl
@[simp] theorem State.modChans_responseLost : (s.modChans f).responseLost = s.responseLost := rfl
@[simp] theorem State.modChans_notices : (s.modChans f).notices = s.notices := rfl
@[simp] theorem State.modChans_overflow : (s.modChans f).overflow = s.overflow := rfl
@[simp] theorem State.modChans_clock : (s.modChans f).clock = s.clock := rfl
@[simp] theorem State.modChans_params : (s.modChans f).params = s.params := rfl
@[simp] theorem State.modChans_attn : (s.modChans f).attn = s.attn := rfl
@[simp] theorem State.modChans_linkOut : (s.modChans f).linkOut = s.linkOut := rfl
@[simp] theorem State.modChans_alarmOrder : (s.modChans f).alarmOrder = s.alarmOrder := rfl
@[simp] theorem State.modChans_owed : (s.modChans f).owed = s.owed := rfl
@[simp] theorem State.modChans_signals : (s.modChans f).signals = s.signals := rfl
@[simp] theorem State.modChans_choices : (s.modChans f).choices = s.choices := rfl
@[simp] theorem State.modChans_pending : (s.modChans f).pending = s.pending := rfl

end

/-! ### The model's own lists -/

section
variable (s : State)

@[simp] theorem State.withSignals_crews (l : List Chan) : (s.withSignals l).crews = s.crews := rfl
@[simp] theorem State.withSignals_workers (l : List Chan) : (s.withSignals l).workers = s.workers := rfl
@[simp] theorem State.withSignals_orders (l : List Chan) : (s.withSignals l).orders = s.orders := rfl
@[simp] theorem State.withSignals_assignments (l : List Chan) : (s.withSignals l).assignments = s.assignments := rfl
@[simp] theorem State.withSignals_devices (l : List Chan) : (s.withSignals l).devices = s.devices := rfl
@[simp] theorem State.withSignals_permits (l : List Chan) : (s.withSignals l).permits = s.permits := rfl
@[simp] theorem State.withSignals_serialCounter (l : List Chan) : (s.withSignals l).serialCounter = s.serialCounter := rfl
@[simp] theorem State.withSignals_chans (l : List Chan) : (s.withSignals l).chans = s.chans := rfl
@[simp] theorem State.withSignals_textCounter (l : List Chan) : (s.withSignals l).textCounter = s.textCounter := rfl
@[simp] theorem State.withSignals_held (l : List Chan) : (s.withSignals l).held = s.held := rfl
@[simp] theorem State.withSignals_responseLost (l : List Chan) : (s.withSignals l).responseLost = s.responseLost := rfl
@[simp] theorem State.withSignals_notices (l : List Chan) : (s.withSignals l).notices = s.notices := rfl
@[simp] theorem State.withSignals_overflow (l : List Chan) : (s.withSignals l).overflow = s.overflow := rfl
@[simp] theorem State.withSignals_clock (l : List Chan) : (s.withSignals l).clock = s.clock := rfl
@[simp] theorem State.withSignals_params (l : List Chan) : (s.withSignals l).params = s.params := rfl
@[simp] theorem State.withSignals_attn (l : List Chan) : (s.withSignals l).attn = s.attn := rfl
@[simp] theorem State.withSignals_linkOut (l : List Chan) : (s.withSignals l).linkOut = s.linkOut := rfl
@[simp] theorem State.withSignals_alarmOrder (l : List Chan) : (s.withSignals l).alarmOrder = s.alarmOrder := rfl
@[simp] theorem State.withSignals_owed (l : List Chan) : (s.withSignals l).owed = s.owed := rfl
@[simp] theorem State.withSignals_signals (l : List Chan) : (s.withSignals l).signals = l := rfl
@[simp] theorem State.withSignals_choices (l : List Chan) : (s.withSignals l).choices = s.choices := rfl
@[simp] theorem State.withSignals_pending (l : List Chan) : (s.withSignals l).pending = s.pending := rfl
@[simp] theorem State.withSignals_chan (l : List Chan) (c : Chan) : (s.withSignals l).chan c = s.chan c := rfl

@[simp] theorem State.withOwed_crews (l : List Nat) : (s.withOwed l).crews = s.crews := rfl
@[simp] theorem State.withOwed_workers (l : List Nat) : (s.withOwed l).workers = s.workers := rfl
@[simp] theorem State.withOwed_orders (l : List Nat) : (s.withOwed l).orders = s.orders := rfl
@[simp] theorem State.withOwed_assignments (l : List Nat) : (s.withOwed l).assignments = s.assignments := rfl
@[simp] theorem State.withOwed_devices (l : List Nat) : (s.withOwed l).devices = s.devices := rfl
@[simp] theorem State.withOwed_permits (l : List Nat) : (s.withOwed l).permits = s.permits := rfl
@[simp] theorem State.withOwed_serialCounter (l : List Nat) : (s.withOwed l).serialCounter = s.serialCounter := rfl
@[simp] theorem State.withOwed_chans (l : List Nat) : (s.withOwed l).chans = s.chans := rfl
@[simp] theorem State.withOwed_textCounter (l : List Nat) : (s.withOwed l).textCounter = s.textCounter := rfl
@[simp] theorem State.withOwed_held (l : List Nat) : (s.withOwed l).held = s.held := rfl
@[simp] theorem State.withOwed_responseLost (l : List Nat) : (s.withOwed l).responseLost = s.responseLost := rfl
@[simp] theorem State.withOwed_notices (l : List Nat) : (s.withOwed l).notices = s.notices := rfl
@[simp] theorem State.withOwed_overflow (l : List Nat) : (s.withOwed l).overflow = s.overflow := rfl
@[simp] theorem State.withOwed_clock (l : List Nat) : (s.withOwed l).clock = s.clock := rfl
@[simp] theorem State.withOwed_params (l : List Nat) : (s.withOwed l).params = s.params := rfl
@[simp] theorem State.withOwed_attn (l : List Nat) : (s.withOwed l).attn = s.attn := rfl
@[simp] theorem State.withOwed_linkOut (l : List Nat) : (s.withOwed l).linkOut = s.linkOut := rfl
@[simp] theorem State.withOwed_alarmOrder (l : List Nat) : (s.withOwed l).alarmOrder = s.alarmOrder := rfl
@[simp] theorem State.withOwed_owed (l : List Nat) : (s.withOwed l).owed = l := rfl
@[simp] theorem State.withOwed_signals (l : List Nat) : (s.withOwed l).signals = s.signals := rfl
@[simp] theorem State.withOwed_choices (l : List Nat) : (s.withOwed l).choices = s.choices := rfl
@[simp] theorem State.withOwed_pending (l : List Nat) : (s.withOwed l).pending = s.pending := rfl
@[simp] theorem State.withOwed_chan (l : List Nat) (c : Chan) : (s.withOwed l).chan c = s.chan c := rfl

end

/-! ### Channels -/

@[simp] theorem Four.get_set_same {α : Type} (v : Four α) (c : Chan) (a : α) : (v.set c a).get c = a := by
  fin_cases c <;> rfl

theorem Four.get_set_other {α : Type} (v : Four α) {c d : Chan} (a : α) (h : c ≠ d) : (v.set c a).get d = v.get d := by
  fin_cases c <;> fin_cases d <;> first | rfl | exact absurd rfl h

theorem Four.get_set {α : Type} (v : Four α) (c d : Chan) (a : α) : (v.set c a).get d = if c = d then a else v.get d := by
  split
  · subst_vars; simp
  · exact Four.get_set_other v a (by assumption)

@[simp] theorem Four.get_map {α β : Type} (f : α → β) (v : Four α) (c : Chan) : (v.map f).get c = f (v.get c) := by
  fin_cases c <;> rfl

theorem Four.ext_get {α : Type} {v w : Four α} (h : ∀ c, v.get c = w.get c) : v = w := by
  cases v; cases w
  have h0 := h 0; have h1 := h 1; have h2 := h 2; have h3 := h 3
  simp_all [Four.get]

@[simp] theorem Four.map_map {α β γ : Type} (f : α → β) (g : β → γ) (v : Four α) : (v.map f).map g = v.map fun a => g (f a) :=
  rfl

theorem Four.map_set {α β : Type} (f : α → β) (v : Four α) (c : Chan) (a : α) : (v.set c a).map f = (v.map f).set c (f a) := by
  fin_cases c <;> rfl

@[simp] theorem Four.set_get {α : Type} (v : Four α) (c : Chan) : v.set c (v.get c) = v := by fin_cases c <;> rfl

theorem Four.map_set_of {α β : Type} (f : α → β) (v : Four α) (c : Chan) (a : α) (h : f a = f (v.get c)) :
    (v.set c a).map f = v.map f := by
  rw [Four.map_set, h, ← Four.get_map f v c, Four.set_get]

@[simp] theorem State.modChan_chan_same (s : State) (c : Chan) (f : Channel → Channel) : (s.modChan c f).chan c = f (s.chan c) := by
  simp [State.chan]

theorem State.modChan_chan_other (s : State) {c d : Chan} (f : Channel → Channel) (h : c ≠ d) :
    (s.modChan c f).chan d = s.chan d := Four.get_set_other _ _ h

theorem State.modChan_chan (s : State) (c d : Chan) (f : Channel → Channel) :
    (s.modChan c f).chan d = if c = d then f (s.chan d) else s.chan d := by
  split
  · subst_vars; simp
  · exact s.modChan_chan_other f (by assumption)

@[simp] theorem State.modChans_chan (s : State) (c : Chan) (f : Channel → Channel) : (s.modChans f).chan c = f (s.chan c) := by
  simp [State.chan]

@[simp] theorem State.modCrew_chan (s : State) (slot : Nat) (f : Crew → Crew) (c : Chan) : (s.modCrew slot f).chan c = s.chan c := rfl
@[simp] theorem State.modWorker_chan (s : State) (badge : Nat) (f : Worker → Worker) (c : Chan) : (s.modWorker badge f).chan c = s.chan c := rfl
@[simp] theorem State.modOrder_chan (s : State) (n : Nat) (f : Order → Order) (c : Chan) : (s.modOrder n f).chan c = s.chan c := rfl
@[simp] theorem State.modDevice_chan (s : State) (n : Nat) (f : Device → Device) (c : Chan) : (s.modDevice n f).chan c = s.chan c := rfl
@[simp] theorem State.modPermit_chan (s : State) (serial : Nat) (f : Permit → Permit) (c : Chan) : (s.modPermit serial f).chan c = s.chan c := rfl

/-! ### Notices (R202) -/

section
variable (s : State) (n : Subject)

@[simp] theorem State.post_crews : (s.post n).crews = s.crews := by unfold State.post; split <;> (try split) <;> (try split) <;> rfl
@[simp] theorem State.post_workers : (s.post n).workers = s.workers := by unfold State.post; split <;> (try split) <;> (try split) <;> rfl
@[simp] theorem State.post_orders : (s.post n).orders = s.orders := by unfold State.post; split <;> (try split) <;> (try split) <;> rfl
@[simp] theorem State.post_assignments : (s.post n).assignments = s.assignments := by unfold State.post; split <;> (try split) <;> (try split) <;> rfl
@[simp] theorem State.post_devices : (s.post n).devices = s.devices := by unfold State.post; split <;> (try split) <;> (try split) <;> rfl
@[simp] theorem State.post_permits : (s.post n).permits = s.permits := by unfold State.post; split <;> (try split) <;> (try split) <;> rfl
@[simp] theorem State.post_serialCounter : (s.post n).serialCounter = s.serialCounter := by unfold State.post; split <;> (try split) <;> (try split) <;> rfl
@[simp] theorem State.post_chans : (s.post n).chans = s.chans := by unfold State.post; split <;> (try split) <;> (try split) <;> rfl
@[simp] theorem State.post_textCounter : (s.post n).textCounter = s.textCounter := by unfold State.post; split <;> (try split) <;> (try split) <;> rfl
@[simp] theorem State.post_held : (s.post n).held = s.held := by unfold State.post; split <;> (try split) <;> (try split) <;> rfl
@[simp] theorem State.post_responseLost : (s.post n).responseLost = s.responseLost := by unfold State.post; split <;> (try split) <;> (try split) <;> rfl
@[simp] theorem State.post_clock : (s.post n).clock = s.clock := by unfold State.post; split <;> (try split) <;> (try split) <;> rfl
@[simp] theorem State.post_params : (s.post n).params = s.params := by unfold State.post; split <;> (try split) <;> (try split) <;> rfl
@[simp] theorem State.post_attn : (s.post n).attn = s.attn := by unfold State.post; split <;> (try split) <;> (try split) <;> rfl
@[simp] theorem State.post_linkOut : (s.post n).linkOut = s.linkOut := by unfold State.post; split <;> (try split) <;> (try split) <;> rfl
@[simp] theorem State.post_alarmOrder : (s.post n).alarmOrder = s.alarmOrder := by unfold State.post; split <;> (try split) <;> (try split) <;> rfl
@[simp] theorem State.post_owed : (s.post n).owed = s.owed := by unfold State.post; split <;> (try split) <;> (try split) <;> rfl
@[simp] theorem State.post_signals : (s.post n).signals = s.signals := by unfold State.post; split <;> (try split) <;> (try split) <;> rfl
@[simp] theorem State.post_choices : (s.post n).choices = s.choices := by unfold State.post; split <;> (try split) <;> (try split) <;> rfl
@[simp] theorem State.post_pending : (s.post n).pending = s.pending := by unfold State.post; split <;> (try split) <;> (try split) <;> rfl
@[simp] theorem State.post_chan (c : Chan) : (s.post n).chan c = s.chan c := by simp [State.chan]

end

end Sys2Proof.Machine
end

