-- ==== Sys2Proof/Laws/Tables.lean ====
section
/-! SUPPORT. Keyed tables: what finding, entering, deleting and changing a record do to each other, and the order of the keys. -/

namespace Sys2Proof.Machine

section
variable {α β : Type} (key : α → Nat)

theorem tMod_map_of (k : Nat) (f : α → α) (g : α → β) (l : List α) (h : ∀ a, g (f a) = g a) :
    (tMod key k f l).map g = l.map g := by
  simp only [tMod, List.map_map]
  refine List.map_congr_left fun a _ => ?_
  simp only [Function.comp_apply]
  split <;> simp [h]

theorem tMod_length (k : Nat) (f : α → α) (l : List α) : (tMod key k f l).length = l.length := by simp [tMod]

/-- A record found has the key looked for and stands in the table. -/
theorem tFind_some {k : Nat} {a : α} {l : List α} (h : tFind key k l = some a) : key a = k ∧ a ∈ l := by
  refine ⟨by simpa using List.find?_some h, List.mem_of_find?_eq_some h⟩

theorem tFind_none {k : Nat} {l : List α} : tFind key k l = none ↔ ∀ a ∈ l, key a ≠ k := by
  simp [tFind]

/-- What a change leaves of the record looked for, when the change keeps keys. -/
theorem tFind_tMod (j k : Nat) (f : α → α) (l : List α) (h : ∀ a, key (f a) = key a) :
    tFind key j (tMod key k f l) = (tFind key j l).map fun a => if key a = k then f a else a := by
  simp only [tFind, tMod, List.find?_map]
  congr 1
  congr 1
  funext a
  simp only [Function.comp_apply]
  split <;> simp [h]

theorem tFind_tMod_same (k : Nat) (f : α → α) (l : List α) (h : ∀ a, key (f a) = key a) :
    tFind key k (tMod key k f l) = (tFind key k l).map f := by
  rw [tFind_tMod key k k f l h]
  cases hf : tFind key k l with
  | none => rfl
  | some a => simp [(tFind_some key hf).1]

theorem tFind_tMod_other {j k : Nat} (f : α → α) (l : List α) (h : ∀ a, key (f a) = key a) (hjk : j ≠ k) :
    tFind key j (tMod key k f l) = tFind key j l := by
  rw [tFind_tMod key j k f l h]
  cases hf : tFind key j l with
  | none => rfl
  | some a => simp [(tFind_some key hf).1, hjk]

/-- A record found in a table that was mapped. -/
theorem tFind_map_of (k : Nat) (g : α → α) (l : List α) (h : ∀ a, key (g a) = key a) :
    tFind key k (l.map g) = (tFind key k l).map g := by
  simp only [tFind, List.find?_map]
  congr 1
  congr 1
  funext a
  simp [h]

theorem tPut_mem {a b : α} {l : List α} (h : b ∈ tPut key a l) : b = a ∨ b ∈ l := by
  induction l with
  | nil => simpa [tPut] using h
  | cons c cs ih =>
    simp only [tPut] at h
    split at h
    · simpa using h
    · split at h
      · rcases List.mem_cons.1 h with h | h
        · exact .inl h
        · exact .inr (List.mem_cons_of_mem _ h)
      · rcases List.mem_cons.1 h with h | h
        · exact .inr (by simp [h])
        · rcases ih h with h | h
          · exact .inl h
          · exact .inr (List.mem_cons_of_mem _ h)

/-- Entering a record keeps the keys rising. -/
theorem tPut_rising (a : α) (l : List α) (h : (l.map key).Pairwise (· < ·)) : ((tPut key a l).map key).Pairwise (· < ·) := by
  induction l with
  | nil => simp [tPut]
  | cons b bs ih =>
    simp only [List.map_cons, List.pairwise_cons] at h
    simp only [tPut]
    split
    · rename_i hab
      simp only [List.map_cons, List.pairwise_cons]
      refine ⟨fun x hx => ?_, h⟩
      rcases List.mem_cons.1 hx with hx | hx
      · omega
      · have := h.1 x hx; omega
    · split
      · rename_i hab
        simpa [List.pairwise_cons, hab] using h
      · simp only [List.map_cons, List.pairwise_cons]
        refine ⟨fun x hx => ?_, ih h.2⟩
        obtain ⟨y, hy, rfl⟩ := List.mem_map.1 hx
        rcases tPut_mem key hy with hy | hy
        · subst hy; omega
        · exact h.1 _ (List.mem_map_of_mem hy)

/-- The record entered is found at its key. -/
theorem tFind_tPut_same (a : α) (l : List α) : tFind key (key a) (tPut key a l) = some a := by
  induction l with
  | nil => simp [tPut, tFind]
  | cons b bs ih =>
    simp only [tPut]
    split
    · simp [tFind]
    · split
      · simp [tFind]
      · rename_i h1 h2
        have : (key b == key a) = false := by simpa using fun h => h2 h.symm
        simpa [tFind, this] using ih

/-- Every other record stays as it was. -/
theorem tFind_tPut_other (a : α) {j : Nat} (l : List α) (h : j ≠ key a) : tFind key j (tPut key a l) = tFind key j l := by
  have ha : (key a == j) = false := by simpa using fun e => h e.symm
  induction l with
  | nil => simp [tPut, tFind, ha]
  | cons b bs ih =>
    simp only [tPut]
    split
    · simp [tFind, ha]
    · split
      · rename_i h1 h2
        have : (key b == j) = false := by simpa [← h2] using ha
        simp [tFind, this, ha]
      · cases hb : (key b == j)
        · simpa [tFind, hb] using ih
        · simp [tFind, hb]

theorem tPut_length_le (a : α) (l : List α) : (tPut key a l).length ≤ l.length + 1 := by
  induction l with
  | nil => simp [tPut]
  | cons b bs ih =>
    simp only [tPut]
    split <;> (try split) <;> (simp only [List.length_cons] at *; omega)

theorem tDel_rising (k : Nat) (l : List α) (h : (l.map key).Pairwise (· < ·)) : ((tDel key k l).map key).Pairwise (· < ·) :=
  h.sublist ((List.filter_sublist).map key)

theorem tFind_tDel_same (k : Nat) (l : List α) : tFind key k (tDel key k l) = none := by
  simp [tFind, tDel, List.find?_eq_none]

theorem tFind_tDel_other {j k : Nat} (l : List α) (h : j ≠ k) : tFind key j (tDel key k l) = tFind key j l := by
  simp only [tFind, tDel, List.find?_filter]
  congr 1
  funext a
  by_cases hj : key a = j
  · simp [hj, h]
  · simp [hj]

end

end Sys2Proof.Machine
end

