-- ==== Sys2Proof/Laws/Frame.lean ====
section
/-! SUPPORT. The traffic of telegrams keeps the frame of the state (Safety.lean): one lemma for each operation on queues, offers and follow-ups. -/

namespace Sys2Proof.Machine

/-! ### Records -/

@[simp] theorem Worker.frame_badge (w : Worker) : w.frame.badge = w.badge := rfl
@[simp] theorem Worker.frame_watch (w : Worker) : w.frame.watch = w.watch := rfl
@[simp] theorem Crew.frame_slot (k : Crew) : k.frame.slot = k.slot := rfl
@[simp] theorem Crew.frame_unit (k : Crew) : k.frame.unit = k.unit := rfl
@[simp] theorem Crew.frame_current (k : Crew) : k.frame.current = k.current := rfl
@[simp] theorem Crew.frame_alarm (k : Crew) : k.frame.alarm = k.alarm := rfl
@[simp] theorem Order.frame_number (o : Order) : o.frame.number = o.number := rfl
@[simp] theorem Permit.frame_serial (p : Permit) : p.frame.serial = p.serial := rfl
@[simp] theorem Permit.frame_state (p : Permit) : p.frame.state = p.state := rfl

/-! ### Updates -/

section
variable (s : State)

theorem State.modCrew_frame (slot : Nat) (f : Crew → Crew) (h : ∀ k, (f k).frame = k.frame) :
    (s.modCrew slot f).frame = s.frame := by
  simp only [State.frame, State.modCrew, tMod_map_of Crew.slot slot f Crew.frame _ h]

theorem State.modWorker_frame (badge : Nat) (f : Worker → Worker) (h : ∀ w, (f w).frame = w.frame) :
    (s.modWorker badge f).frame = s.frame := by
  simp only [State.frame, State.modWorker, tMod_map_of Worker.badge badge f Worker.frame _ h]

theorem State.modOrder_frame (n : Nat) (f : Order → Order) (h : ∀ o, (f o).frame = o.frame) :
    (s.modOrder n f).frame = s.frame := by
  simp only [State.frame, State.modOrder, tMod_map_of Order.number n f Order.frame _ h]

theorem State.modOrderIn_frame (n : Nat) (st : OrderState) (f : Order → Order)
    (h : ∀ o, o.state = st → (f o).frame = o.frame) : (s.modOrderIn n st f).frame = s.frame := by
  refine s.modOrder_frame n _ fun o => ?_
  split
  · exact h o (by assumption)
  · rfl

theorem State.modPermit_frame (serial : Nat) (f : Permit → Permit) (h : ∀ p, (f p).frame = p.frame) :
    (s.modPermit serial f).frame = s.frame := by
  simp only [State.frame, State.modPermit, tMod_map_of Permit.serial serial f Permit.frame _ h]

theorem State.modChan_frame (c : Chan) (f : Channel → Channel) (h : ∀ ch, (f ch).frame = ch.frame) :
    (s.modChan c f).frame = s.frame := by
  simp only [State.frame, State.modChan, Four.map_set_of Channel.frame _ c _ (h _)]

theorem State.modChans_frame (f : Channel → Channel) (h : ∀ ch, (f ch).frame = ch.frame) :
    (s.modChans f).frame = s.frame := by
  simp only [State.frame, State.modChans, Four.map_map, h]

/-- Every change that the traffic of telegrams makes to a channel, in one form. -/
@[simp] theorem State.modChan_traffic (c : Chan) (q : Channel → List Entry) (a : Channel → Word32) (h : Channel → Bool)
    (pd od : Channel → List Nat) :
    (s.modChan c fun ch =>
      { ch with queue := q ch, admissions := a ch, flowHold := h ch, permitDefer := pd ch, orderDefer := od ch }).frame
      = s.frame := s.modChan_frame c _ fun _ => rfl

@[simp] theorem State.modChans_traffic (q : Channel → List Entry) (a : Channel → Word32) (h : Channel → Bool)
    (pd od : Channel → List Nat) :
    (s.modChans fun ch =>
      { ch with queue := q ch, admissions := a ch, flowHold := h ch, permitDefer := pd ch, orderDefer := od ch }).frame
      = s.frame := s.modChans_frame _ fun _ => rfl

/-- A crew's outbound sequence and its ORDER_WAITING mark are traffic. -/
@[simp] theorem State.modCrew_traffic (slot : Nat) (q : Crew → Seq) (w : Crew → Option (Nat × Nat)) :
    (s.modCrew slot fun k => { k with outSeq := q k, waitingFor := w k }).frame = s.frame :=
  s.modCrew_frame slot _ fun _ => rfl

/-- A worker's prompt status and lead-prompt mark are traffic. -/
@[simp] theorem State.modWorker_traffic (badge : Nat) (p : Worker → Option PromptStatus) (l : Worker → Bool) :
    (s.modWorker badge fun w => { w with prompt := p w, leadOwed := l w }).frame = s.frame :=
  s.modWorker_frame badge _ fun _ => rfl

/-- Where an order's telegrams stand is traffic. -/
@[simp] theorem State.modOrder_traffic (n : Nat) (l : Order → Option Link) (st : Order → FollowStatus) :
    (s.modOrder n fun o => { o with link := l o, followUp := o.followUp.map fun f => (f.1, st o) }).frame = s.frame :=
  s.modOrder_frame n _ fun o => by simp [Order.frame, Function.comp_def]

@[simp] theorem State.modOrder_link (n : Nat) (l : Order → Option Link) :
    (s.modOrder n fun o => { o with link := l o }).frame = s.frame := s.modOrder_frame n _ fun _ => rfl

/-- A movable order that goes to a movable state, with what goes with it, is traffic. -/
@[simp] theorem State.modOrderIn_traffic (n : Nat) (st : OrderState) (new : OrderState) (d : Option Deferral)
    (a : Order → Option Nat) (u : Order → Bool) (l : Order → Option Link) (h : st.movable = true) (h' : new.movable = true) :
    (s.modOrderIn n st fun o =>
      { o with state := new, deferral := d, acceptance := a o, unanswered := u o, link := l o }).frame = s.frame :=
  s.modOrderIn_frame n st _ fun o ho => by subst ho; simp [Order.frame, h, h']

@[simp] theorem State.modOrderIn_deferral (n : Nat) (st : OrderState) (d : Option Deferral) (h : st.movable = true) :
    (s.modOrderIn n st fun o => { o with deferral := d }).frame = s.frame :=
  s.modOrderIn_frame n st _ fun o ho => by subst ho; simp [Order.frame, h]

@[simp] theorem State.ite_frame (p : Prop) [Decidable p] (a b : State) :
    (if p then a else b).frame = if p then a.frame else b.frame := apply_ite State.frame p a b

@[simp] theorem State.post_frame (n : Subject) : (s.post n).frame = s.frame := by
  unfold State.post
  split
  · rfl
  · split
    · split <;> rfl
    · rfl

@[simp] theorem State.signals_frame (l : List Chan) : (s.withSignals l).frame = s.frame := rfl
@[simp] theorem State.owed_frame (l : List Nat) : (s.withOwed l).frame = s.frame := rfl
@[simp] theorem State.choices_frame (n : Nat) : State.frame { s with choices := n } = s.frame := rfl

/-! ### Folds and open choices -/

theorem State.foldl_frame {α : Type} (f : State → α → State) (h : ∀ t a, (f t a).frame = t.frame) (l : List α) (s : State) :
    (l.foldl f s).frame = s.frame := by
  induction l generalizing s with
  | nil => rfl
  | cons a as ih => simp only [List.foldl_cons, ih, h]

theorem State.inOpenOrder_frame {α : Type} (l : List α) (f : State → α → State) (h : ∀ t a, (f t a).frame = t.frame) :
    (s.inOpenOrder l f).frame = s.frame := by
  simp only [State.inOpenOrder, State.foldl_frame f h, State.choices_frame]

/-! ### Queues -/

@[simp] theorem State.signal_frame (c : Chan) : (s.signal c).frame = s.frame := by
  unfold State.signal; split <;> rfl

@[simp] theorem State.flowEval_frame (c : Chan) : (s.flowEval c).frame = s.frame := by
  unfold State.flowEval; split <;> (try split) <;> simp

@[simp] theorem State.takeSeq_frame (e : Entry) : (s.takeSeq e).1.frame = s.frame := by
  unfold State.takeSeq; split <;> (try split) <;> simp

@[simp] theorem State.enqueue_frame (c : Chan) (e : Entry) : (s.enqueue c e).frame = s.frame := by simp [State.enqueue]

@[simp] theorem State.tryAdmit_frame (c : Chan) (e : Entry) (fresh : Bool) : (s.tryAdmit c e fresh).1.frame = s.frame := by
  unfold State.tryAdmit
  split
  · rfl
  · rename_i v _
    cases v <;> cases fresh <;> simp

@[simp] theorem State.withdrawOn_frame (c : Chan) (p : Entry → Bool) : (s.withdrawOn c p).frame = s.frame := by
  unfold State.withdrawOn; split <;> simp

@[simp] theorem State.withdraw_frame (p : Entry → Bool) : (s.withdraw p).frame = s.frame :=
  State.foldl_frame _ (fun t c => t.withdrawOn_frame c p) _ s

@[simp] theorem State.modEntries_frame (p : Entry → Bool) (f : Entry → Entry) : (s.modEntries p f).frame = s.frame := by
  simp [State.modEntries]

@[simp] theorem State.unlink_frame (o : Owner) : (s.unlink o).frame = s.frame := by simp [State.unlink]

@[simp] theorem State.removeEntry_frame (c : Chan) (e : Entry) : (s.removeEntry c e).frame = s.frame := by
  simp [State.removeEntry]

/-! ### Deferral lists, texts and prompts -/

@[simp] theorem State.syncOrderDefer_frame (slot : Nat) : (s.syncOrderDefer slot).frame = s.frame := by
  unfold State.syncOrderDefer; split <;> (try split) <;> (try split) <;> simp

@[simp] theorem State.modPermit_deferred (serial : Nat) (d : Permit → Bool) :
    (s.modPermit serial fun p => { p with deferred := d p }).frame = s.frame := s.modPermit_frame serial _ fun _ => rfl

@[simp] theorem State.syncPermitDefer_frame (serial : Nat) : (s.syncPermitDefer serial).frame = s.frame := by
  unfold State.syncPermitDefer; split <;> (try split) <;> (try split) <;> (try split) <;> simp

theorem Permit.setTg_frame (p : Permit) (tg : PermitTg) (st : TgStatus) : (p.setTg tg st).frame = p.frame := by
  cases tg <;> simp [Permit.setTg, Permit.frame, Function.comp_def]

@[simp] theorem State.setTg_frame (serial : Nat) (tg : PermitTg) (st : TgStatus) : (s.setTg serial tg st).frame = s.frame := by
  unfold State.setTg
  rw [State.syncPermitDefer_frame, State.modPermit_frame _ _ _ fun p => p.setTg_frame tg st]

@[simp] theorem State.modOrder_followUp (n : Nat) (st : FollowStatus) :
    (s.modOrder n fun o => { o with followUp := o.followUp.map fun f => (f.1, st) }).frame = s.frame :=
  s.modOrder_frame n _ fun o => by simp [Order.frame, Function.comp_def]

@[simp] theorem State.oweFollowUp_frame (n : Nat) : (s.oweFollowUp n).frame = s.frame := by
  unfold State.oweFollowUp; split <;> (try split) <;> simp

@[simp] theorem State.setFollowUp_frame (n : Nat) (st : FollowStatus) : (s.setFollowUp n st).frame = s.frame := by
  unfold State.setFollowUp; split <;> (try split) <;> simp

@[simp] theorem State.setPrompts_frame (slot : Nat) (body : Body) (st : PromptStatus) :
    (s.setPrompts slot body st).frame = s.frame := by
  unfold State.setPrompts
  split
  · simp only [State.frame, List.map_map]
    congr 1
    refine List.map_congr_left fun w _ => ?_
    simp only [Function.comp_apply]
    split <;> rfl
  · rfl

@[simp] theorem State.textResult_frame (c : Chan) (e : Entry) (r : TextOutcome) : (s.textResult c e r).frame = s.frame := by
  unfold State.textResult
  split
  · split <;> simp
  · rfl

end

/-! ### Offers, preemption and crew queues -/

section
variable (check : State → Nat → State) (hc : ∀ t slot, (check t slot).frame = t.frame)
include hc

theorem State.setBack_frame (s : State) (n : Nat) (r : Deferral) : (s.setBack check n r).frame = s.frame := by
  have h1 := s.modOrderIn_frame n .sent
    (fun o => { o with state := .assigned, link := none, deferral := some r, unanswered := false })
    fun o ho => by simp [Order.frame, ho, OrderState.movable]
  unfold State.setBack
  split <;> (try split) <;> (try split) <;> simp [hc, h1]

theorem State.returnToOwner_frame (s : State) (c : Chan) (e : Entry) (r : Deferral) (d : DropReason) :
    (s.returnToOwner check c e r d).frame = s.frame := by
  unfold State.returnToOwner
  split
  · exact State.setBack_frame check hc s _ r
  · split <;> simp
  · split <;> simp
  · simp
  · simp
  · rfl
  · rfl

theorem State.offerWith_frame (s : State) (c : Chan) (e : Entry) (fresh : Bool) (yes : State → State)
    (no : State → Deferral → State) (hy : ∀ t, (yes t).frame = t.frame) (hn : ∀ t r, (no t r).frame = t.frame) :
    (s.offerWith check c e fresh yes no).frame = s.frame := by
  have h := s.tryAdmit_frame c e fresh
  unfold State.offerWith
  split <;> simp_all [State.returnToOwner_frame check hc]

theorem State.offerHeadWith_frame (s : State) (slot : Nat) : (s.offerHeadWith check slot).frame = s.frame := by
  have h1 := fun (t : State) n => t.modOrderIn_frame n .assigned
    (fun o => { o with state := .sent, link := some .queued, deferral := none })
    fun o ho => by simp [Order.frame, ho, OrderState.movable]
  have h2 := fun (t : State) n r => t.modOrderIn_deferral n .assigned r rfl
  unfold State.offerHeadWith
  split <;> (try split) <;> (try split) <;> (try split) <;> (try simp [h2])
  exact State.offerWith_frame check hc s _ _ _ _ _ (fun t => by simp [h1]) fun t r => by simp [h2]

end

/-- Placing an order in a list adds it and moves no other. -/
theorem State.placeIn_perm (s : State) (n : Nat) (l : List Nat) : (s.placeIn n l).Perm (n :: l) := by
  induction l with
  | nil => exact .refl _
  | cons m ms ih =>
    simp only [State.placeIn]
    split
    · exact .refl _
    · exact (List.Perm.cons m ih).trans (List.Perm.swap n m ms)

/-- Placing an order in a crew queue adds it. -/
theorem State.placed_perm (s : State) (n : Nat) (l : List Nat) : (s.placed n l).Perm (n :: l) := by
  cases l with
  | nil => exact .refl _
  | cons h rest =>
    simp only [State.placed]
    split
    · exact (s.placeIn_perm h rest).cons n
    · exact (List.Perm.cons h (s.placeIn_perm n rest)).trans (List.Perm.swap n h rest)

/-- A list of orders stands in the ordering of R24: none ranks before one that stands ahead of it. -/
def State.inRankOrder (s : State) (l : List Nat) : Prop :=
  l.Pairwise fun m n => ranksBefore (s.rankOf n) (s.rankOf m) = false

theorem ranksBefore_trans {a b c : Nat × Nat} (hab : ranksBefore a b = true) (hcb : ranksBefore c b = false) :
    ranksBefore c a = false := by
  simp [ranksBefore] at *
  omega

/-- Placing keeps the ordering of R24. -/
theorem State.placeIn_inRankOrder (s : State) (n : Nat) {l : List Nat} (h : s.inRankOrder l) : s.inRankOrder (s.placeIn n l) := by
  induction l with
  | nil => simp [State.placeIn, State.inRankOrder]
  | cons m ms ih =>
    obtain ⟨hm, hms⟩ := List.pairwise_cons.1 h
    simp only [State.placeIn]
    split
    · rename_i hb
      refine List.pairwise_cons.2 ⟨fun x hx => ?_, h⟩
      rcases List.mem_cons.1 hx with rfl | hx
      · exact ranksBefore_trans hb (by simp [ranksBefore])
      · exact ranksBefore_trans hb (hm x hx)
    · rename_i hb
      refine List.pairwise_cons.2 ⟨fun x hx => ?_, ih hms⟩
      rcases List.mem_cons.1 ((s.placeIn_perm n ms).subset hx) with rfl | hx
      · simpa using hb
      · exact hm x hx

/-- After a placement the entries after the head stand in the ordering of R24, if they did before (R24, R25). -/
theorem State.placed_inRankOrder (s : State) (n : Nat) {l : List Nat} (h : s.inRankOrder l.tail) :
    s.inRankOrder (s.placed n l).tail := by
  cases l with
  | nil => exact .nil
  | cons m rest =>
    simp only [State.placed]
    split
    · exact s.placeIn_inRankOrder m h
    · exact s.placeIn_inRankOrder n h

/-- After a preemption they do as well (R36). -/
theorem State.secondFirst_inRankOrder (s : State) {l : List Nat} (h : s.inRankOrder l.tail) :
    s.inRankOrder (s.secondFirst l).tail := by
  unfold State.secondFirst
  split
  · exact s.placeIn_inRankOrder _ (List.pairwise_cons.1 h).2
  · exact h

theorem State.secondFirst_perm (s : State) (l : List Nat) : (s.secondFirst l).Perm l := by
  unfold State.secondFirst
  split
  · rename_i h e rest
    exact (List.Perm.cons e (s.placeIn_perm h rest)).trans (List.Perm.swap h e rest)
  · exact .refl _

/-- Two queues with the same orders have one sorted form. -/
theorem mergeSort_eq_of_perm {l m : List Nat} (h : l.Perm m) :
    l.mergeSort (fun a b => decide (a ≤ b)) = m.mergeSort (fun a b => decide (a ≤ b)) := by
  refine List.Perm.eq_of_pairwise (le := fun a b => a ≤ b) (fun a b _ _ h1 h2 => Nat.le_antisymm h1 h2) ?_ ?_
    (((List.mergeSort_perm l _).trans h).trans (List.mergeSort_perm m _).symm)
  · simpa using List.pairwise_mergeSort (le := fun a b => decide (a ≤ b)) (by simp; omega) (by simp; omega) l
  · simpa using List.pairwise_mergeSort (le := fun a b => decide (a ≤ b)) (by simp; omega) (by simp; omega) m

theorem Crew.frame_queue_perm (k : Crew) {q q' : List Nat} (w : Option (Nat × Nat)) (h : q'.Perm q) :
    Crew.frame { k with queue := q', waitingFor := w } = Crew.frame { k with queue := q } := by
  simp only [Crew.frame, mergeSort_eq_of_perm h]

theorem State.displaceHead_frame (s : State) (slot : Nat) (h : Order) (hh : h.state.movable = true) :
    (s.displaceHead slot h).frame = s.frame := by
  have hm : OrderState.movable .assigned = true := rfl
  have h2 := fun (t : State) => t.modOrderIn_frame h.number h.state
    (fun o => { o with state := .assigned, link := none, acceptance := none, unanswered := false, deferral := none })
    fun o ho => by simp [Order.frame, ho, hh, hm]
  have h3 := fun (t : State) => t.modCrew_frame slot (fun k => { k with queue := t.secondFirst k.queue, waitingFor := none })
    fun k => k.frame_queue_perm _ (t.secondFirst_perm k.queue)
  unfold State.displaceHead
  dsimp only
  split <;> split <;> simp [h2, h3]

@[simp] theorem State.checkFueled_frame (fuel : Nat) (s : State) (slot : Nat) : (s.checkFueled fuel slot).frame = s.frame := by
  induction fuel generalizing s slot with
  | zero => rfl
  | succ fuel ih =>
    unfold State.checkFueled
    split
    · rfl
    · split
      · simp
      · rename_i h e _
        have hp : h.state.movable = true →
            (State.offerHeadWith (State.checkFueled fuel) (s.displaceHead slot h) slot).frame = s.frame := fun hh => by
          rw [State.offerHeadWith_frame _ ih, State.displaceHead_frame s slot h hh]
        dsimp only
        split
        all_goals first
          | rfl
          | (rename_i hs _; exact hp (by rw [hs]; rfl))
          | (rename_i hs; exact hp (by rw [hs]; rfl))
          | (split <;> simp)

@[simp] theorem State.check_frame (s : State) (slot : Nat) : (s.check slot).frame = s.frame := s.checkFueled_frame 65 slot

theorem State.offer_frame (s : State) (c : Chan) (e : Entry) (fresh : Bool) (yes : State → State)
    (no : State → Deferral → State) (hy : ∀ t, (yes t).frame = t.frame) (hn : ∀ t r, (no t r).frame = t.frame) :
    (s.offer c e fresh yes no).frame = s.frame := State.offerWith_frame _ State.check_frame s c e fresh yes no hy hn

@[simp] theorem State.offerHead_frame (s : State) (slot : Nat) : (s.offerHead slot).frame = s.frame := by
  unfold State.offerHead
  rw [State.check_frame, State.offerHeadWith_frame _ State.check_frame]

/-- Placing an order adds it to the crew's queue, and is traffic otherwise. -/
theorem State.placeOrder_frame (s : State) (slot n : Nat) :
    (s.placeOrder slot n).frame = (s.modCrew slot fun k => { k with queue := n :: k.queue }).frame := by
  have hq : (s.modCrew slot fun k => { k with queue := s.placed n k.queue }).frame
      = (s.modCrew slot fun k => { k with queue := n :: k.queue }).frame := by
    simp only [State.frame, State.modCrew, tMod, List.map_map]
    congr 1
    refine List.map_congr_left fun k _ => ?_
    simp only [Function.comp_apply]
    split
    · exact k.frame_queue_perm k.waitingFor (s.placed_perm n k.queue)
    · rfl
  unfold State.placeOrder
  split
  · rename_i hk
    have : ∀ k ∈ s.crews, k.slot ≠ slot := (tFind_none Crew.slot).1 hk
    have h0 : s.modCrew slot (fun k => { k with queue := n :: k.queue }) = s := by
      simp only [State.modCrew, tMod]
      rw [show (s.crews.map fun a => if a.slot = slot then { a with queue := n :: a.queue } else a) = s.crews from by
        conv_rhs => rw [← List.map_id s.crews]
        exact List.map_congr_left fun a ha => by simp [this a ha]]
    rw [h0]
  · dsimp only
    split
    · rw [State.offerHeadWith_frame _ State.check_frame]
      split
      · rw [State.modOrderIn_deferral _ _ _ _ rfl]; exact hq
      · exact hq
    · exact hq

/-- Leaving a crew queue takes the order from it, and is traffic otherwise. -/
theorem State.leaveQueue_frame (s : State) (slot n : Nat) :
    (s.leaveQueue slot n).frame = (s.modCrew slot fun k => { k with queue := k.queue.erase n }).frame := by
  have hq : (s.modCrew slot fun k =>
        { k with
          queue := k.queue.erase n
          waitingFor := if k.waitingFor.any fun w => w.1 == n || w.2 == n then none else k.waitingFor }).frame
      = (s.modCrew slot fun k => { k with queue := k.queue.erase n }).frame := by
    simp only [State.frame, State.modCrew, tMod, List.map_map]
    congr 1
    refine List.map_congr_left fun k _ => ?_
    simp only [Function.comp_apply]
    split <;> rfl
  unfold State.leaveQueue
  split
  · rename_i hk
    have : ∀ k ∈ s.crews, k.slot ≠ slot := (tFind_none Crew.slot).1 hk
    have h0 : s.modCrew slot (fun k => { k with queue := k.queue.erase n }) = s := by
      simp only [State.modCrew, tMod]
      rw [show (s.crews.map fun a => if a.slot = slot then { a with queue := a.queue.erase n } else a) = s.crews from by
        conv_rhs => rw [← List.map_id s.crews]
        exact List.map_congr_left fun a ha => by simp [this a ha]]
    rw [h0]
  · dsimp only
    split
    · rw [State.check_frame, State.syncOrderDefer_frame, State.offerHeadWith_frame _ State.check_frame]; exact hq
    · split
      · rw [State.check_frame]; exact hq
      · exact hq

/-! ### Follow-ups -/

@[simp] theorem State.offerFollowUp_frame (s : State) (n : Nat) : (s.offerFollowUp n).frame = s.frame := by
  unfold State.offerFollowUp
  split
  · rfl
  · split
    · exact s.offer_frame _ _ _ _ _ (fun t => by simp) fun t r => by simp
    · rfl

@[simp] theorem State.offerOwedAndHead_frame (s : State) (slot : Nat) : (s.offerOwedAndHead slot).frame = s.frame := by
  have h1 := State.foldl_frame (fun t n => State.offerFollowUp t n) (fun t n => t.offerFollowUp_frame n) (s.owedOf slot) s
  unfold State.offerOwedAndHead
  dsimp only
  split <;> (try split) <;> simp [h1]

end Sys2Proof.Machine
end

