-- ==== Sys2Proof/Laws/Traffic.lean ====
section
/-! SUPPORT. The traffic of telegrams keeps the frame of the state, continued: prompts, permit telegrams, space signals, the alarm call, migration, and the course of an attempt. -/

namespace Sys2Proof.Machine

/-! ### Prompts (R112, R6) -/

section
variable (s : State)

@[simp] theorem State.offerPrompt_frame (badge : Nat) (overdue : Bool) : (s.offerPrompt badge overdue).frame = s.frame := by
  unfold State.offerPrompt
  split
  · rfl
  · split
    · rfl
    · split
      · simp
      · exact s.offer_frame _ _ _ _ _ (fun t => by simp) fun t r => by simp

@[simp] theorem State.strike_frame (slot badge : Nat) : (s.strike slot badge).frame = s.frame := by
  unfold State.strike; split <;> simp

@[simp] theorem State.leadPrompt_frame (badge : Nat) : (s.leadPrompt badge).frame = s.frame := by
  unfold State.leadPrompt; split <;> (try split) <;> simp

/-! ### Permit telegrams (R67, R68, R69) -/

@[simp] theorem State.offerPermit_frame (serial : Nat) (tg : PermitTg) : (s.offerPermit serial tg).frame = s.frame := by
  unfold State.offerPermit
  split
  · rfl
  · split
    · exact s.offer_frame _ _ _ _ _ (fun t => by simp) fun t r => by simp
    · rfl

@[simp] theorem State.takeBack_frame (serial : Nat) (tg : PermitTg) : (s.takeBack serial tg).frame = s.frame := by
  unfold State.takeBack; split <;> simp

end

@[simp] theorem State.offerDeferredOf_frame (serial : Nat) (tgs : List PermitTg) (s : State) :
    (State.offerDeferredOf serial tgs s).1.frame = s.frame := by
  induction tgs generalizing s with
  | nil => rfl
  | cons tg more ih =>
    simp only [State.offerDeferredOf]
    split
    · split <;> simp [ih]
    · exact ih s

@[simp] theorem State.offerDeferred_frame (s : State) (serial : Nat) : (s.offerDeferred serial).1.frame = s.frame :=
  State.offerDeferredOf_frame serial _ s

@[simp] theorem State.freeAnswer_frame (s : State) (slot serial : Nat) (r : SurrenderReason) :
    (s.freeAnswer slot serial r).frame = s.frame := by
  unfold State.freeAnswer
  split
  · rfl
  · exact s.offer_frame _ _ _ _ _ (fun _ => rfl) fun _ _ => rfl

/-! ### Space signals (R69, R30, R171) -/

@[simp] theorem State.permitWalk_frame (c : Chan) (fuel : Nat) (s : State) : (State.permitWalk c fuel s).frame = s.frame := by
  induction fuel generalizing s with
  | zero => rfl
  | succ fuel ih =>
    simp only [State.permitWalk]
    split
    · rfl
    · rename_i serial _ _
      have h := s.offerDeferred_frame serial
      split <;> simp_all

@[simp] theorem State.offerOwed_frame (l : List Nat) (s : State) : (State.offerOwed l s).1.frame = s.frame := by
  induction l generalizing s with
  | nil => rfl
  | cons n more ih =>
    simp only [State.offerOwed]
    split
    · simp
    · rw [ih, State.offerFollowUp_frame]

@[simp] theorem State.walkCrew_frame (s : State) (slot : Nat) : (s.walkCrew slot).1.frame = s.frame := by
  have h := State.offerOwed_frame (s.owedOf slot) s
  have hd := fun (t : State) n d => t.modOrderIn_deferral n .assigned d rfl
  unfold State.walkCrew
  split <;> split <;> (try split) <;> (try split) <;> simp_all

@[simp] theorem State.orderWalk_frame (c : Chan) (fuel place : Nat) (s : State) :
    (State.orderWalk c fuel place s).frame = s.frame := by
  induction fuel generalizing s place with
  | zero => rfl
  | succ fuel ih =>
    simp only [State.orderWalk]
    split
    · rfl
    · rename_i slot _
      have h := s.walkCrew_frame slot
      split <;> simp_all

@[simp] theorem State.giveSignal_frame (s : State) (c : Chan) : (s.giveSignal c).frame = s.frame := by
  simp [State.giveSignal]

@[simp] theorem State.deliverSignals_frame (fuel : Nat) (s : State) : (s.deliverSignals fuel).frame = s.frame := by
  induction fuel generalizing s with
  | zero => rfl
  | succ fuel ih =>
    simp only [State.deliverSignals]
    split
    · rfl
    · rw [ih, State.inOpenOrder_frame _ _ _ fun t c => t.giveSignal_frame c, State.signals_frame]

@[simp] theorem State.giveSignals_frame (s : State) : s.giveSignals.frame = s.frame := s.deliverSignals_frame _

/-- With no signal owed, none is given. -/
theorem State.giveSignals_none {s : State} (h : s.signals = []) : s.giveSignals = s := by
  simp [State.giveSignals, signalRounds, State.deliverSignals, h]

/-- After the signals have been given none is owed. -/
@[simp] theorem State.deliverSignals_signals (fuel : Nat) (s : State) : (s.deliverSignals fuel).signals = [] := by
  induction fuel generalizing s with
  | zero => rfl
  | succ fuel ih =>
    simp only [State.deliverSignals]
    split
    · simp_all
    · exact ih _

@[simp] theorem State.giveSignals_signals (s : State) : s.giveSignals.signals = [] := s.deliverSignals_signals _

/-! ### The alarm call (R120, R121) and migration (R174, R175) -/

section
variable (s : State)

@[simp] theorem State.arm_frame (c : Chan) : (s.arm c).frame = s.frame := by
  unfold State.arm
  split
  · rfl
  · split
    · simp
    · exact s.offer_frame _ _ _ _ _ (fun _ => rfl) fun _ _ => rfl

@[simp] theorem State.settleCall_frame (c : Chan) : (s.settleCall c).frame = s.frame := by
  unfold State.settleCall; split <;> simp

theorem State.armAll_frame (cs : List Chan) : (s.inOpenOrder cs State.arm).frame = s.frame :=
  s.inOpenOrder_frame cs _ fun t c => t.arm_frame c

@[simp] theorem State.back_frame (c : Chan) (e : Entry) (r : Deferral) (d : DropReason) :
    (s.returnToOwner State.check c e r d).frame = s.frame := State.returnToOwner_frame _ State.check_frame s c e r d

@[simp] theorem State.migrate_frame (b : Chan) (e : Entry) : (s.migrate b e).frame = s.frame :=
  s.offer_frame _ _ _ _ _ (fun _ => rfl) fun t r => by simp

@[simp] theorem State.migrateCrew_frame (slot : Nat) (a b : Chan) : (s.migrateCrew slot a b).frame = s.frame := by
  unfold State.migrateCrew
  dsimp only
  rw [State.foldl_frame _ fun t e => t.migrate_frame b e]
  simp

@[simp] theorem State.moveDeferrals_frame (slot : Nat) (a b : Chan) : (s.moveDeferrals slot a b).frame = s.frame := by
  simp [State.moveDeferrals]

@[simp] theorem State.offerPermitsOf_frame (slot : Nat) (b : Chan) : (s.offerPermitsOf slot b).frame = s.frame := by
  unfold State.offerPermitsOf
  exact State.foldl_frame _ (fun t serial => by simp) _ s

/-! ### Attempts -/

@[simp] theorem State.modFlying_frame (c : Chan) (f : Entry → Entry) : (s.modFlying c f).frame = s.frame := by
  simp [State.modFlying]

@[simp] theorem State.tellOwner_frame (e : Entry) (b : Bool) : (s.tellOwner e b).frame = s.frame := by
  unfold State.tellOwner; split <;> (try split) <;> simp

@[simp] theorem State.checkCrewOf_frame (n : Nat) : (s.checkCrewOf n).frame = s.frame := by
  unfold State.checkCrewOf; split <;> simp

@[simp] theorem State.unlinkOrder_frame (n : Nat) : (s.unlinkOrder n).frame = s.frame := by simp [State.unlinkOrder]

@[simp] theorem State.endUnlinked_frame (e : Entry) : (s.endUnlinked e).frame = s.frame := by
  unfold State.endUnlinked; split <;> simp

@[simp] theorem State.endOrphan_frame (c : Chan) (e : Entry) (r : Result) : (s.endOrphan c e r).frame = s.frame := by
  unfold State.endOrphan; dsimp only; split <;> simp

@[simp] theorem State.requeue_frame (c : Chan) (e : Entry) : (s.requeue c e).frame = s.frame := by
  unfold State.requeue
  dsimp only
  split <;> split <;> (try split) <;> simp

@[simp] theorem State.endSent_frame (c : Chan) (e : Entry) : (s.endSent c e).frame = s.frame := by
  unfold State.endSent
  split <;> (try dsimp only) <;> simp

@[simp] theorem State.flushEntry_frame (c : Chan) (e : Entry) : (s.flushEntry c e).frame = s.frame := by
  unfold State.flushEntry
  dsimp only
  split <;> (try split) <;> simp

@[simp] theorem State.migrateStrays_frame (c : Chan) : (s.migrateStrays c).frame = s.frame := by
  unfold State.migrateStrays
  exact State.foldl_frame _ (fun t e => by split <;> simp) _ s

end

theorem State.foldl_fst_frame {α β : Type} (f : State × β → α → State × β) (h : ∀ p a, (f p a).1.frame = p.1.frame) (l : List α)
    (p : State × β) : (l.foldl f p).1.frame = p.1.frame := by
  induction l generalizing p with
  | nil => rfl
  | cons a as ih => simp only [List.foldl_cons, ih, h]

@[simp] theorem State.flush_frame (s : State) (c : Chan) : (s.flush c).1.frame = s.frame := by
  unfold State.flush
  exact State.foldl_fst_frame _ (fun p e => by
    obtain ⟨t, n⟩ := p
    dsimp only
    split
    · split <;> simp
    · rfl) _ _

/-- Abandoning an attempt ends the attempt record, and is traffic otherwise (R152). -/
theorem State.abandon_frame (s : State) (c : Chan) :
    (s.abandon c).frame = (if (s.flying c).isSome then s.modChan c fun ch => { ch with attempt := none } else s).frame := by
  unfold State.abandon
  split
  · simp [*]
  · rename_i e he
    simp only [he, Option.isSome_some, if_true]
    split
    · simp
    · split
      · simp
      · split <;> simp

end Sys2Proof.Machine
end

