-- ==== Sys2Proof/Laws/Bounds.lean ====
section
/-! SUPPORT. The limits of what the part stores (Safety.lean, State.bounded): every operation of the traffic of telegrams keeps them. -/

namespace Sys2Proof.Machine

/-! ### Notices (R202) -/

theorem dropOldestOrdinary_length {l m : List Notice} (h : dropOldestOrdinary l = some m) : m.length + 1 = l.length := by
  induction l generalizing m with
  | nil => simp [dropOldestOrdinary] at h
  | cons n ns ih =>
    simp only [dropOldestOrdinary] at h
    split at h
    · obtain ⟨a, ha, rfl⟩ := Option.map_eq_some_iff.1 h
      simp [ih ha]
    · simp_all

/-- Posting a notice keeps the Notice Queue at 64 or fewer. -/
theorem State.post_notices_le (s : State) (n : Subject) (h : s.notices.length ≤ 64) : (s.post n).notices.length ≤ 64 := by
  unfold State.post
  split
  · simp; omega
  · split
    · split
      · rename_i m hm
        have := dropOldestOrdinary_length hm
        simp; omega
      · exact h
    · exact h

/-! ### Updates -/

section
variable {s : State}

@[simp] theorem State.post_bounded (n : Subject) (h : s.bounded) : (s.post n).bounded :=
  ⟨s.post_notices_le n h.1, fun c => by simpa using h.2 c⟩

@[simp] theorem State.modCrew_bounded (slot : Nat) (f : Crew → Crew) (h : s.bounded) : (s.modCrew slot f).bounded := h
@[simp] theorem State.modWorker_bounded (badge : Nat) (f : Worker → Worker) (h : s.bounded) : (s.modWorker badge f).bounded := h
@[simp] theorem State.modOrder_bounded (n : Nat) (f : Order → Order) (h : s.bounded) : (s.modOrder n f).bounded := h
@[simp] theorem State.modOrderIn_bounded (n : Nat) (st : OrderState) (f : Order → Order) (h : s.bounded) :
    (s.modOrderIn n st f).bounded := h
@[simp] theorem State.modDevice_bounded (n : Nat) (f : Device → Device) (h : s.bounded) : (s.modDevice n f).bounded := h
@[simp] theorem State.modPermit_bounded (n : Nat) (f : Permit → Permit) (h : s.bounded) : (s.modPermit n f).bounded := h
@[simp] theorem State.withSignals_bounded (l : List Chan) (h : s.bounded) : (s.withSignals l).bounded := h
@[simp] theorem State.withOwed_bounded (l : List Nat) (h : s.bounded) : (s.withOwed l).bounded := h
@[simp] theorem State.withAlarmOrder_bounded (l : List AlarmRef) (h : s.bounded) : (s.withAlarmOrder l).bounded := h

@[simp] theorem State.ite_bounded {p : Prop} [Decidable p] {a b : State} (ha : a.bounded) (hb : b.bounded) :
    (if p then a else b).bounded := by split <;> assumption

theorem State.modChan_bounded_of (c : Chan) (f : Channel → Channel) (hf : ∀ ch, ch.bounded → (f ch).bounded) (h : s.bounded) :
    (s.modChan c f).bounded := by
  refine ⟨h.1, fun d => ?_⟩
  rw [State.modChan_chan]
  split
  · exact hf _ (h.2 d)
  · exact h.2 d

theorem State.modChans_bounded_of (f : Channel → Channel) (hf : ∀ ch, ch.bounded → (f ch).bounded) (h : s.bounded) :
    (s.modChans f).bounded := ⟨h.1, fun d => by rw [State.modChans_chan]; exact hf _ (h.2 d)⟩

/-- A change to a channel that puts no entry in its queue and no message in its mailbox. -/
theorem State.modChan_bounded (c : Chan) (f : Channel → Channel)
    (hq : ∀ ch, (f ch).queue.length ≤ ch.queue.length) (hm : ∀ ch, (f ch).mailbox.length ≤ ch.mailbox.length)
    (h : s.bounded) : (s.modChan c f).bounded :=
  State.modChan_bounded_of c f (fun ch hch => ⟨(hq ch).trans hch.1, (hm ch).trans hch.2⟩) h

theorem State.modChans_bounded (f : Channel → Channel)
    (hq : ∀ ch, (f ch).queue.length ≤ ch.queue.length) (hm : ∀ ch, (f ch).mailbox.length ≤ ch.mailbox.length)
    (h : s.bounded) : (s.modChans f).bounded :=
  State.modChans_bounded_of f (fun ch hch => ⟨(hq ch).trans hch.1, (hm ch).trans hch.2⟩) h

/-- The changes that the traffic of telegrams makes to a queue, each in its form: none, an entry or some leaving, and entries
changed in their places. -/
@[simp] theorem State.modChan_lists_bounded (c : Chan) (fh : Channel → Bool) (pd od : Channel → List Nat) (h : s.bounded) :
    (s.modChan c fun ch => { ch with flowHold := fh ch, permitDefer := pd ch, orderDefer := od ch }).bounded :=
  State.modChan_bounded c _ (fun _ => le_refl _) (fun _ => le_refl _) h

@[simp] theorem State.modChan_erase_bounded (c : Chan) (e : Entry) (h : s.bounded) :
    (s.modChan c fun ch => { ch with queue := ch.queue.erase e }).bounded :=
  State.modChan_bounded c _ (fun _ => List.length_erase_le) (fun _ => le_refl _) h

@[simp] theorem State.modChan_filter_bounded (c : Chan) (p : Entry → Bool) (h : s.bounded) :
    (s.modChan c fun ch => { ch with queue := ch.queue.filter p }).bounded :=
  State.modChan_bounded c _ (fun _ => List.length_filter_le _ _) (fun _ => le_refl _) h

@[simp] theorem State.modChan_map_bounded (c : Chan) (f : Entry → Entry) (h : s.bounded) :
    (s.modChan c fun ch => { ch with queue := ch.queue.map f }).bounded :=
  State.modChan_bounded c _ (fun _ => by simp) (fun _ => le_refl _) h

@[simp] theorem State.modChans_map_bounded (f : Entry → Entry) (h : s.bounded) :
    (s.modChans fun ch => { ch with queue := ch.queue.map f }).bounded :=
  State.modChans_bounded _ (fun _ => by simp) (fun _ => le_refl _) h

theorem modFirst_length (p : Entry → Bool) (f : Entry → Entry) (l : List Entry) : (modFirst p f l).length = l.length := by
  induction l with
  | nil => rfl
  | cons e es ih => simp only [modFirst]; split <;> simp [ih]

@[simp] theorem State.modChan_first_bounded (c : Chan) (p : Entry → Bool) (f : Entry → Entry) (h : s.bounded) :
    (s.modChan c fun ch => { ch with queue := modFirst p f ch.queue }).bounded :=
  State.modChan_bounded c _ (fun _ => (modFirst_length p f _).le) (fun _ => le_refl _) h

theorem State.foldl_bounded {α : Type} (f : State → α → State) (hf : ∀ t a, t.bounded → (f t a).bounded) (l : List α)
    (h : s.bounded) : (l.foldl f s).bounded := by
  induction l generalizing s with
  | nil => exact h
  | cons a as ih => exact ih (hf s a h)

theorem State.inOpenOrder_bounded {α : Type} (l : List α) (f : State → α → State) (hf : ∀ t a, t.bounded → (f t a).bounded)
    (h : s.bounded) : (s.inOpenOrder l f).bounded := State.foldl_bounded f hf _ h

/-! ### Queues -/

@[simp] theorem insertEntry_length (e : Entry) (l : List Entry) : (insertEntry e l).length = l.length + 1 := by
  induction l with
  | nil => rfl
  | cons x xs ih => simp only [insertEntry]; split <;> simp [ih]

/-- An entry takes its place in the queue and no other moves. -/
theorem insertEntry_perm (e : Entry) (l : List Entry) : (insertEntry e l).Perm (e :: l) := by
  induction l with
  | nil => exact .refl _
  | cons x xs ih =>
    simp only [insertEntry]
    split
    · exact .refl _
    · exact (List.Perm.cons x ih).trans (List.Perm.swap e x xs)

@[simp] theorem State.signal_bounded (c : Chan) (h : s.bounded) : (s.signal c).bounded := by
  unfold State.signal; split <;> simp [h]

@[simp] theorem State.flowEval_bounded (c : Chan) (h : s.bounded) : (s.flowEval c).bounded := by
  unfold State.flowEval; split <;> (try split) <;> simp [h]

@[simp] theorem State.takeSeq_bounded (e : Entry) (h : s.bounded) : (s.takeSeq e).1.bounded := by
  unfold State.takeSeq; split <;> (try split) <;> simp [h]

@[simp] theorem State.takeSeq_chans (s : State) (e : Entry) : (s.takeSeq e).1.chans = s.chans := by
  unfold State.takeSeq; split <;> (try split) <;> rfl

/-- An entry enters a queue that has room. -/
theorem State.enqueue_bounded (c : Chan) (e : Entry) (h : s.bounded) (hc : (s.chan c).queue.length < 24) :
    (s.enqueue c e).bounded := by
  unfold State.enqueue
  refine State.flowEval_bounded _ ⟨h.1, fun d => ?_⟩
  rw [State.modChan_chan]
  split
  · subst_vars
    exact ⟨by simpa using hc, (h.2 _).2⟩
  · exact h.2 d

/-- A victim stands in the queue. -/
theorem victim_mem {q : List Entry} {cls : TgClass} {kind : TgKind} {v : Entry} (h : victim q cls kind = some v) : v ∈ q := by
  have hn : ∀ p v, newest p q = some v → v ∈ q := fun p v hv =>
    (List.mem_filter.1 (List.mem_of_getLast? hv)).1
  unfold victim at h
  split at h
  · exact hn _ _ h
  · rw [Option.or_eq_some_iff, Option.or_eq_some_iff] at h
    rcases h with h | ⟨_, h | ⟨_, h⟩⟩
    · exact hn _ _ h
    · exact hn _ _ h
    · split at h
      · simp at h
      · exact hn _ _ h
  · simp at h
  · simp at h

/-- An offer that is admitted finds room, or makes it by evicting an entry that stands in the queue (R165). -/
theorem verdict_room {ch : Channel} {cls : TgClass} {kind : TgKind} {v : Option Entry} (h : verdict ch cls kind = .ok v) :
    (v = none ∧ ch.queue.length < 24) ∨ ∃ x, v = some x ∧ x ∈ ch.queue ∧ 24 ≤ ch.queue.length := by
  unfold verdict at h
  split at h
  · refine .inl ⟨?_, by assumption⟩
    split at h
    · simpa using h.symm
    · simpa using h.symm
    all_goals (split at h <;> simp at h; exact h.symm)
  · split at h
    · rename_i hq _ x hx
      exact .inr ⟨x, by simpa using h.symm, victim_mem hx, by omega⟩
    · simp at h

/-- An offer never takes a queue above 24 entries: a victim leaves a full one first (R165, R166). -/
@[simp] theorem State.tryAdmit_bounded (c : Chan) (e : Entry) (fresh : Bool) (h : s.bounded) :
    (s.tryAdmit c e fresh).1.bounded := by
  have go : ∀ (t : State), t.bounded → (t.chan c).queue.length < 24 →
      ((if fresh then t.takeSeq e else (t, e)).1.enqueue c (if fresh then t.takeSeq e else (t, e)).2).bounded := fun t ht hl => by
    cases fresh
    · exact State.enqueue_bounded c e ht hl
    · exact State.enqueue_bounded c _ (State.takeSeq_bounded e ht) (by simpa [State.chan] using hl)
  unfold State.tryAdmit
  split
  · exact h
  · rename_i v hv
    rcases verdict_room hv with ⟨rfl, hl⟩ | ⟨x, rfl, hx, hl⟩
    · exact go s h hl
    · refine go _ (State.modChan_erase_bounded c x h) ?_
      have := (h.2 c).1
      rw [State.modChan_chan_same]
      simp only [List.length_erase_of_mem hx]
      omega

@[simp] theorem State.withdrawOn_bounded (c : Chan) (p : Entry → Bool) (h : s.bounded) : (s.withdrawOn c p).bounded := by
  unfold State.withdrawOn
  split
  · simp (maxDischargeDepth := 9) [h]
  · exact h

@[simp] theorem State.withdraw_bounded (p : Entry → Bool) (h : s.bounded) : (s.withdraw p).bounded :=
  State.foldl_bounded _ (fun _ c ht => State.withdrawOn_bounded c p ht) _ h

@[simp] theorem State.modEntries_bounded (p : Entry → Bool) (f : Entry → Entry) (h : s.bounded) : (s.modEntries p f).bounded := by
  simp [State.modEntries, h]

@[simp] theorem State.unlink_bounded (o : Owner) (h : s.bounded) : (s.unlink o).bounded := by simp [State.unlink, h]

@[simp] theorem State.removeEntry_bounded (c : Chan) (e : Entry) (h : s.bounded) : (s.removeEntry c e).bounded := by
  simp (maxDischargeDepth := 9) [State.removeEntry, h]

/-! ### Offers -/

@[simp] theorem State.syncOrderDefer_bounded (slot : Nat) (h : s.bounded) : (s.syncOrderDefer slot).bounded := by
  unfold State.syncOrderDefer; split <;> (try split) <;> (try split) <;> simp [h]

@[simp] theorem State.syncPermitDefer_bounded (serial : Nat) (h : s.bounded) : (s.syncPermitDefer serial).bounded := by
  unfold State.syncPermitDefer; split <;> (try split) <;> (try split) <;> (try split) <;> simp [h]

@[simp] theorem State.setTg_bounded (serial : Nat) (tg : PermitTg) (st : TgStatus) (h : s.bounded) :
    (s.setTg serial tg st).bounded := by simp [State.setTg, h]

@[simp] theorem State.oweFollowUp_bounded (n : Nat) (h : s.bounded) : (s.oweFollowUp n).bounded := by
  have h1 : ∀ (t : State), t.bounded → (if t.owed.contains n then t else t.withOwed (t.owed ++ [n])).bounded :=
    fun t ht => by split <;> simp [ht]
  unfold State.oweFollowUp
  split <;> (try split)
  · exact h
  · exact State.syncOrderDefer_bounded _ (h1 _ h)
  · exact h1 _ h

@[simp] theorem State.setFollowUp_bounded (n : Nat) (st : FollowStatus) (h : s.bounded) : (s.setFollowUp n st).bounded := by
  unfold State.setFollowUp; split <;> (try split) <;> simp (maxDischargeDepth := 9) [h]

@[simp] theorem State.setPrompts_bounded (slot : Nat) (body : Body) (st : PromptStatus) (h : s.bounded) :
    (s.setPrompts slot body st).bounded := by
  unfold State.setPrompts; split <;> exact h

@[simp] theorem State.textResult_bounded (c : Chan) (e : Entry) (r : TextOutcome) (h : s.bounded) :
    (s.textResult c e r).bounded := by
  unfold State.textResult; split <;> (try split) <;> simp [h]

section
variable (check : State → Nat → State) (hc : ∀ t slot, t.bounded → (check t slot).bounded)
include hc

theorem State.setBack_bounded (n : Nat) (r : Deferral) (h : s.bounded) : (s.setBack check n r).bounded := by
  unfold State.setBack
  split <;> (try split) <;> (try split) <;> first
    | exact hc _ _ (by simp (maxDischargeDepth := 9) [h])
    | simp (maxDischargeDepth := 9) [h]

theorem State.returnToOwner_bounded (c : Chan) (e : Entry) (r : Deferral) (d : DropReason) (h : s.bounded) :
    (s.returnToOwner check c e r d).bounded := by
  have h1 := fun n r => State.setBack_bounded check hc n r h
  unfold State.returnToOwner
  split <;> (try split) <;> simp [h, h1]

theorem State.offerWith_bounded (c : Chan) (e : Entry) (fresh : Bool) (yes : State → State)
    (no : State → Deferral → State) (hy : ∀ t, t.bounded → (yes t).bounded) (hn : ∀ t r, t.bounded → (no t r).bounded)
    (h : s.bounded) : (s.offerWith check c e fresh yes no).bounded := by
  have ht := State.tryAdmit_bounded c e fresh h
  unfold State.offerWith
  split <;> simp_all [State.returnToOwner_bounded check hc]

theorem State.offerHeadWith_bounded (slot : Nat) (h : s.bounded) : (s.offerHeadWith check slot).bounded := by
  unfold State.offerHeadWith
  split <;> (try split) <;> (try split) <;> (try split) <;> (try simp (maxDischargeDepth := 9) [h])
  exact State.offerWith_bounded check hc _ _ _ _ _ (fun t ht => by simp (maxDischargeDepth := 9) [ht])
    (fun t r ht => by simp (maxDischargeDepth := 9) [ht]) h

end

@[simp] theorem State.displaceHead_bounded (slot : Nat) (o : Order) (h : s.bounded) : (s.displaceHead slot o).bounded := by
  unfold State.displaceHead
  dsimp only
  split <;> split <;> simp (maxDischargeDepth := 9) [h]

end

@[simp] theorem State.checkFueled_bounded (fuel : Nat) (s : State) (slot : Nat) (h : s.bounded) :
    (s.checkFueled fuel slot).bounded := by
  induction fuel generalizing s slot with
  | zero => exact h
  | succ fuel ih =>
    have hp : ∀ o, (State.offerHeadWith (State.checkFueled fuel) (s.displaceHead slot o) slot).bounded := fun o =>
      State.offerHeadWith_bounded _ (fun t slot ht => ih t slot ht) _ (State.displaceHead_bounded slot o h)
    unfold State.checkFueled
    split
    · exact h
    · split
      · exact h
      · dsimp only
        split
        all_goals first
          | exact h
          | exact hp _
          | (split <;> simp [h])

section
variable {s : State}

@[simp] theorem State.check_bounded (slot : Nat) (h : s.bounded) : (s.check slot).bounded := s.checkFueled_bounded 65 slot h

theorem State.offer_bounded (c : Chan) (e : Entry) (fresh : Bool) (yes : State → State)
    (no : State → Deferral → State) (hy : ∀ t, t.bounded → (yes t).bounded) (hn : ∀ t r, t.bounded → (no t r).bounded)
    (h : s.bounded) : (s.offer c e fresh yes no).bounded :=
  State.offerWith_bounded _ (fun _ slot ht => State.check_bounded slot ht) c e fresh yes no hy hn h

@[simp] theorem State.offerHead_bounded (slot : Nat) (h : s.bounded) : (s.offerHead slot).bounded :=
  State.check_bounded slot (State.offerHeadWith_bounded _ (fun _ slot ht => State.check_bounded slot ht) slot h)

@[simp] theorem State.placeOrder_bounded (slot n : Nat) (h : s.bounded) : (s.placeOrder slot n).bounded := by
  unfold State.placeOrder
  split
  · exact h
  · dsimp only
    split
    · exact State.offerHeadWith_bounded _ (fun _ slot ht => State.check_bounded slot ht) slot
        (by split <;> exact h)
    · exact h

@[simp] theorem State.leaveQueue_bounded (slot n : Nat) (h : s.bounded) : (s.leaveQueue slot n).bounded := by
  unfold State.leaveQueue
  split
  · exact h
  · dsimp only
    split
    · exact State.check_bounded slot (State.syncOrderDefer_bounded slot
        (State.offerHeadWith_bounded _ (fun _ slot ht => State.check_bounded slot ht) slot h))
    · split
      · exact State.check_bounded slot h
      · exact h

@[simp] theorem State.offerFollowUp_bounded (n : Nat) (h : s.bounded) : (s.offerFollowUp n).bounded := by
  unfold State.offerFollowUp
  split
  · exact h
  · split
    · exact State.offer_bounded _ _ _ _ _ (fun t ht => State.setFollowUp_bounded _ _ ht)
        (fun t r ht => State.oweFollowUp_bounded _ ht) h
    · exact h

@[simp] theorem State.offerOwedAndHead_bounded (slot : Nat) (h : s.bounded) : (s.offerOwedAndHead slot).bounded := by
  have h1 := State.foldl_bounded (fun t n => State.offerFollowUp t n) (fun t n ht => State.offerFollowUp_bounded n ht)
    (s.owedOf slot) h
  unfold State.offerOwedAndHead
  dsimp only
  split <;> (try split) <;> simp [h1]

/-! ### Prompts, permit telegrams, space signals -/

@[simp] theorem State.offerPrompt_bounded (badge : Nat) (overdue : Bool) (h : s.bounded) :
    (s.offerPrompt badge overdue).bounded := by
  unfold State.offerPrompt
  split
  · exact h
  · split
    · exact h
    · split
      · simp [h]
      · exact State.offer_bounded _ _ _ _ _ (fun t ht => ht) (fun t r ht => ht) h

@[simp] theorem State.strike_bounded (slot badge : Nat) (h : s.bounded) : (s.strike slot badge).bounded := by
  unfold State.strike; split <;> simp (maxDischargeDepth := 9) [h]

@[simp] theorem State.leadPrompt_bounded (badge : Nat) (h : s.bounded) : (s.leadPrompt badge).bounded := by
  unfold State.leadPrompt; split <;> (try split) <;> simp [h]

@[simp] theorem State.offerPermit_bounded (serial : Nat) (tg : PermitTg) (h : s.bounded) : (s.offerPermit serial tg).bounded := by
  unfold State.offerPermit
  split
  · exact h
  · split
    · exact State.offer_bounded _ _ _ _ _ (fun t ht => State.setTg_bounded _ _ _ ht)
        (fun t r ht => State.setTg_bounded _ _ _ ht) h
    · exact h

@[simp] theorem State.takeBack_bounded (serial : Nat) (tg : PermitTg) (h : s.bounded) : (s.takeBack serial tg).bounded := by
  unfold State.takeBack; split <;> simp [h]

end

@[simp] theorem State.offerDeferredOf_bounded (serial : Nat) (tgs : List PermitTg) (s : State) (h : s.bounded) :
    (State.offerDeferredOf serial tgs s).1.bounded := by
  induction tgs generalizing s with
  | nil => exact h
  | cons tg more ih =>
    simp only [State.offerDeferredOf]
    split
    · split <;> simp [ih, h]
    · exact ih s h

section
variable {s : State}

@[simp] theorem State.offerDeferred_bounded (serial : Nat) (h : s.bounded) : (s.offerDeferred serial).1.bounded :=
  State.offerDeferredOf_bounded serial _ s h

@[simp] theorem State.freeAnswer_bounded (slot serial : Nat) (r : SurrenderReason) (h : s.bounded) :
    (s.freeAnswer slot serial r).bounded := by
  unfold State.freeAnswer
  split
  · exact h
  · exact State.offer_bounded _ _ _ _ _ (fun _ ht => ht) (fun _ _ ht => ht) h

end

@[simp] theorem State.permitWalk_bounded (c : Chan) (fuel : Nat) (s : State) (h : s.bounded) :
    (State.permitWalk c fuel s).bounded := by
  induction fuel generalizing s with
  | zero => exact h
  | succ fuel ih =>
    simp only [State.permitWalk]
    split
    · exact h
    · rename_i serial _ _
      have h := State.offerDeferred_bounded serial h
      split <;> simp_all

@[simp] theorem State.offerOwed_bounded (l : List Nat) (s : State) (h : s.bounded) : (State.offerOwed l s).1.bounded := by
  induction l generalizing s with
  | nil => exact h
  | cons n more ih =>
    simp only [State.offerOwed]
    split
    · simp [h]
    · exact ih _ (State.offerFollowUp_bounded n h)

@[simp] theorem State.walkCrew_bounded (s : State) (slot : Nat) (h : s.bounded) : (s.walkCrew slot).1.bounded := by
  have h := State.offerOwed_bounded (s.owedOf slot) s h
  unfold State.walkCrew
  split <;> split <;> (try split) <;> (try split) <;> simp_all

@[simp] theorem State.orderWalk_bounded (c : Chan) (fuel place : Nat) (s : State) (h : s.bounded) :
    (State.orderWalk c fuel place s).bounded := by
  induction fuel generalizing s place with
  | zero => exact h
  | succ fuel ih =>
    simp only [State.orderWalk]
    split
    · exact h
    · rename_i slot _
      have h := s.walkCrew_bounded slot h
      split <;> simp_all

@[simp] theorem State.giveSignal_bounded (s : State) (c : Chan) (h : s.bounded) : (s.giveSignal c).bounded := by
  simp [State.giveSignal, h]

@[simp] theorem State.deliverSignals_bounded (fuel : Nat) (s : State) (h : s.bounded) : (s.deliverSignals fuel).bounded := by
  induction fuel generalizing s with
  | zero => exact h
  | succ fuel ih =>
    simp only [State.deliverSignals]
    split
    · exact h
    · exact ih _ (State.inOpenOrder_bounded _ _ (fun t c ht => t.giveSignal_bounded c ht) (State.withSignals_bounded _ h))

@[simp] theorem State.giveSignals_bounded {s : State} (h : s.bounded) : s.giveSignals.bounded := s.deliverSignals_bounded _ h

/-! ### The alarm call, migration, attempts -/

section
variable {s : State}

@[simp] theorem State.arm_bounded (c : Chan) (h : s.bounded) : (s.arm c).bounded := by
  unfold State.arm
  split
  · exact h
  · split
    · simp [h]
    · exact State.offer_bounded _ _ _ _ _ (fun _ ht => ht) (fun _ _ ht => ht) h

@[simp] theorem State.settleCall_bounded (c : Chan) (h : s.bounded) : (s.settleCall c).bounded := by
  unfold State.settleCall; split <;> simp [h]

theorem State.armAll_bounded (cs : List Chan) (h : s.bounded) : (s.inOpenOrder cs State.arm).bounded :=
  State.inOpenOrder_bounded cs _ (fun _ c ht => State.arm_bounded c ht) h

@[simp] theorem State.back_bounded (c : Chan) (e : Entry) (r : Deferral) (d : DropReason) (h : s.bounded) :
    (s.returnToOwner State.check c e r d).bounded :=
  State.returnToOwner_bounded _ (fun _ slot ht => State.check_bounded slot ht) c e r d h

@[simp] theorem State.migrate_bounded (b : Chan) (e : Entry) (h : s.bounded) : (s.migrate b e).bounded :=
  State.offer_bounded _ _ _ _ _ (fun _ ht => ht) (fun _ _ ht => State.back_bounded _ _ _ _ ht) h

@[simp] theorem State.migrateCrew_bounded (slot : Nat) (a b : Chan) (h : s.bounded) : (s.migrateCrew slot a b).bounded := by
  unfold State.migrateCrew
  exact State.foldl_bounded _ (fun t e ht => State.migrate_bounded b e ht) _ (State.withdrawOn_bounded a _ h)

@[simp] theorem State.moveDeferrals_bounded (slot : Nat) (a b : Chan) (h : s.bounded) : (s.moveDeferrals slot a b).bounded := by
  simp [State.moveDeferrals, h]

@[simp] theorem State.offerPermitsOf_bounded (slot : Nat) (b : Chan) (h : s.bounded) : (s.offerPermitsOf slot b).bounded := by
  unfold State.offerPermitsOf
  exact State.foldl_bounded _ (fun t serial ht => State.offerDeferred_bounded serial ht) _ h

@[simp] theorem State.modFlying_bounded (c : Chan) (f : Entry → Entry) (h : s.bounded) : (s.modFlying c f).bounded := by
  simp [State.modFlying, h]

@[simp] theorem State.tellOwner_bounded (e : Entry) (b : Bool) (h : s.bounded) : (s.tellOwner e b).bounded := by
  unfold State.tellOwner; split <;> (try split) <;> simp [h]

@[simp] theorem State.checkCrewOf_bounded (n : Nat) (h : s.bounded) : (s.checkCrewOf n).bounded := by
  unfold State.checkCrewOf; split <;> simp [h]

@[simp] theorem State.unlinkOrder_bounded (n : Nat) (h : s.bounded) : (s.unlinkOrder n).bounded := by simp [State.unlinkOrder, h]

@[simp] theorem State.endUnlinked_bounded (e : Entry) (h : s.bounded) : (s.endUnlinked e).bounded := by
  unfold State.endUnlinked; split <;> simp [h]

@[simp] theorem State.endOrphan_bounded (c : Chan) (e : Entry) (r : Result) (h : s.bounded) : (s.endOrphan c e r).bounded := by
  unfold State.endOrphan; dsimp only; split <;> simp [h]

@[simp] theorem State.requeue_bounded (c : Chan) (e : Entry) (h : s.bounded) : (s.requeue c e).bounded := by
  unfold State.requeue
  dsimp only
  split <;> split <;> (try split) <;> simp (maxDischargeDepth := 12) [h]

@[simp] theorem State.endSent_bounded (c : Chan) (e : Entry) (h : s.bounded) : (s.endSent c e).bounded := by
  unfold State.endSent
  split <;> (try dsimp only) <;> (try split) <;> (try split) <;> (try split) <;> simp [h]

@[simp] theorem State.flushEntry_bounded (c : Chan) (e : Entry) (h : s.bounded) : (s.flushEntry c e).bounded := by
  unfold State.flushEntry
  dsimp only
  split <;> (try split) <;> simp (maxDischargeDepth := 12) [h]

@[simp] theorem State.migrateStrays_bounded (c : Chan) (h : s.bounded) : (s.migrateStrays c).bounded := by
  unfold State.migrateStrays
  exact State.foldl_bounded _ (fun t e ht => by split <;> simp (maxDischargeDepth := 12) [ht]) _ h

end

theorem State.foldl_fst_bounded {α β : Type} (f : State × β → α → State × β) (hf : ∀ p a, p.1.bounded → (f p a).1.bounded)
    (l : List α) (p : State × β) (h : p.1.bounded) : (l.foldl f p).1.bounded := by
  induction l generalizing p with
  | nil => exact h
  | cons a as ih => exact ih _ (hf p a h)

@[simp] theorem State.flush_bounded {s : State} (c : Chan) (h : s.bounded) : (s.flush c).1.bounded := by
  unfold State.flush
  exact State.foldl_fst_bounded _ (fun p e hp => by
    obtain ⟨t, n⟩ := p
    dsimp only at hp ⊢
    split
    · split <;> simp (maxDischargeDepth := 12) [hp]
    · exact hp) _ _ h

@[simp] theorem State.abandon_bounded {s : State} (c : Chan) (h : s.bounded) : (s.abandon c).bounded := by
  have h1 : ∀ e, ((s.modChan c fun ch => { ch with attempt := none }).modFlying c fun _ => e).bounded := fun e =>
    State.modFlying_bounded c _ (State.modChan_bounded c _ (fun _ => le_refl _) (fun _ => le_refl _) h)
  unfold State.abandon
  split <;> (try split) <;> (try split) <;> (try split) <;> simp (maxDischargeDepth := 12) [h, h1]

end Sys2Proof.Machine
end

