-- ==== Sys2Proof/Laws/Coarse.lean ====
section
/-! SUPPORT. What follows from the frame of the state being kept: the coarser frames and the shape (Safety.lean), for each operation of the traffic of telegrams. -/

namespace Sys2Proof.Machine

section
variable {s t : State}

theorem State.frameWatch_of_frame (h : s.frame = t.frame) : s.frameWatch = t.frameWatch := by
  have hw : ∀ u : State, u.workers.map Worker.frameWatch = u.frame.workers.map Worker.frameWatch := fun u => by
    simp [State.frame, Function.comp_def, Worker.frameWatch, Worker.frame]
  unfold State.frameWatch
  rw [hw s, hw t, h]

theorem State.framePermits_of_frameWatch (h : s.frameWatch = t.frameWatch) : s.framePermits = t.framePermits := by
  unfold State.framePermits
  rw [h]

theorem State.framePermits_of_frame (h : s.frame = t.frame) : s.framePermits = t.framePermits :=
  State.framePermits_of_frameWatch (State.frameWatch_of_frame h)

theorem State.frameMoves_of_frame (h : s.frame = t.frame) : s.frameMoves = t.frameMoves := by
  have hk : ∀ u : State, (u.crews.map fun k => { k.frame with current := 0 }) = u.frame.crews.map fun k => { k with current := 0 } :=
    fun u => by simp [State.frame, Function.comp_def]
  have hc : ∀ u : State, (u.chans.map fun ch => { ch.frame with alarmSet := [] }) = u.frame.chans.map fun ch => { ch with alarmSet := [] } :=
    fun u => rfl
  unfold State.frameMoves
  rw [hk s, hk t, hc s, hc t, h]

theorem State.shape_of_frame (h : s.frame = t.frame) : s.shape = t.shape := by
  have hs : ∀ u : State, u.shape = u.frame.shape := fun u => by
    simp [State.shape, State.frame, Function.comp_def]
  rw [hs s, hs t, h]

theorem State.shape_of_frameWatch (h : s.frameWatch = t.frameWatch) : s.shape = t.shape := by
  have hs : ∀ u : State, u.shape = u.frameWatch.shape := fun u => by
    simp [State.shape, State.frameWatch, State.frame, Function.comp_def, Worker.frameWatch]
  rw [hs s, hs t, h]

theorem State.shape_of_frameMoves (h : s.frameMoves = t.frameMoves) : s.shape = t.shape := by
  have hs : ∀ u : State, u.shape = u.frameMoves.shape := fun u => by
    simp [State.shape, State.frameMoves, State.frame, Function.comp_def]
  rw [hs s, hs t, h]

@[simp] theorem Worker.frameWatch_badge (w : Worker) : w.frameWatch.badge = w.badge := rfl

end

section
variable (s : State)

@[simp] theorem State.post_frameWatch (n : Subject) : (s.post n).frameWatch = s.frameWatch := State.frameWatch_of_frame (by simp)
@[simp] theorem State.post_framePermits (n : Subject) : (s.post n).framePermits = s.framePermits := State.framePermits_of_frame (by simp)
@[simp] theorem State.post_frameMoves (n : Subject) : (s.post n).frameMoves = s.frameMoves := State.frameMoves_of_frame (by simp)
@[simp] theorem State.post_shape (n : Subject) : (s.post n).shape = s.shape := State.shape_of_frame (by simp)

@[simp] theorem State.strike_frameWatch (slot badge : Nat) : (s.strike slot badge).frameWatch = s.frameWatch := State.frameWatch_of_frame (by simp)
@[simp] theorem State.strike_framePermits (slot badge : Nat) : (s.strike slot badge).framePermits = s.framePermits := State.framePermits_of_frame (by simp)
@[simp] theorem State.strike_frameMoves (slot badge : Nat) : (s.strike slot badge).frameMoves = s.frameMoves := State.frameMoves_of_frame (by simp)
@[simp] theorem State.strike_shape (slot badge : Nat) : (s.strike slot badge).shape = s.shape := State.shape_of_frame (by simp)

@[simp] theorem State.leadPrompt_frameWatch (badge : Nat) : (s.leadPrompt badge).frameWatch = s.frameWatch := State.frameWatch_of_frame (by simp)
@[simp] theorem State.leadPrompt_framePermits (badge : Nat) : (s.leadPrompt badge).framePermits = s.framePermits := State.framePermits_of_frame (by simp)
@[simp] theorem State.leadPrompt_frameMoves (badge : Nat) : (s.leadPrompt badge).frameMoves = s.frameMoves := State.frameMoves_of_frame (by simp)
@[simp] theorem State.leadPrompt_shape (badge : Nat) : (s.leadPrompt badge).shape = s.shape := State.shape_of_frame (by simp)

@[simp] theorem State.offerPrompt_frameWatch (badge : Nat) (od : Bool) : (s.offerPrompt badge od).frameWatch = s.frameWatch := State.frameWatch_of_frame (by simp)
@[simp] theorem State.offerPrompt_framePermits (badge : Nat) (od : Bool) : (s.offerPrompt badge od).framePermits = s.framePermits := State.framePermits_of_frame (by simp)
@[simp] theorem State.offerPrompt_frameMoves (badge : Nat) (od : Bool) : (s.offerPrompt badge od).frameMoves = s.frameMoves := State.frameMoves_of_frame (by simp)
@[simp] theorem State.offerPrompt_shape (badge : Nat) (od : Bool) : (s.offerPrompt badge od).shape = s.shape := State.shape_of_frame (by simp)

@[simp] theorem State.offerPermit_frameWatch (serial : Nat) (tg : PermitTg) : (s.offerPermit serial tg).frameWatch = s.frameWatch := State.frameWatch_of_frame (by simp)
@[simp] theorem State.offerPermit_framePermits (serial : Nat) (tg : PermitTg) : (s.offerPermit serial tg).framePermits = s.framePermits := State.framePermits_of_frame (by simp)
@[simp] theorem State.offerPermit_frameMoves (serial : Nat) (tg : PermitTg) : (s.offerPermit serial tg).frameMoves = s.frameMoves := State.frameMoves_of_frame (by simp)
@[simp] theorem State.offerPermit_shape (serial : Nat) (tg : PermitTg) : (s.offerPermit serial tg).shape = s.shape := State.shape_of_frame (by simp)

@[simp] theorem State.takeBack_frameWatch (serial : Nat) (tg : PermitTg) : (s.takeBack serial tg).frameWatch = s.frameWatch := State.frameWatch_of_frame (by simp)
@[simp] theorem State.takeBack_framePermits (serial : Nat) (tg : PermitTg) : (s.takeBack serial tg).framePermits = s.framePermits := State.framePermits_of_frame (by simp)
@[simp] theorem State.takeBack_frameMoves (serial : Nat) (tg : PermitTg) : (s.takeBack serial tg).frameMoves = s.frameMoves := State.frameMoves_of_frame (by simp)
@[simp] theorem State.takeBack_shape (serial : Nat) (tg : PermitTg) : (s.takeBack serial tg).shape = s.shape := State.shape_of_frame (by simp)

@[simp] theorem State.offerFollowUp_frameWatch (n : Nat) : (s.offerFollowUp n).frameWatch = s.frameWatch := State.frameWatch_of_frame (by simp)
@[simp] theorem State.offerFollowUp_framePermits (n : Nat) : (s.offerFollowUp n).framePermits = s.framePermits := State.framePermits_of_frame (by simp)
@[simp] theorem State.offerFollowUp_frameMoves (n : Nat) : (s.offerFollowUp n).frameMoves = s.frameMoves := State.frameMoves_of_frame (by simp)
@[simp] theorem State.offerFollowUp_shape (n : Nat) : (s.offerFollowUp n).shape = s.shape := State.shape_of_frame (by simp)

@[simp] theorem State.check_frameWatch (slot : Nat) : (s.check slot).frameWatch = s.frameWatch := State.frameWatch_of_frame (by simp)
@[simp] theorem State.check_framePermits (slot : Nat) : (s.check slot).framePermits = s.framePermits := State.framePermits_of_frame (by simp)
@[simp] theorem State.check_frameMoves (slot : Nat) : (s.check slot).frameMoves = s.frameMoves := State.frameMoves_of_frame (by simp)
@[simp] theorem State.check_shape (slot : Nat) : (s.check slot).shape = s.shape := State.shape_of_frame (by simp)

@[simp] theorem State.syncPermitDefer_frameWatch (serial : Nat) : (s.syncPermitDefer serial).frameWatch = s.frameWatch := State.frameWatch_of_frame (by simp)
@[simp] theorem State.syncPermitDefer_framePermits (serial : Nat) : (s.syncPermitDefer serial).framePermits = s.framePermits := State.framePermits_of_frame (by simp)
@[simp] theorem State.syncPermitDefer_frameMoves (serial : Nat) : (s.syncPermitDefer serial).frameMoves = s.frameMoves := State.frameMoves_of_frame (by simp)
@[simp] theorem State.syncPermitDefer_shape (serial : Nat) : (s.syncPermitDefer serial).shape = s.shape := State.shape_of_frame (by simp)

@[simp] theorem State.syncOrderDefer_frameWatch (slot : Nat) : (s.syncOrderDefer slot).frameWatch = s.frameWatch := State.frameWatch_of_frame (by simp)
@[simp] theorem State.syncOrderDefer_framePermits (slot : Nat) : (s.syncOrderDefer slot).framePermits = s.framePermits := State.framePermits_of_frame (by simp)
@[simp] theorem State.syncOrderDefer_frameMoves (slot : Nat) : (s.syncOrderDefer slot).frameMoves = s.frameMoves := State.frameMoves_of_frame (by simp)
@[simp] theorem State.syncOrderDefer_shape (slot : Nat) : (s.syncOrderDefer slot).shape = s.shape := State.shape_of_frame (by simp)

@[simp] theorem State.setTg_frameWatch (serial : Nat) (tg : PermitTg) (st : TgStatus) : (s.setTg serial tg st).frameWatch = s.frameWatch := State.frameWatch_of_frame (by simp)
@[simp] theorem State.setTg_framePermits (serial : Nat) (tg : PermitTg) (st : TgStatus) : (s.setTg serial tg st).framePermits = s.framePermits := State.framePermits_of_frame (by simp)
@[simp] theorem State.setTg_frameMoves (serial : Nat) (tg : PermitTg) (st : TgStatus) : (s.setTg serial tg st).frameMoves = s.frameMoves := State.frameMoves_of_frame (by simp)
@[simp] theorem State.setTg_shape (serial : Nat) (tg : PermitTg) (st : TgStatus) : (s.setTg serial tg st).shape = s.shape := State.shape_of_frame (by simp)

@[simp] theorem State.setFollowUp_frameWatch (n : Nat) (st : FollowStatus) : (s.setFollowUp n st).frameWatch = s.frameWatch := State.frameWatch_of_frame (by simp)
@[simp] theorem State.setFollowUp_framePermits (n : Nat) (st : FollowStatus) : (s.setFollowUp n st).framePermits = s.framePermits := State.framePermits_of_frame (by simp)
@[simp] theorem State.setFollowUp_frameMoves (n : Nat) (st : FollowStatus) : (s.setFollowUp n st).frameMoves = s.frameMoves := State.frameMoves_of_frame (by simp)
@[simp] theorem State.setFollowUp_shape (n : Nat) (st : FollowStatus) : (s.setFollowUp n st).shape = s.shape := State.shape_of_frame (by simp)

@[simp] theorem State.withdraw_frameWatch (p : Entry → Bool) : (s.withdraw p).frameWatch = s.frameWatch := State.frameWatch_of_frame (by simp)
@[simp] theorem State.withdraw_framePermits (p : Entry → Bool) : (s.withdraw p).framePermits = s.framePermits := State.framePermits_of_frame (by simp)
@[simp] theorem State.withdraw_frameMoves (p : Entry → Bool) : (s.withdraw p).frameMoves = s.frameMoves := State.frameMoves_of_frame (by simp)
@[simp] theorem State.withdraw_shape (p : Entry → Bool) : (s.withdraw p).shape = s.shape := State.shape_of_frame (by simp)

@[simp] theorem State.withdrawOn_frameWatch (c : Chan) (p : Entry → Bool) : (s.withdrawOn c p).frameWatch = s.frameWatch := State.frameWatch_of_frame (by simp)
@[simp] theorem State.withdrawOn_framePermits (c : Chan) (p : Entry → Bool) : (s.withdrawOn c p).framePermits = s.framePermits := State.framePermits_of_frame (by simp)
@[simp] theorem State.withdrawOn_frameMoves (c : Chan) (p : Entry → Bool) : (s.withdrawOn c p).frameMoves = s.frameMoves := State.frameMoves_of_frame (by simp)
@[simp] theorem State.withdrawOn_shape (c : Chan) (p : Entry → Bool) : (s.withdrawOn c p).shape = s.shape := State.shape_of_frame (by simp)

@[simp] theorem State.unlink_frameWatch (o : Owner) : (s.unlink o).frameWatch = s.frameWatch := State.frameWatch_of_frame (by simp)
@[simp] theorem State.unlink_framePermits (o : Owner) : (s.unlink o).framePermits = s.framePermits := State.framePermits_of_frame (by simp)
@[simp] theorem State.unlink_frameMoves (o : Owner) : (s.unlink o).frameMoves = s.frameMoves := State.frameMoves_of_frame (by simp)
@[simp] theorem State.unlink_shape (o : Owner) : (s.unlink o).shape = s.shape := State.shape_of_frame (by simp)

@[simp] theorem State.arm_frameWatch (c : Chan) : (s.arm c).frameWatch = s.frameWatch := State.frameWatch_of_frame (by simp)
@[simp] theorem State.arm_framePermits (c : Chan) : (s.arm c).framePermits = s.framePermits := State.framePermits_of_frame (by simp)
@[simp] theorem State.arm_frameMoves (c : Chan) : (s.arm c).frameMoves = s.frameMoves := State.frameMoves_of_frame (by simp)
@[simp] theorem State.arm_shape (c : Chan) : (s.arm c).shape = s.shape := State.shape_of_frame (by simp)

@[simp] theorem State.settleCall_frameWatch (c : Chan) : (s.settleCall c).frameWatch = s.frameWatch := State.frameWatch_of_frame (by simp)
@[simp] theorem State.settleCall_framePermits (c : Chan) : (s.settleCall c).framePermits = s.framePermits := State.framePermits_of_frame (by simp)
@[simp] theorem State.settleCall_frameMoves (c : Chan) : (s.settleCall c).frameMoves = s.frameMoves := State.frameMoves_of_frame (by simp)
@[simp] theorem State.settleCall_shape (c : Chan) : (s.settleCall c).shape = s.shape := State.shape_of_frame (by simp)

@[simp] theorem State.freeAnswer_frameWatch (slot serial : Nat) (r : SurrenderReason) : (s.freeAnswer slot serial r).frameWatch = s.frameWatch := State.frameWatch_of_frame (by simp)
@[simp] theorem State.freeAnswer_framePermits (slot serial : Nat) (r : SurrenderReason) : (s.freeAnswer slot serial r).framePermits = s.framePermits := State.framePermits_of_frame (by simp)
@[simp] theorem State.freeAnswer_frameMoves (slot serial : Nat) (r : SurrenderReason) : (s.freeAnswer slot serial r).frameMoves = s.frameMoves := State.frameMoves_of_frame (by simp)
@[simp] theorem State.freeAnswer_shape (slot serial : Nat) (r : SurrenderReason) : (s.freeAnswer slot serial r).shape = s.shape := State.shape_of_frame (by simp)

@[simp] theorem State.offerOwedAndHead_frameWatch (slot : Nat) : (s.offerOwedAndHead slot).frameWatch = s.frameWatch := State.frameWatch_of_frame (by simp)
@[simp] theorem State.offerOwedAndHead_framePermits (slot : Nat) : (s.offerOwedAndHead slot).framePermits = s.framePermits := State.framePermits_of_frame (by simp)
@[simp] theorem State.offerOwedAndHead_frameMoves (slot : Nat) : (s.offerOwedAndHead slot).frameMoves = s.frameMoves := State.frameMoves_of_frame (by simp)
@[simp] theorem State.offerOwedAndHead_shape (slot : Nat) : (s.offerOwedAndHead slot).shape = s.shape := State.shape_of_frame (by simp)

@[simp] theorem State.migrate_frameWatch (c : Chan) (e : Entry) : (s.migrate c e).frameWatch = s.frameWatch := State.frameWatch_of_frame (by simp)
@[simp] theorem State.migrate_framePermits (c : Chan) (e : Entry) : (s.migrate c e).framePermits = s.framePermits := State.framePermits_of_frame (by simp)
@[simp] theorem State.migrate_frameMoves (c : Chan) (e : Entry) : (s.migrate c e).frameMoves = s.frameMoves := State.frameMoves_of_frame (by simp)
@[simp] theorem State.migrate_shape (c : Chan) (e : Entry) : (s.migrate c e).shape = s.shape := State.shape_of_frame (by simp)

@[simp] theorem State.migrateCrew_frameWatch (slot : Nat) (a b : Chan) : (s.migrateCrew slot a b).frameWatch = s.frameWatch := State.frameWatch_of_frame (by simp)
@[simp] theorem State.migrateCrew_framePermits (slot : Nat) (a b : Chan) : (s.migrateCrew slot a b).framePermits = s.framePermits := State.framePermits_of_frame (by simp)
@[simp] theorem State.migrateCrew_frameMoves (slot : Nat) (a b : Chan) : (s.migrateCrew slot a b).frameMoves = s.frameMoves := State.frameMoves_of_frame (by simp)
@[simp] theorem State.migrateCrew_shape (slot : Nat) (a b : Chan) : (s.migrateCrew slot a b).shape = s.shape := State.shape_of_frame (by simp)

@[simp] theorem State.moveDeferrals_frameWatch (slot : Nat) (a b : Chan) : (s.moveDeferrals slot a b).frameWatch = s.frameWatch := State.frameWatch_of_frame (by simp)
@[simp] theorem State.moveDeferrals_framePermits (slot : Nat) (a b : Chan) : (s.moveDeferrals slot a b).framePermits = s.framePermits := State.framePermits_of_frame (by simp)
@[simp] theorem State.moveDeferrals_frameMoves (slot : Nat) (a b : Chan) : (s.moveDeferrals slot a b).frameMoves = s.frameMoves := State.frameMoves_of_frame (by simp)
@[simp] theorem State.moveDeferrals_shape (slot : Nat) (a b : Chan) : (s.moveDeferrals slot a b).shape = s.shape := State.shape_of_frame (by simp)

@[simp] theorem State.offerPermitsOf_frameWatch (slot : Nat) (b : Chan) : (s.offerPermitsOf slot b).frameWatch = s.frameWatch := State.frameWatch_of_frame (by simp)
@[simp] theorem State.offerPermitsOf_framePermits (slot : Nat) (b : Chan) : (s.offerPermitsOf slot b).framePermits = s.framePermits := State.framePermits_of_frame (by simp)
@[simp] theorem State.offerPermitsOf_frameMoves (slot : Nat) (b : Chan) : (s.offerPermitsOf slot b).frameMoves = s.frameMoves := State.frameMoves_of_frame (by simp)
@[simp] theorem State.offerPermitsOf_shape (slot : Nat) (b : Chan) : (s.offerPermitsOf slot b).shape = s.shape := State.shape_of_frame (by simp)

@[simp] theorem State.giveSignals_frameWatch : s.giveSignals.frameWatch = s.frameWatch := State.frameWatch_of_frame (by simp)
@[simp] theorem State.giveSignals_framePermits : s.giveSignals.framePermits = s.framePermits := State.framePermits_of_frame (by simp)
@[simp] theorem State.giveSignals_frameMoves : s.giveSignals.frameMoves = s.frameMoves := State.frameMoves_of_frame (by simp)
@[simp] theorem State.giveSignals_shape : s.giveSignals.shape = s.shape := State.shape_of_frame (by simp)

@[simp] theorem State.withSignals_frameWatch (l : List Chan) : (s.withSignals l).frameWatch = s.frameWatch := State.frameWatch_of_frame (by simp)
@[simp] theorem State.withSignals_framePermits (l : List Chan) : (s.withSignals l).framePermits = s.framePermits := State.framePermits_of_frame (by simp)
@[simp] theorem State.withSignals_frameMoves (l : List Chan) : (s.withSignals l).frameMoves = s.frameMoves := State.frameMoves_of_frame (by simp)
@[simp] theorem State.withSignals_shape (l : List Chan) : (s.withSignals l).shape = s.shape := State.shape_of_frame (by simp)

@[simp] theorem State.withOwed_frameWatch (l : List Nat) : (s.withOwed l).frameWatch = s.frameWatch := State.frameWatch_of_frame (by simp)
@[simp] theorem State.withOwed_framePermits (l : List Nat) : (s.withOwed l).framePermits = s.framePermits := State.framePermits_of_frame (by simp)
@[simp] theorem State.withOwed_frameMoves (l : List Nat) : (s.withOwed l).frameMoves = s.frameMoves := State.frameMoves_of_frame (by simp)
@[simp] theorem State.withOwed_shape (l : List Nat) : (s.withOwed l).shape = s.shape := State.shape_of_frame (by simp)

@[simp] theorem State.setPrompts_frameWatch (slot : Nat) (body : Body) (st : PromptStatus) : (s.setPrompts slot body st).frameWatch = s.frameWatch := State.frameWatch_of_frame (by simp)
@[simp] theorem State.setPrompts_framePermits (slot : Nat) (body : Body) (st : PromptStatus) : (s.setPrompts slot body st).framePermits = s.framePermits := State.framePermits_of_frame (by simp)
@[simp] theorem State.setPrompts_frameMoves (slot : Nat) (body : Body) (st : PromptStatus) : (s.setPrompts slot body st).frameMoves = s.frameMoves := State.frameMoves_of_frame (by simp)
@[simp] theorem State.setPrompts_shape (slot : Nat) (body : Body) (st : PromptStatus) : (s.setPrompts slot body st).shape = s.shape := State.shape_of_frame (by simp)

@[simp] theorem State.textResult_frameWatch (c : Chan) (e : Entry) (r : TextOutcome) : (s.textResult c e r).frameWatch = s.frameWatch := State.frameWatch_of_frame (by simp)
@[simp] theorem State.textResult_framePermits (c : Chan) (e : Entry) (r : TextOutcome) : (s.textResult c e r).framePermits = s.framePermits := State.framePermits_of_frame (by simp)
@[simp] theorem State.textResult_frameMoves (c : Chan) (e : Entry) (r : TextOutcome) : (s.textResult c e r).frameMoves = s.frameMoves := State.frameMoves_of_frame (by simp)
@[simp] theorem State.textResult_shape (c : Chan) (e : Entry) (r : TextOutcome) : (s.textResult c e r).shape = s.shape := State.shape_of_frame (by simp)

@[simp] theorem State.removeEntry_frameWatch (c : Chan) (e : Entry) : (s.removeEntry c e).frameWatch = s.frameWatch := State.frameWatch_of_frame (by simp)
@[simp] theorem State.removeEntry_framePermits (c : Chan) (e : Entry) : (s.removeEntry c e).framePermits = s.framePermits := State.framePermits_of_frame (by simp)
@[simp] theorem State.removeEntry_frameMoves (c : Chan) (e : Entry) : (s.removeEntry c e).frameMoves = s.frameMoves := State.frameMoves_of_frame (by simp)
@[simp] theorem State.removeEntry_shape (c : Chan) (e : Entry) : (s.removeEntry c e).shape = s.shape := State.shape_of_frame (by simp)

@[simp] theorem State.checkCrewOf_frameWatch (n : Nat) : (s.checkCrewOf n).frameWatch = s.frameWatch := State.frameWatch_of_frame (by simp)
@[simp] theorem State.checkCrewOf_framePermits (n : Nat) : (s.checkCrewOf n).framePermits = s.framePermits := State.framePermits_of_frame (by simp)
@[simp] theorem State.checkCrewOf_frameMoves (n : Nat) : (s.checkCrewOf n).frameMoves = s.frameMoves := State.frameMoves_of_frame (by simp)
@[simp] theorem State.checkCrewOf_shape (n : Nat) : (s.checkCrewOf n).shape = s.shape := State.shape_of_frame (by simp)

@[simp] theorem State.unlinkOrder_frameWatch (n : Nat) : (s.unlinkOrder n).frameWatch = s.frameWatch := State.frameWatch_of_frame (by simp)
@[simp] theorem State.unlinkOrder_framePermits (n : Nat) : (s.unlinkOrder n).framePermits = s.framePermits := State.framePermits_of_frame (by simp)
@[simp] theorem State.unlinkOrder_frameMoves (n : Nat) : (s.unlinkOrder n).frameMoves = s.frameMoves := State.frameMoves_of_frame (by simp)
@[simp] theorem State.unlinkOrder_shape (n : Nat) : (s.unlinkOrder n).shape = s.shape := State.shape_of_frame (by simp)

@[simp] theorem State.endUnlinked_frameWatch (e : Entry) : (s.endUnlinked e).frameWatch = s.frameWatch := State.frameWatch_of_frame (by simp)
@[simp] theorem State.endUnlinked_framePermits (e : Entry) : (s.endUnlinked e).framePermits = s.framePermits := State.framePermits_of_frame (by simp)
@[simp] theorem State.endUnlinked_frameMoves (e : Entry) : (s.endUnlinked e).frameMoves = s.frameMoves := State.frameMoves_of_frame (by simp)
@[simp] theorem State.endUnlinked_shape (e : Entry) : (s.endUnlinked e).shape = s.shape := State.shape_of_frame (by simp)

@[simp] theorem State.endOrphan_frameWatch (c : Chan) (e : Entry) (r : Result) : (s.endOrphan c e r).frameWatch = s.frameWatch := State.frameWatch_of_frame (by simp)
@[simp] theorem State.endOrphan_framePermits (c : Chan) (e : Entry) (r : Result) : (s.endOrphan c e r).framePermits = s.framePermits := State.framePermits_of_frame (by simp)
@[simp] theorem State.endOrphan_frameMoves (c : Chan) (e : Entry) (r : Result) : (s.endOrphan c e r).frameMoves = s.frameMoves := State.frameMoves_of_frame (by simp)
@[simp] theorem State.endOrphan_shape (c : Chan) (e : Entry) (r : Result) : (s.endOrphan c e r).shape = s.shape := State.shape_of_frame (by simp)

@[simp] theorem State.requeue_frameWatch (c : Chan) (e : Entry) : (s.requeue c e).frameWatch = s.frameWatch := State.frameWatch_of_frame (by simp)
@[simp] theorem State.requeue_framePermits (c : Chan) (e : Entry) : (s.requeue c e).framePermits = s.framePermits := State.framePermits_of_frame (by simp)
@[simp] theorem State.requeue_frameMoves (c : Chan) (e : Entry) : (s.requeue c e).frameMoves = s.frameMoves := State.frameMoves_of_frame (by simp)
@[simp] theorem State.requeue_shape (c : Chan) (e : Entry) : (s.requeue c e).shape = s.shape := State.shape_of_frame (by simp)

@[simp] theorem State.endSent_frameWatch (c : Chan) (e : Entry) : (s.endSent c e).frameWatch = s.frameWatch := State.frameWatch_of_frame (by simp)
@[simp] theorem State.endSent_framePermits (c : Chan) (e : Entry) : (s.endSent c e).framePermits = s.framePermits := State.framePermits_of_frame (by simp)
@[simp] theorem State.endSent_frameMoves (c : Chan) (e : Entry) : (s.endSent c e).frameMoves = s.frameMoves := State.frameMoves_of_frame (by simp)
@[simp] theorem State.endSent_shape (c : Chan) (e : Entry) : (s.endSent c e).shape = s.shape := State.shape_of_frame (by simp)

@[simp] theorem State.tellOwner_frameWatch (e : Entry) (b : Bool) : (s.tellOwner e b).frameWatch = s.frameWatch := State.frameWatch_of_frame (by simp)
@[simp] theorem State.tellOwner_framePermits (e : Entry) (b : Bool) : (s.tellOwner e b).framePermits = s.framePermits := State.framePermits_of_frame (by simp)
@[simp] theorem State.tellOwner_frameMoves (e : Entry) (b : Bool) : (s.tellOwner e b).frameMoves = s.frameMoves := State.frameMoves_of_frame (by simp)
@[simp] theorem State.tellOwner_shape (e : Entry) (b : Bool) : (s.tellOwner e b).shape = s.shape := State.shape_of_frame (by simp)

@[simp] theorem State.modFlying_frameWatch (c : Chan) (f : Entry → Entry) : (s.modFlying c f).frameWatch = s.frameWatch := State.frameWatch_of_frame (by simp)
@[simp] theorem State.modFlying_framePermits (c : Chan) (f : Entry → Entry) : (s.modFlying c f).framePermits = s.framePermits := State.framePermits_of_frame (by simp)
@[simp] theorem State.modFlying_frameMoves (c : Chan) (f : Entry → Entry) : (s.modFlying c f).frameMoves = s.frameMoves := State.frameMoves_of_frame (by simp)
@[simp] theorem State.modFlying_shape (c : Chan) (f : Entry → Entry) : (s.modFlying c f).shape = s.shape := State.shape_of_frame (by simp)

@[simp] theorem State.migrateStrays_frameWatch (c : Chan) : (s.migrateStrays c).frameWatch = s.frameWatch := State.frameWatch_of_frame (by simp)
@[simp] theorem State.migrateStrays_framePermits (c : Chan) : (s.migrateStrays c).framePermits = s.framePermits := State.framePermits_of_frame (by simp)
@[simp] theorem State.migrateStrays_frameMoves (c : Chan) : (s.migrateStrays c).frameMoves = s.frameMoves := State.frameMoves_of_frame (by simp)
@[simp] theorem State.migrateStrays_shape (c : Chan) : (s.migrateStrays c).shape = s.shape := State.shape_of_frame (by simp)

@[simp] theorem State.flowEval_frameWatch (c : Chan) : (s.flowEval c).frameWatch = s.frameWatch := State.frameWatch_of_frame (by simp)
@[simp] theorem State.flowEval_framePermits (c : Chan) : (s.flowEval c).framePermits = s.framePermits := State.framePermits_of_frame (by simp)
@[simp] theorem State.flowEval_frameMoves (c : Chan) : (s.flowEval c).frameMoves = s.frameMoves := State.frameMoves_of_frame (by simp)
@[simp] theorem State.flowEval_shape (c : Chan) : (s.flowEval c).shape = s.shape := State.shape_of_frame (by simp)

@[simp] theorem State.offerDeferred_shape (serial : Nat) : (s.offerDeferred serial).1.shape = s.shape :=
  State.shape_of_frame (by simp)
@[simp] theorem State.flush_shape (c : Chan) : (s.flush c).1.shape = s.shape := State.shape_of_frame (by simp)
@[simp] theorem State.flush_frameMoves (c : Chan) : (s.flush c).1.frameMoves = s.frameMoves := State.frameMoves_of_frame (by simp)

end

end Sys2Proof.Machine
end

