-- ==== Sys2Proof/Laws/Work.lean ====
section
/-! SUPPORT. The work of the tables (permits, devices, watches, alarms, replies, moves, attempts, reception): it keeps the shape of the state and the limits of what the part stores, and the frames of Safety.lean. -/

namespace Sys2Proof.Machine

/-! ### A change that keeps a record's key keeps the shape -/

section
variable (s : State)

theorem State.modCrew_shape_of (k : Nat) (f : Crew → Crew) (h : ∀ k, (f k).slot = k.slot) : (s.modCrew k f).shape = s.shape := by
  simp only [State.shape, State.modCrew_crews, State.modCrew_workers, State.modCrew_orders, State.modCrew_devices, State.modCrew_permits,
    tMod_map_of Crew.slot k f (·.slot) _ h, State.modCrew_assignments, State.modCrew_serialCounter, State.modCrew_textCounter,
    State.modCrew_clock, State.modCrew_params, State.modCrew_pending, State.modCrew_held, State.modCrew_responseLost, State.modCrew_linkOut]

@[simp] theorem State.modCrew_shape (k : Nat) (f1 : Crew → Nat) (f2 : Crew → Nat) (f3 : Crew → Chan) (f4 : Crew → Option Chan) (f5 : Crew → Chan) (f6 : Crew → Reach) (f7 : Crew → Nat) (f8 : Crew → Option Word32) (f9 : Crew → Seq) (f10 : Crew → Option Seq) (f11 : Crew → List Nat) (f12 : Crew → CrewAlarm) (f13 : Crew → Option AlarmCause) (f14 : Crew → Option Nat) (f15 : Crew → Bool) (f16 : Crew → List Nat) (f17 : Crew → Option (Nat × Nat)) :
    (s.modCrew k fun k => ⟨k.slot, f1 k, f2 k, f3 k, f4 k, f5 k, f6 k, f7 k, f8 k, f9 k, f10 k, f11 k, f12 k, f13 k, f14 k, f15 k, f16 k, f17 k⟩).shape = s.shape :=
  s.modCrew_shape_of k _ fun _ => rfl


theorem State.modWorker_shape_of (k : Nat) (f : Worker → Worker) (h : ∀ w, (f w).badge = w.badge) : (s.modWorker k f).shape = s.shape := by
  simp only [State.shape, State.modWorker_crews, State.modWorker_workers, State.modWorker_orders, State.modWorker_devices, State.modWorker_permits,
    tMod_map_of Worker.badge k f (·.badge) _ h, State.modWorker_assignments, State.modWorker_serialCounter, State.modWorker_textCounter,
    State.modWorker_clock, State.modWorker_params, State.modWorker_pending, State.modWorker_held, State.modWorker_responseLost, State.modWorker_linkOut]

@[simp] theorem State.modWorker_shape (k : Nat) (f1 : Worker → Nat) (f2 : Worker → WatchState) (f3 : Worker → Nat) (f4 : Worker → Nat) (f5 : Worker → Option Nat) (f6 : Worker → Option Nat) (f7 : Worker → Option Nat) (f8 : Worker → Option Nat) (f9 : Worker → Nat) (f10 : Worker → Bool) (f11 : Worker → Option PromptStatus) (f12 : Worker → Option AlarmCause) (f13 : Worker → Option Nat) (f14 : Worker → Bool) :
    (s.modWorker k fun w => ⟨w.badge, f1 w, f2 w, f3 w, f4 w, f5 w, f6 w, f7 w, f8 w, f9 w, f10 w, f11 w, f12 w, f13 w, f14 w⟩).shape = s.shape :=
  s.modWorker_shape_of k _ fun _ => rfl


theorem State.modOrder_shape_of (k : Nat) (f : Order → Order) (h : ∀ o, (f o).number = o.number) : (s.modOrder k f).shape = s.shape := by
  simp only [State.shape, State.modOrder_crews, State.modOrder_workers, State.modOrder_orders, State.modOrder_devices, State.modOrder_permits,
    tMod_map_of Order.number k f (·.number) _ h, State.modOrder_assignments, State.modOrder_serialCounter, State.modOrder_textCounter,
    State.modOrder_clock, State.modOrder_params, State.modOrder_pending, State.modOrder_held, State.modOrder_responseLost, State.modOrder_linkOut]

@[simp] theorem State.modOrder_shape (k : Nat) (f1 : Order → Priority) (f2 : Order → OrderState) (f3 : Order → Option Nat) (f4 : Order → Option Nat) (f5 : Order → List Byte) (f6 : Order → Word32) (f7 : Order → Option Word32) (f8 : Order → Word32) (f9 : Order → Option Deferral) (f10 : Order → Option ReturnCause) (f11 : Order → Option Nat) (f12 : Order → Bool) (f13 : Order → Option Link) (f14 : Order → Option (FollowKind × FollowStatus)) :
    (s.modOrder k fun o => ⟨o.number, f1 o, f2 o, f3 o, f4 o, f5 o, f6 o, f7 o, f8 o, f9 o, f10 o, f11 o, f12 o, f13 o, f14 o⟩).shape = s.shape :=
  s.modOrder_shape_of k _ fun _ => rfl


theorem State.modDevice_shape_of (k : Nat) (f : Device → Device) (h : ∀ d, (f d).number = d.number) : (s.modDevice k f).shape = s.shape := by
  simp only [State.shape, State.modDevice_crews, State.modDevice_workers, State.modDevice_orders, State.modDevice_devices, State.modDevice_permits,
    tMod_map_of Device.number k f (·.number) _ h, State.modDevice_assignments, State.modDevice_serialCounter, State.modDevice_textCounter,
    State.modDevice_clock, State.modDevice_params, State.modDevice_pending, State.modDevice_held, State.modDevice_responseLost, State.modDevice_linkOut]

@[simp] theorem State.modDevice_shape (k : Nat) (f1 : Device → DeviceKind) (f2 : Device → Position) (f3 : Device → List Nat) (f4 : Device → Option Position) (f5 : Device → Option (Nat × Action)) (f6 : Device → List Nat) :
    (s.modDevice k fun d => ⟨d.number, f1 d, f2 d, f3 d, f4 d, f5 d, f6 d⟩).shape = s.shape :=
  s.modDevice_shape_of k _ fun _ => rfl


theorem State.modPermit_shape_of (k : Nat) (f : Permit → Permit) (h : ∀ p, (f p).serial = p.serial) : (s.modPermit k f).shape = s.shape := by
  simp only [State.shape, State.modPermit_crews, State.modPermit_workers, State.modPermit_orders, State.modPermit_devices, State.modPermit_permits,
    tMod_map_of Permit.serial k f (·.serial) _ h, State.modPermit_assignments, State.modPermit_serialCounter, State.modPermit_textCounter,
    State.modPermit_clock, State.modPermit_params, State.modPermit_pending, State.modPermit_held, State.modPermit_responseLost, State.modPermit_linkOut]

@[simp] theorem State.modPermit_shape (k : Nat) (f1 : Permit → Nat) (f2 : Permit → Nat) (f3 : Permit → PermitState) (f4 : Permit → List Step) (f5 : Permit → Nat) (f6 : Permit → List (Nat × Action)) (f7 : Permit → Option Outstanding) (f8 : Permit → Option Nat) (f9 : Permit → Bool) (f10 : Permit → Option (Phase × StallCause)) (f11 : Permit → Nat) (f12 : Permit → Option TgStatus) (f13 : Permit → Bool) (f14 : Permit → Option Nat) (f15 : Permit → Option Nat) (f16 : Permit → Bool) (f17 : Permit → Option AnswerTg) (f18 : Permit → Option TgStatus) (f19 : Permit → Bool) (f20 : Permit → Bool) (f21 : Permit → Bool) :
    (s.modPermit k fun p => ⟨p.serial, f1 p, f2 p, f3 p, f4 p, f5 p, f6 p, f7 p, f8 p, f9 p, f10 p, f11 p, f12 p, f13 p, f14 p, f15 p, f16 p, f17 p, f18 p, f19 p, f20 p, f21 p⟩).shape = s.shape :=
  s.modPermit_shape_of k _ fun _ => rfl


@[simp] theorem State.modChan_shape (c : Chan) (f : Channel → Channel) : (s.modChan c f).shape = s.shape := rfl
@[simp] theorem State.modChans_shape (f : Channel → Channel) : (s.modChans f).shape = s.shape := rfl
@[simp] theorem State.withAlarmOrder_shape (l : List AlarmRef) : (s.withAlarmOrder l).shape = s.shape := rfl
@[simp] theorem State.ite_shape (p : Prop) [Decidable p] (a b : State) :
    (if p then a else b).shape = if p then a.shape else b.shape := apply_ite State.shape p a b

@[simp] theorem State.modPermit_framePermits (n : Nat) (f : Permit → Permit) : (s.modPermit n f).framePermits = s.framePermits := rfl
@[simp] theorem State.modDevice_framePermits (n : Nat) (f : Device → Device) : (s.modDevice n f).framePermits = s.framePermits := rfl
@[simp] theorem State.ite_framePermits (p : Prop) [Decidable p] (a b : State) :
    (if p then a else b).framePermits = if p then a.framePermits else b.framePermits := apply_ite State.framePermits p a b
@[simp] theorem State.ite_frameMoves (p : Prop) [Decidable p] (a b : State) :
    (if p then a else b).frameMoves = if p then a.frameMoves else b.frameMoves := apply_ite State.frameMoves p a b

theorem State.modWorker_frameWatch_of (badge : Nat) (f : Worker → Worker) (h : ∀ w, (f w).frameWatch = w.frameWatch) :
    (s.modWorker badge f).frameWatch = s.frameWatch := by
  simp only [State.frameWatch, State.frame, State.modWorker, tMod_map_of Worker.badge badge f Worker.frameWatch _ h]

theorem State.foldl_shape {α : Type} (f : State → α → State) (h : ∀ t a, (f t a).shape = t.shape) (l : List α) (s : State) :
    (l.foldl f s).shape = s.shape := by
  induction l generalizing s with
  | nil => rfl
  | cons a as ih => simp only [List.foldl_cons, ih, h]

theorem State.inOpenOrder_shape {α : Type} (l : List α) (f : State → α → State) (h : ∀ t a, (f t a).shape = t.shape) :
    (s.inOpenOrder l f).shape = s.shape := State.foldl_shape f h _ _

theorem State.foldl_frameWatch {α : Type} (f : State → α → State) (h : ∀ t a, (f t a).frameWatch = t.frameWatch) (l : List α)
    (s : State) : (l.foldl f s).frameWatch = s.frameWatch := by
  induction l generalizing s with
  | nil => rfl
  | cons a as ih => simp only [List.foldl_cons, ih, h]

theorem State.inOpenOrder_frameWatch {α : Type} (l : List α) (f : State → α → State)
    (h : ∀ t a, (f t a).frameWatch = t.frameWatch) : (s.inOpenOrder l f).frameWatch = s.frameWatch :=
  State.foldl_frameWatch f h _ _

theorem State.foldl_framePermits {α : Type} (f : State → α → State) (h : ∀ t a, (f t a).framePermits = t.framePermits)
    (l : List α) (s : State) : (l.foldl f s).framePermits = s.framePermits := by
  induction l generalizing s with
  | nil => rfl
  | cons a as ih => simp only [List.foldl_cons, ih, h]

theorem State.foldl_frameMoves {α : Type} (f : State → α → State) (h : ∀ t a, (f t a).frameMoves = t.frameMoves) (l : List α)
    (s : State) : (l.foldl f s).frameMoves = s.frameMoves := by
  induction l generalizing s with
  | nil => rfl
  | cons a as ih => simp only [List.foldl_cons, ih, h]

/-! ### Watches (R100, R104) -/

theorem State.restart_frameWatch (badge : Nat) : (s.restart badge).frameWatch = s.frameWatch := by
  unfold State.restart
  split
  · rfl
  · dsimp only
    rw [State.strike_frameWatch]
    exact s.modWorker_frameWatch_of _ _ fun _ => rfl

/-- A restart: what it stores (R100), and traffic otherwise. -/
theorem State.restart_frame (badge : Nat) {w : Worker} (h : s.worker? badge = some w) :
    (s.restart badge).frame = (s.modWorker badge fun v =>
      { v with
        eff := some (effectiveInterval w.interval w.missed (s.highRisk w.crew) s.params.highRiskCap)
        lead := some (leadTime s.params.promptLead (effectiveInterval w.interval w.missed (s.highRisk w.crew) s.params.highRiskCap))
        remaining := some (effectiveInterval w.interval w.missed (s.highRisk w.crew) s.params.highRiskCap)
        graceLeft := none }).frame := by
  unfold State.restart
  simp only [h]
  rw [State.strike_frame]
  simp only [State.frame, State.modWorker, tMod, List.map_map]
  congr 1
  refine List.map_congr_left fun v _ => ?_
  simp only [Function.comp_apply]
  split <;> rfl

@[simp] theorem State.restart_shape (badge : Nat) : (s.restart badge).shape = s.shape :=
  State.shape_of_frameWatch (s.restart_frameWatch badge)

@[simp] theorem State.restart_framePermits (badge : Nat) : (s.restart badge).framePermits = s.framePermits :=
  State.framePermits_of_frameWatch (s.restart_frameWatch badge)

theorem Worker.cut_frameWatch (w : Worker) (cap lead : Nat) : (w.cut cap lead).frameWatch = w.frameWatch := by
  unfold Worker.cut; dsimp only; split <;> rfl

@[simp] theorem State.cutMember_frameWatch (badge : Nat) : (s.cutMember badge).frameWatch = s.frameWatch := by
  unfold State.cutMember
  rw [State.leadPrompt_frameWatch]
  exact s.modWorker_frameWatch_of _ _ fun w => w.cut_frameWatch _ _

@[simp] theorem State.cutCrew_frameWatch (slot : Nat) : (s.cutCrew slot).frameWatch = s.frameWatch := by
  unfold State.cutCrew
  split
  · rfl
  · exact s.inOpenOrder_frameWatch _ _ fun t b => t.cutMember_frameWatch b

@[simp] theorem State.cutCrew_shape (slot : Nat) : (s.cutCrew slot).shape = s.shape :=
  State.shape_of_frameWatch (s.cutCrew_frameWatch slot)

@[simp] theorem State.cutCrew_framePermits (slot : Nat) : (s.cutCrew slot).framePermits = s.framePermits :=
  State.framePermits_of_frameWatch (s.cutCrew_frameWatch slot)

/-! ### Permits: shape and frame -/

@[simp] theorem State.setPermitState_shape (serial : Nat) (new : PermitState) (cause : PermitCause) : (s.setPermitState serial new cause).shape = s.shape := by
  unfold State.setPermitState; split <;> (try split) <;> simp

@[simp] theorem State.setPermitState_framePermits (serial : Nat) (new : PermitState) (cause : PermitCause) : (s.setPermitState serial new cause).framePermits = s.framePermits := by
  unfold State.setPermitState; split <;> (try split) <;> simp

@[simp] theorem State.leaveWaits_shape (serial : Nat) : (s.leaveWaits serial).shape = s.shape := by
  simp [State.leaveWaits, State.shape, State.framePermits, State.frameWatch, State.frame, Function.comp_def]

@[simp] theorem State.leaveWaits_framePermits (serial : Nat) : (s.leaveWaits serial).framePermits = s.framePermits := by
  simp [State.leaveWaits, State.shape, State.framePermits, State.frameWatch, State.frame, Function.comp_def]

@[simp] theorem State.stall_shape (serial : Nat) (phase : Phase) (cause : StallCause) : (s.stall serial phase cause).shape = s.shape := by
  simp [State.stall]

@[simp] theorem State.stall_framePermits (serial : Nat) (phase : Phase) (cause : StallCause) : (s.stall serial phase cause).framePermits = s.framePermits := by
  simp [State.stall]

@[simp] theorem State.dropInstruction_shape (serial : Nat) : (s.dropInstruction serial).shape = s.shape := by
  simp [State.dropInstruction]

@[simp] theorem State.dropInstruction_framePermits (serial : Nat) : (s.dropInstruction serial).framePermits = s.framePermits := by
  simp [State.dropInstruction]

@[simp] theorem State.dropIssue_shape (serial : Nat) : (s.dropIssue serial).shape = s.shape := by
  simp [State.dropIssue]

@[simp] theorem State.dropIssue_framePermits (serial : Nat) : (s.dropIssue serial).framePermits = s.framePermits := by
  simp [State.dropIssue]

@[simp] theorem State.dropAnswer_shape (serial : Nat) : (s.dropAnswer serial).shape = s.shape := by
  unfold State.dropAnswer; split <;> simp

@[simp] theorem State.dropAnswer_framePermits (serial : Nat) : (s.dropAnswer serial).framePermits = s.framePermits := by
  unfold State.dropAnswer; split <;> simp

@[simp] theorem State.actOnClaim_shape (serial device : Nat) (what : ClaimFor) (a : ClaimAnswer) : (s.actOnClaim serial device what a).shape = s.shape := by
  cases a <;> simp [State.actOnClaim]

@[simp] theorem State.actOnClaim_framePermits (serial device : Nat) (what : ClaimFor) (a : ClaimAnswer) : (s.actOnClaim serial device what a).framePermits = s.framePermits := by
  cases a <;> simp [State.actOnClaim]

@[simp] theorem Device.claim_number (d : Device) (serial : Nat) (what : ClaimFor) : (d.claim serial what).1.number = d.number := by
  unfold Device.claim; split <;> (try split) <;> (try split) <;> rfl

@[simp] theorem Device.applyDone_number (d : Device) : d.applyDone.number = d.number := by
  unfold Device.applyDone; split <;> (try dsimp only) <;> (try split) <;> rfl

@[simp] theorem State.claim_shape (n serial : Nat) (what : ClaimFor) : (s.claim n serial what).1.shape = s.shape := by
  unfold State.claim
  split
  · rfl
  · exact s.modDevice_shape_of _ _ fun d => d.claim_number serial what

@[simp] theorem State.claim_framePermits (n serial : Nat) (what : ClaimFor) :
    (s.claim n serial what).1.framePermits = s.framePermits := by
  unfold State.claim; split <;> rfl

@[simp] theorem State.claimNext_shape (serial : Nat) : (s.claimNext serial).1.shape = s.shape := by
  unfold State.claimNext; split <;> (try split) <;> (try split) <;> simp

@[simp] theorem State.claimNext_framePermits (serial : Nat) : (s.claimNext serial).1.framePermits = s.framePermits := by
  unfold State.claimNext; split <;> (try split) <;> (try split) <;> simp

end

@[simp] theorem State.handTo_shape (device : Nat) (l : List Nat) (s : State) : (State.handTo device l s).shape = s.shape := by
  induction l generalizing s with
  | nil => rfl
  | cons serial more ih => simp only [State.handTo]; split <;> (try split) <;> (try split) <;> (try split) <;> simp [ih]

@[simp] theorem State.handTo_framePermits (device : Nat) (l : List Nat) (s : State) : (State.handTo device l s).framePermits = s.framePermits := by
  induction l generalizing s with
  | nil => rfl
  | cons serial more ih => simp only [State.handTo]; split <;> (try split) <;> (try split) <;> (try split) <;> simp [ih]

section
variable (s : State)

@[simp] theorem State.freeDevice_shape (device : Nat) : (s.freeDevice device).shape = s.shape := by
  simp [State.freeDevice]

@[simp] theorem State.freeDevice_framePermits (device : Nat) : (s.freeDevice device).framePermits = s.framePermits := by
  simp [State.freeDevice]

@[simp] theorem State.issuePermit_shape (serial : Nat) : (s.issuePermit serial).shape = s.shape := by
  simp [State.issuePermit]

@[simp] theorem State.issuePermit_framePermits (serial : Nat) : (s.issuePermit serial).framePermits = s.framePermits := by
  simp [State.issuePermit]

@[simp] theorem State.callIssue_shape (serial : Nat) : (s.callIssue serial).shape = s.shape := by
  unfold State.callIssue; split <;> simp

@[simp] theorem State.callIssue_framePermits (serial : Nat) : (s.callIssue serial).framePermits = s.framePermits := by
  unfold State.callIssue; split <;> simp

@[simp] theorem State.closePermit_shape (serial : Nat) (cause : PermitCause) : (s.closePermit serial cause).shape = s.shape := by
  unfold State.closePermit; split <;> (try dsimp only) <;> (try split) <;> simp

@[simp] theorem State.closePermit_framePermits (serial : Nat) (cause : PermitCause) : (s.closePermit serial cause).framePermits = s.framePermits := by
  unfold State.closePermit; split <;> (try dsimp only) <;> (try split) <;> simp

@[simp] theorem State.beginRestoration_shape (serial : Nat) (cause : PermitCause) : (s.beginRestoration serial cause).shape = s.shape := by
  unfold State.beginRestoration; split <;> (try split) <;> simp

@[simp] theorem State.beginRestoration_framePermits (serial : Nat) (cause : PermitCause) : (s.beginRestoration serial cause).framePermits = s.framePermits := by
  unfold State.beginRestoration; split <;> (try split) <;> simp

@[simp] theorem State.releaseUnreported_shape (serial : Nat) : (s.releaseUnreported serial).shape = s.shape := by
  unfold State.releaseUnreported; split <;> simp

@[simp] theorem State.releaseUnreported_framePermits (serial : Nat) : (s.releaseUnreported serial).framePermits = s.framePermits := by
  unfold State.releaseUnreported; split <;> simp

theorem State.releaseDone_shape (serial : Nat) : (s.releaseDone serial).shape = s.shape := by
  have h1 := fun (t : State) n => t.modDevice_shape_of n _ Device.applyDone_number
  unfold State.releaseDone
  split
  · rfl
  · dsimp only
    rw [State.dropInstruction_shape, State.freeDevice_shape]
    exact (State.modPermit_shape_of _ _ _ fun p => by split <;> rfl).trans (h1 s _)

theorem State.releaseDone_framePermits (serial : Nat) : (s.releaseDone serial).framePermits = s.framePermits := by
  unfold State.releaseDone; split <;> simp

@[simp] theorem State.reportDone_shape (serial : Nat) : (s.reportDone serial).shape = s.shape := by
  unfold State.reportDone; split <;> (try dsimp only) <;> (try split) <;> (try split) <;> (try split) <;> simp [State.releaseDone_shape]

@[simp] theorem State.reportDone_framePermits (serial : Nat) : (s.reportDone serial).framePermits = s.framePermits := by
  unfold State.reportDone
  split <;> (try dsimp only) <;> (try split) <;> (try split) <;> (try split) <;> simp [State.releaseDone_framePermits]

@[simp] theorem State.reportUnable_shape (serial : Nat) : (s.reportUnable serial).shape = s.shape := by
  unfold State.reportUnable; split <;> (try dsimp only) <;> (try split) <;> simp

@[simp] theorem State.reportUnable_framePermits (serial : Nat) : (s.reportUnable serial).framePermits = s.framePermits := by
  unfold State.reportUnable; split <;> (try dsimp only) <;> (try split) <;> simp

@[simp] theorem State.stepReport_shape (slot serial index outcome : Nat) : (s.stepReport slot serial index outcome).shape = s.shape := by
  unfold State.stepReport; dsimp only; split <;> (try split) <;> (try split) <;> (try split) <;> (try split) <;> simp

@[simp] theorem State.stepReport_framePermits (slot serial index outcome : Nat) : (s.stepReport slot serial index outcome).framePermits = s.framePermits := by
  unfold State.stepReport; dsimp only; split <;> (try split) <;> (try split) <;> (try split) <;> (try split) <;> simp

@[simp] theorem State.answerSurrender_shape (serial : Nat) (a : SurrenderAnswer) (r : Option SurrenderReason) : (s.answerSurrender serial a r).shape = s.shape := by
  unfold State.answerSurrender; dsimp only; split <;> simp

@[simp] theorem State.answerSurrender_framePermits (serial : Nat) (a : SurrenderAnswer) (r : Option SurrenderReason) : (s.answerSurrender serial a r).framePermits = s.framePermits := by
  unfold State.answerSurrender; dsimp only; split <;> simp

@[simp] theorem State.surrenderAsked_shape (slot serial : Nat) : (s.surrenderAsked slot serial).shape = s.shape := by
  unfold State.surrenderAsked; split <;> (try split) <;> (try split) <;> (try split) <;> (try split) <;> (try split) <;> simp

@[simp] theorem State.surrenderAsked_framePermits (slot serial : Nat) : (s.surrenderAsked slot serial).framePermits = s.framePermits := by
  unfold State.surrenderAsked; split <;> (try split) <;> (try split) <;> (try split) <;> (try split) <;> (try split) <;> simp

@[simp] theorem State.resumePermit_shape (serial : Nat) : (s.resumePermit serial).shape = s.shape := by
  unfold State.resumePermit; split <;> (try split) <;> (try split) <;> simp

@[simp] theorem State.resumePermit_framePermits (serial : Nat) : (s.resumePermit serial).framePermits = s.framePermits := by
  unfold State.resumePermit; split <;> (try split) <;> (try split) <;> simp

@[simp] theorem State.holdPermits_shape (slot : Nat) : (s.holdPermits slot).shape = s.shape :=
  State.foldl_shape _ (fun t n => by simp) _ s

@[simp] theorem State.holdPermits_framePermits (slot : Nat) : (s.holdPermits slot).framePermits = s.framePermits :=
  State.foldl_framePermits _ (fun t n => by simp) _ s

@[simp] theorem State.resumePermits_shape (slot : Nat) : (s.resumePermits slot).shape = s.shape :=
  State.foldl_shape _ (fun t n => by simp) _ s

@[simp] theorem State.resumePermits_framePermits (slot : Nat) : (s.resumePermits slot).framePermits = s.framePermits :=
  State.foldl_framePermits _ (fun t n => by simp) _ s

@[simp] theorem State.permitDelivered_shape (tg : PermitTg) (serial : Nat) : (s.permitDelivered tg serial).shape = s.shape := by
  unfold State.permitDelivered; dsimp only; split <;> simp

@[simp] theorem State.permitDelivered_framePermits (tg : PermitTg) (serial : Nat) : (s.permitDelivered tg serial).framePermits = s.framePermits := by
  unfold State.permitDelivered; dsimp only; split <;> simp

@[simp] theorem State.permitFailed_shape (tg : PermitTg) (serial : Nat) : (s.permitFailed tg serial).shape = s.shape := by
  unfold State.permitFailed; split <;> (try split) <;> (try dsimp only) <;> (try split) <;> simp

@[simp] theorem State.permitFailed_framePermits (tg : PermitTg) (serial : Nat) : (s.permitFailed tg serial).framePermits = s.framePermits := by
  unfold State.permitFailed; split <;> (try split) <;> (try dsimp only) <;> (try split) <;> simp

/-! ### Orders and what permits tell them (R41) -/

@[simp] theorem State.leaveQueue_shape (slot n : Nat) : (s.leaveQueue slot n).shape = s.shape := by
  rw [State.shape_of_frame (s.leaveQueue_frame slot n)]
  exact s.modCrew_shape_of _ _ fun _ => rfl

@[simp] theorem State.placeOrder_shape (slot n : Nat) : (s.placeOrder slot n).shape = s.shape := by
  rw [State.shape_of_frame (s.placeOrder_frame slot n)]
  exact s.modCrew_shape_of _ _ fun _ => rfl

@[simp] theorem State.tellInForce_shape (serial holder : Nat) : (s.tellInForce serial holder).shape = s.shape :=
  State.foldl_shape _ (fun t o => by simp [State.clearBlocked]) _ s

@[simp] theorem State.readback_shape (slot serial digest : Nat) : (s.readback slot serial digest).shape = s.shape := by
  unfold State.readback; dsimp only
  split <;> (try split) <;> (try split) <;> (try split) <;> (try split) <;> simp

@[simp] theorem State.withdrawOrder_shape (n : Nat) : (s.withdrawOrder n).shape = s.shape := by simp [State.withdrawOrder]

@[simp] theorem State.orderReply_shape (slot n code : Nat) : (s.orderReply slot n code).shape = s.shape := by
  unfold State.orderReply
  split
  · simp
  · split
    · split <;> simp [State.replyAccept, State.replyDecline, State.replyOnSite, State.replyComplete, State.replyUnable]
    · simp

@[simp] theorem State.followWithCancel_shape (n : Nat) : (s.followWithCancel n).shape = s.shape := by
  unfold State.followWithCancel; dsimp only; split <;> simp

@[simp] theorem State.orderDelivered_shape (n : Nat) : (s.orderDelivered n).shape = s.shape := by
  unfold State.orderDelivered; split <;> (try dsimp only) <;> (try split) <;> (try split) <;> simp

@[simp] theorem State.orderFailed_shape (n : Nat) (cause : OrderCause) : (s.orderFailed n cause).shape = s.shape := by
  unfold State.orderFailed; split <;> (try dsimp only) <;> (try split) <;> (try split) <;> simp

@[simp] theorem State.followUpFailed_shape (n : Nat) : (s.followUpFailed n).shape = s.shape := by
  unfold State.followUpFailed; split <;> simp

/-! ### Reachability (R13 to R16) -/

theorem State.setStanding_frame (slot failures : Nat) (reach : Reach) (heard : Bool) {k : Crew} (h : s.crew? slot = some k) :
    (s.setStanding slot failures reach heard).frame = (s.modCrew slot fun k =>
      { k with failures := failures, reach := reach, lastHeard := if heard then some s.clock else k.lastHeard }).frame := by
  unfold State.setStanding
  simp only [h]
  split <;> (try split) <;> simp

@[simp] theorem State.setStanding_shape (slot failures : Nat) (reach : Reach) (heard : Bool) :
    (s.setStanding slot failures reach heard).shape = s.shape := by
  unfold State.setStanding; split <;> (try dsimp only) <;> (try split) <;> (try split) <;> simp

@[simp] theorem State.rosterFailure_shape (slot : Nat) : (s.rosterFailure slot).shape = s.shape := by
  unfold State.rosterFailure; split <;> simp

@[simp] theorem State.rosterHeard_shape (slot : Nat) : (s.rosterHeard slot).shape = s.shape := by simp [State.rosterHeard]

/-! ### Alarms -/

@[simp] theorem State.reportCondition_shape (slot : Nat) (was : Bool) : (s.reportCondition slot was).shape = s.shape := by
  unfold State.reportCondition; split <;> simp

@[simp] theorem State.reportCondition_framePermits (slot : Nat) (was : Bool) :
    (s.reportCondition slot was).framePermits = s.framePermits := by
  unfold State.reportCondition; split <;> simp

@[simp] theorem State.armAll_shape (cs : List Chan) : (s.inOpenOrder cs State.arm).shape = s.shape :=
  s.inOpenOrder_shape _ _ fun t c => t.arm_shape c

@[simp] theorem State.joinSet_shape (a : AlarmRef) (c : Chan) : (s.joinSet a c).shape = s.shape := rfl

@[simp] theorem State.enterSets_shape (a : AlarmRef) (c : Chan) : (s.enterSets a c).shape = s.shape := by
  unfold State.enterSets
  dsimp only
  rw [State.armAll_shape, State.foldl_shape _ fun t c => t.modChan_shape c _]
  simp

@[simp] theorem State.leaveSets_shape (a : AlarmRef) : (s.leaveSets a).shape = s.shape := by
  unfold State.leaveSets
  dsimp only
  rw [State.foldl_shape _ fun t c => t.settleCall_shape c]
  simp

@[simp] theorem State.workerAlarm_shape (badge : Nat) (cause : AlarmCause) : (s.workerAlarm badge cause).shape = s.shape := by
  unfold State.workerAlarm; split <;> (try split) <;> (try dsimp only) <;> (try split) <;> simp

@[simp] theorem State.crewAlarm_shape (slot : Nat) (cause : AlarmCause) : (s.crewAlarm slot cause).shape = s.shape := by
  unfold State.crewAlarm; split <;> (try dsimp only) <;> (try split) <;> simp

@[simp] theorem State.widen_shape (a : AlarmRef) : (s.widen a).shape = s.shape := by
  unfold State.widen
  dsimp only
  rw [State.armAll_shape, State.foldl_shape _ fun t c => t.joinSet_shape a c]

@[simp] theorem State.checkedIn_shape (w : Worker) : (s.checkedIn w).shape = s.shape := by
  unfold State.checkedIn; split <;> simp

@[simp] theorem State.checkIn_shape (badge : Nat) : (s.checkIn badge).shape = s.shape := by
  unfold State.checkIn; split <;> (try split) <;> simp [State.checkinDuringAlarm]

@[simp] theorem State.resume_shape (badge : Nat) : (s.resume badge).shape = s.shape := by
  unfold State.resume; split <;> (try split) <;> simp [State.checkinDuringAlarm]

@[simp] theorem State.rest_shape (badge : Nat) : (s.rest badge).1.shape = s.shape := by
  unfold State.rest; split <;> (try split) <;> (try split) <;> simp [State.checkinDuringAlarm]

@[simp] theorem State.emergency_shape (slot badge : Nat) (cause : AlarmCause) : (s.emergency slot badge cause).shape = s.shape := by
  unfold State.emergency; split <;> simp

/-! ### Moves -/

@[simp] theorem State.moveAlarms_frameMoves (slot : Nat) (b : Chan) : (s.moveAlarms slot b).frameMoves = s.frameMoves := by
  have h : ∀ (t : State) a, (t.joinSet a b).frameMoves = t.frameMoves := fun t a => by
    unfold State.joinSet State.frameMoves State.frame
    simp only [State.modChan]
    congr 1
    exact Four.map_set_of _ _ _ _ rfl
  unfold State.moveAlarms
  dsimp only
  split
  · rw [State.arm_frameMoves, State.foldl_frameMoves _ h]
  · exact State.foldl_frameMoves _ h _ s

@[simp] theorem State.moveCrew_frameMoves (slot : Nat) (b : Chan) (cause : MoveCause) :
    (s.moveCrew slot b cause).frameMoves = s.frameMoves := by
  have h1 : (s.modCrew slot fun k => { k with current := b }).frameMoves = s.frameMoves := by
    simp only [State.frameMoves, State.frame, State.modCrew,
      tMod_map_of Crew.slot slot (fun k => { k with current := b }) (fun k => { k.frame with current := 0 }) _ fun _ => rfl]
  unfold State.moveCrew; split <;> (try dsimp only) <;> (try split) <;> simp [h1]

@[simp] theorem State.moveCrew_shape (slot : Nat) (b : Chan) (cause : MoveCause) : (s.moveCrew slot b cause).shape = s.shape :=
  State.shape_of_frameMoves (s.moveCrew_frameMoves slot b cause)

@[simp] theorem State.moveOff_frameMoves (c : Chan) (cause : MoveCause) (td : Bool) :
    (s.moveOff c cause td).frameMoves = s.frameMoves := by
  unfold State.moveOff
  exact State.foldl_frameMoves _ (fun t slot => by split <;> (try split) <;> simp) _ s

@[simp] theorem State.moveOff_shape (c : Chan) (cause : MoveCause) (td : Bool) : (s.moveOff c cause td).shape = s.shape :=
  State.shape_of_frameMoves (s.moveOff_frameMoves c cause td)

@[simp] theorem State.moveHome_frameMoves (c : Chan) : (s.moveHome c).frameMoves = s.frameMoves := by
  unfold State.moveHome
  exact State.foldl_frameMoves _ (fun t slot => by simp) _ s

@[simp] theorem State.moveHome_shape (c : Chan) : (s.moveHome c).shape = s.shape :=
  State.shape_of_frameMoves (s.moveHome_frameMoves c)

/-! ### Attempts and reception -/

@[simp] theorem State.beginAttempt_shape (c : Chan) (e : Entry) : (s.beginAttempt c e).shape = s.shape := by
  simp [State.beginAttempt]

@[simp] theorem State.ownerDelivered_shape (c : Chan) (e : Entry) : (s.ownerDelivered c e).shape = s.shape := by
  unfold State.ownerDelivered; split <;> (try split) <;> simp

@[simp] theorem State.ownerFailed_shape (c : Chan) (e : Entry) (cause : OrderCause) (r : TextOutcome) :
    (s.ownerFailed c e cause r).shape = s.shape := by
  unfold State.ownerFailed; split <;> (try split) <;> simp

theorem State.rosterTakes_shape (e : Entry) (f : State → Nat → State) (hf : ∀ t slot, (f t slot).shape = t.shape) :
    (s.rosterTakes e f).shape = s.shape := by
  unfold State.rosterTakes; split <;> simp [hf]

@[simp] theorem State.endFailed_shape (c : Chan) (e : Entry) (cause : FailCause) : (s.endFailed c e cause).shape = s.shape := by
  unfold State.endFailed
  split <;> (try split) <;> simp [State.rosterTakes_shape _ _ _ fun t slot => t.rosterFailure_shape slot]

@[simp] theorem State.endAttempt_shape (c : Chan) (r : Result) : (s.endAttempt c r).shape = s.shape := by
  unfold State.endAttempt
  split <;> (try dsimp only) <;> (try split) <;> (try split) <;>
    simp [State.rosterTakes_shape _ _ _ fun t slot => t.rosterHeard_shape slot]

@[simp] theorem State.abandon_shape (c : Chan) : (s.abandon c).shape = s.shape := by
  rw [State.shape_of_frame (s.abandon_frame c)]; split <;> rfl

@[simp] theorem State.enterDown_shape (c : Chan) : (s.enterDown c).shape = s.shape := rfl

@[simp] theorem State.enterIdleFromDown_shape (c : Chan) : (s.enterIdleFromDown c).shape = s.shape := by
  unfold State.enterIdleFromDown State.signal; dsimp only; split <;> split <;> simp

@[simp] theorem State.routeWatch_shape (slot kind badge : Nat) : (s.routeWatch slot kind badge).1.shape = s.shape := by
  unfold State.routeWatch; split <;> (try split) <;> (try split) <;> simp

@[simp] theorem State.route_shape (c : Chan) (k : Crew) (a : Assembly) : (s.route c k a).1.shape = s.shape := by
  unfold State.route State.storeMessage
  split <;> (try split) <;> (try split) <;> (try split) <;> simp

@[simp] theorem State.acceptFrom_shape (c : Chan) (k : Crew) (a : Assembly) : (s.acceptFrom c k a).shape = s.shape := by
  unfold State.acceptFrom; dsimp only; split <;> simp

@[simp] theorem State.judge_shape (c : Chan) (a : Assembly) : (s.judge c a).1.shape = s.shape := by
  unfold State.judge State.fromStranger; split <;> (try split) <;> (try split) <;> simp

@[simp] theorem State.assembled_shape (c : Chan) (a : Assembly) : (s.assembled c a).1.shape = s.shape := by
  unfold State.assembled; split <;> simp

@[simp] theorem State.takeFrame_shape (c : Chan) (f : Frame) (o : Origin) : (s.takeFrame c f o).1.shape = s.shape := by
  unfold State.takeFrame; split
  · rfl
  · exact s.assembled_shape c _

@[simp] theorem State.enterIdle_shape (c : Chan) : (s.enterIdle c).shape = s.shape := rfl
@[simp] theorem State.enterAwaitRepeat_shape (c : Chan) : (s.enterAwaitRepeat c).shape = s.shape := rfl
@[simp] theorem State.endReception_shape (c : Chan) : (s.endReception c).shape = s.shape := rfl

@[simp] theorem State.follow_shape (c : Chan) (d : Direction) : (s.follow c d).shape = s.shape := by
  cases d <;> rfl

@[simp] theorem State.receive_shape (c : Chan) (f : Frame) (o : Origin) : (s.receive c f o).shape = s.shape := by
  simp [State.receive]

end

end Sys2Proof.Machine
end

