-- ==== Sys2Proof/Laws/WorkBounds.lean ====
section
/-! SUPPORT. The limits of what the part stores (Safety.lean, State.bounded), kept by the work of the tables: permits, watches, alarms, replies, moves, attempts, reception. -/

namespace Sys2Proof.Machine

section
variable {s : State}

/-- A change to a channel's own state, its alarm set, its assembly or its lines. -/
theorem State.modChan_state_bounded (c : Chan) (f : Channel → Channel) (hq : ∀ ch, (f ch).queue = ch.queue)
    (hm : ∀ ch, (f ch).mailbox = ch.mailbox) (h : s.bounded) : (s.modChan c f).bounded :=
  State.modChan_bounded c f (fun ch => (congrArg List.length (hq ch)).le) (fun ch => (congrArg List.length (hm ch)).le) h

/-! ### Watches and permits -/

@[simp] theorem State.restart_bounded (badge : Nat) (h : s.bounded) : (s.restart badge).bounded := by
  unfold State.restart; split <;> simp (maxDischargeDepth := 15) [h]

@[simp] theorem State.cutMember_bounded (badge : Nat) (h : s.bounded) : (s.cutMember badge).bounded := by
  simp (maxDischargeDepth := 15) [h, State.cutMember]

@[simp] theorem State.cutCrew_bounded (slot : Nat) (h : s.bounded) : (s.cutCrew slot).bounded := by
  unfold State.cutCrew
  split
  · exact h
  · exact State.inOpenOrder_bounded _ _ (fun _ b ht => State.cutMember_bounded b ht) h

@[simp] theorem State.setPermitState_bounded (serial : Nat) (new : PermitState) (cause : PermitCause) (h : s.bounded) : (s.setPermitState serial new cause).bounded := by
  unfold State.setPermitState; split <;> (try dsimp only) <;> (try split) <;> simp (maxDischargeDepth := 15) [h]

@[simp] theorem State.leaveWaits_bounded (serial : Nat) (h : s.bounded) : (s.leaveWaits serial).bounded := h

@[simp] theorem State.stall_bounded (serial : Nat) (phase : Phase) (cause : StallCause) (h : s.bounded) : (s.stall serial phase cause).bounded := by
  simp (maxDischargeDepth := 15) [h, State.stall]

@[simp] theorem State.dropInstruction_bounded (serial : Nat) (h : s.bounded) : (s.dropInstruction serial).bounded := by
  simp (maxDischargeDepth := 15) [h, State.dropInstruction]

@[simp] theorem State.dropIssue_bounded (serial : Nat) (h : s.bounded) : (s.dropIssue serial).bounded := by
  simp (maxDischargeDepth := 15) [h, State.dropIssue]

@[simp] theorem State.dropAnswer_bounded (serial : Nat) (h : s.bounded) : (s.dropAnswer serial).bounded := by
  unfold State.dropAnswer; split <;> simp (maxDischargeDepth := 15) [h]

@[simp] theorem State.actOnClaim_bounded (serial device : Nat) (what : ClaimFor) (a : ClaimAnswer) (h : s.bounded) : (s.actOnClaim serial device what a).bounded := by
  cases a <;> simp (maxDischargeDepth := 15) [h, State.actOnClaim]

@[simp] theorem State.claim_bounded (n serial : Nat) (what : ClaimFor) (h : s.bounded) : (s.claim n serial what).1.bounded := by
  unfold State.claim; split <;> exact h

@[simp] theorem State.claimNext_bounded (serial : Nat) (h : s.bounded) : (s.claimNext serial).1.bounded := by
  unfold State.claimNext; split <;> (try split) <;> (try split) <;> simp (maxDischargeDepth := 15) [h]

end

@[simp] theorem State.handTo_bounded (device : Nat) (l : List Nat) (s : State) (h : s.bounded) : (State.handTo device l s).bounded := by
  induction l generalizing s with
  | nil => exact h
  | cons serial more ih =>
    simp only [State.handTo]
    split <;> (try split) <;> (try split) <;> (try split)
    all_goals first
      | exact ih _ (by simp (maxDischargeDepth := 15) [h])
      | simp (maxDischargeDepth := 15) [h]

section
variable {s : State}

@[simp] theorem State.freeDevice_bounded (device : Nat) (h : s.bounded) : (s.freeDevice device).bounded := by
  simp (maxDischargeDepth := 15) [h, State.freeDevice]

@[simp] theorem State.issuePermit_bounded (serial : Nat) (h : s.bounded) : (s.issuePermit serial).bounded := by
  simp (maxDischargeDepth := 15) [h, State.issuePermit]

@[simp] theorem State.callIssue_bounded (serial : Nat) (h : s.bounded) : (s.callIssue serial).bounded := by
  unfold State.callIssue; split <;> simp (maxDischargeDepth := 15) [h]

@[simp] theorem State.closePermit_bounded (serial : Nat) (cause : PermitCause) (h : s.bounded) : (s.closePermit serial cause).bounded := by
  unfold State.closePermit; split <;> (try dsimp only) <;> (try split) <;> simp (maxDischargeDepth := 15) [h]

@[simp] theorem State.beginRestoration_bounded (serial : Nat) (cause : PermitCause) (h : s.bounded) : (s.beginRestoration serial cause).bounded := by
  unfold State.beginRestoration; split <;> (try split) <;> simp (maxDischargeDepth := 15) [h]

@[simp] theorem State.releaseUnreported_bounded (serial : Nat) (h : s.bounded) : (s.releaseUnreported serial).bounded := by
  unfold State.releaseUnreported; split <;> simp (maxDischargeDepth := 15) [h]

@[simp] theorem State.releaseDone_bounded (serial : Nat) (h : s.bounded) : (s.releaseDone serial).bounded := by
  unfold State.releaseDone; split <;> simp (maxDischargeDepth := 15) [h]

@[simp] theorem State.reportDone_bounded (serial : Nat) (h : s.bounded) : (s.reportDone serial).bounded := by
  unfold State.reportDone; split <;> (try dsimp only) <;> (try split) <;> (try split) <;> (try split) <;> simp (maxDischargeDepth := 15) [h]

@[simp] theorem State.reportUnable_bounded (serial : Nat) (h : s.bounded) : (s.reportUnable serial).bounded := by
  unfold State.reportUnable; split <;> (try dsimp only) <;> (try split) <;> simp (maxDischargeDepth := 15) [h]

@[simp] theorem State.stepReport_bounded (slot serial index outcome : Nat) (h : s.bounded) : (s.stepReport slot serial index outcome).bounded := by
  unfold State.stepReport; dsimp only; split <;> (try split) <;> (try split) <;> (try split) <;> (try split) <;> simp (maxDischargeDepth := 15) [h]

@[simp] theorem State.answerSurrender_bounded (serial : Nat) (a : SurrenderAnswer) (r : Option SurrenderReason) (h : s.bounded) : (s.answerSurrender serial a r).bounded := by
  unfold State.answerSurrender; dsimp only; split <;> simp (maxDischargeDepth := 15) [h]

@[simp] theorem State.surrenderAsked_bounded (slot serial : Nat) (h : s.bounded) : (s.surrenderAsked slot serial).bounded := by
  unfold State.surrenderAsked; split <;> (try split) <;> (try split) <;> (try split) <;> (try split) <;> (try split) <;> simp (maxDischargeDepth := 15) [h]

@[simp] theorem State.resumePermit_bounded (serial : Nat) (h : s.bounded) : (s.resumePermit serial).bounded := by
  unfold State.resumePermit; split <;> (try split) <;> (try split) <;> simp (maxDischargeDepth := 15) [h]

@[simp] theorem State.holdPermits_bounded (slot : Nat) (h : s.bounded) : (s.holdPermits slot).bounded :=
  State.foldl_bounded _ (fun _ _ ht => by simp [ht]) _ h

@[simp] theorem State.resumePermits_bounded (slot : Nat) (h : s.bounded) : (s.resumePermits slot).bounded :=
  State.foldl_bounded _ (fun _ _ ht => by simp [ht]) _ h

@[simp] theorem State.permitDelivered_bounded (tg : PermitTg) (serial : Nat) (h : s.bounded) : (s.permitDelivered tg serial).bounded := by
  unfold State.permitDelivered; dsimp only; split <;> simp (maxDischargeDepth := 15) [h]

@[simp] theorem State.permitFailed_bounded (tg : PermitTg) (serial : Nat) (h : s.bounded) : (s.permitFailed tg serial).bounded := by
  unfold State.permitFailed; split <;> (try split) <;> (try dsimp only) <;> (try split) <;> simp (maxDischargeDepth := 15) [h]

/-! ### Orders -/

@[simp] theorem State.tellInForce_bounded (serial holder : Nat) (h : s.bounded) : (s.tellInForce serial holder).bounded :=
  State.foldl_bounded _ (fun _ _ ht => by simp (maxDischargeDepth := 15) [State.clearBlocked, ht]) _ h

@[simp] theorem State.readback_bounded (slot serial digest : Nat) (h : s.bounded) : (s.readback slot serial digest).bounded := by
  unfold State.readback; dsimp only; split <;> (try split) <;> (try split) <;> (try split) <;> (try split) <;> simp (maxDischargeDepth := 15) [h]

@[simp] theorem State.withdrawOrder_bounded (n : Nat) (h : s.bounded) : (s.withdrawOrder n).bounded := by
  simp (maxDischargeDepth := 15) [h, State.withdrawOrder]

@[simp] theorem State.orderReply_bounded (slot n code : Nat) (h : s.bounded) : (s.orderReply slot n code).bounded := by
  unfold State.orderReply
  split
  · simp [h]
  · split
    · split <;> simp (maxDischargeDepth := 15)
        [State.replyAccept, State.replyDecline, State.replyOnSite, State.replyComplete, State.replyUnable, h]
    · simp [h]

@[simp] theorem State.followWithCancel_bounded (n : Nat) (h : s.bounded) : (s.followWithCancel n).bounded := by
  unfold State.followWithCancel; dsimp only; split <;> simp (maxDischargeDepth := 15) [h]

@[simp] theorem State.orderDelivered_bounded (n : Nat) (h : s.bounded) : (s.orderDelivered n).bounded := by
  unfold State.orderDelivered; split <;> (try dsimp only) <;> (try split) <;> (try split) <;> simp (maxDischargeDepth := 15) [h]

@[simp] theorem State.orderFailed_bounded (n : Nat) (cause : OrderCause) (h : s.bounded) : (s.orderFailed n cause).bounded := by
  unfold State.orderFailed; split <;> (try dsimp only) <;> (try split) <;> (try split) <;> simp (maxDischargeDepth := 15) [h]

@[simp] theorem State.followUpFailed_bounded (n : Nat) (h : s.bounded) : (s.followUpFailed n).bounded := by
  unfold State.followUpFailed; split <;> simp (maxDischargeDepth := 15) [h]

/-! ### Reachability and alarms -/

@[simp] theorem State.setStanding_bounded (slot failures : Nat) (reach : Reach) (heard : Bool) (h : s.bounded) : (s.setStanding slot failures reach heard).bounded := by
  unfold State.setStanding; split <;> (try dsimp only) <;> (try split) <;> (try split) <;> simp (maxDischargeDepth := 15) [h]

@[simp] theorem State.rosterFailure_bounded (slot : Nat) (h : s.bounded) : (s.rosterFailure slot).bounded := by
  unfold State.rosterFailure; split <;> simp (maxDischargeDepth := 15) [h]

@[simp] theorem State.rosterHeard_bounded (slot : Nat) (h : s.bounded) : (s.rosterHeard slot).bounded := by
  simp (maxDischargeDepth := 15) [h, State.rosterHeard]

@[simp] theorem State.reportCondition_bounded (slot : Nat) (was : Bool) (h : s.bounded) : (s.reportCondition slot was).bounded := by
  unfold State.reportCondition; split <;> simp (maxDischargeDepth := 15) [h]

theorem State.joinSet_bounded (a : AlarmRef) (c : Chan) (h : s.bounded) : (s.joinSet a c).bounded :=
  State.modChan_state_bounded c _ (fun _ => rfl) (fun _ => rfl) h

@[simp] theorem State.enterSets_bounded (a : AlarmRef) (c : Chan) (h : s.bounded) : (s.enterSets a c).bounded := by
  have h1 := fun (t : State) (ht : t.bounded) (l : List Chan) => State.foldl_bounded
    (fun (t : State) c => t.modChan c fun ch => { ch with alarmSet := ch.alarmSet.erase a ++ [a] })
    (fun _ c ht => State.modChan_state_bounded c _ (fun _ => rfl) (fun _ => rfl) ht) l ht
  unfold State.enterSets
  exact State.armAll_bounded _ (h1 _ (State.withAlarmOrder_bounded _ h) _)

@[simp] theorem State.leaveSets_bounded (a : AlarmRef) (h : s.bounded) : (s.leaveSets a).bounded := by
  have h1 : (s.modChans fun ch => { ch with alarmSet := ch.alarmSet.erase a }).bounded :=
    State.modChans_bounded _ (fun _ => le_refl _) (fun _ => le_refl _) h
  unfold State.leaveSets
  exact State.foldl_bounded _ (fun _ c ht => State.settleCall_bounded c ht) _ h1

@[simp] theorem State.workerAlarm_bounded (badge : Nat) (cause : AlarmCause) (h : s.bounded) : (s.workerAlarm badge cause).bounded := by
  unfold State.workerAlarm; split <;> (try split) <;> (try dsimp only) <;> (try split) <;> simp (maxDischargeDepth := 15) [h, State.armAll_bounded]

@[simp] theorem State.crewAlarm_bounded (slot : Nat) (cause : AlarmCause) (h : s.bounded) : (s.crewAlarm slot cause).bounded := by
  unfold State.crewAlarm; split <;> (try dsimp only) <;> (try split) <;> simp (maxDischargeDepth := 15) [h, State.armAll_bounded]

@[simp] theorem State.widen_bounded (a : AlarmRef) (h : s.bounded) : (s.widen a).bounded := by
  unfold State.widen
  exact State.armAll_bounded _ (State.foldl_bounded _ (fun _ c ht => State.joinSet_bounded a c ht) _ h)

@[simp] theorem State.checkedIn_bounded (w : Worker) (h : s.bounded) : (s.checkedIn w).bounded := by
  unfold State.checkedIn; split <;> simp (maxDischargeDepth := 15) [h]

@[simp] theorem State.checkIn_bounded (badge : Nat) (h : s.bounded) : (s.checkIn badge).bounded := by
  unfold State.checkIn; split <;> (try split) <;> simp (maxDischargeDepth := 15) [State.checkinDuringAlarm, h]

@[simp] theorem State.resume_bounded (badge : Nat) (h : s.bounded) : (s.resume badge).bounded := by
  unfold State.resume; split <;> (try split) <;> simp (maxDischargeDepth := 15) [State.checkinDuringAlarm, h]

@[simp] theorem State.rest_bounded (badge : Nat) (h : s.bounded) : (s.rest badge).1.bounded := by
  unfold State.rest; split <;> (try split) <;> (try split) <;> simp (maxDischargeDepth := 15) [State.checkinDuringAlarm, h]

@[simp] theorem State.emergency_bounded (slot badge : Nat) (cause : AlarmCause) (h : s.bounded) : (s.emergency slot badge cause).bounded := by
  unfold State.emergency; split <;> simp (maxDischargeDepth := 15) [h]

/-! ### Moves, attempts, reception -/

@[simp] theorem State.moveAlarms_bounded (slot : Nat) (b : Chan) (h : s.bounded) : (s.moveAlarms slot b).bounded := by
  have h1 := fun l => State.foldl_bounded (fun t a => State.joinSet t a b) (fun _ a ht => State.joinSet_bounded a b ht) l h
  unfold State.moveAlarms; dsimp only; split <;> simp [h1]

@[simp] theorem State.moveCrew_bounded (slot : Nat) (b : Chan) (cause : MoveCause) (h : s.bounded) :
    (s.moveCrew slot b cause).bounded := by
  unfold State.moveCrew; split <;> (try dsimp only) <;> (try split) <;> simp (maxDischargeDepth := 15) [h]

@[simp] theorem State.moveOff_bounded (c : Chan) (cause : MoveCause) (td : Bool) (h : s.bounded) : (s.moveOff c cause td).bounded := by
  unfold State.moveOff
  exact State.foldl_bounded _ (fun _ _ ht => by
    split <;> (try split) <;> (try dsimp only) <;> (try split) <;> simp (maxDischargeDepth := 15) [ht]) _ h

@[simp] theorem State.moveHome_bounded (c : Chan) (h : s.bounded) : (s.moveHome c).bounded := by
  unfold State.moveHome
  exact State.foldl_bounded _ (fun _ _ ht => by simp (maxDischargeDepth := 15) [ht]) _ h

@[simp] theorem State.beginAttempt_bounded (c : Chan) (e : Entry) (h : s.bounded) : (s.beginAttempt c e).bounded := by
  unfold State.beginAttempt
  refine State.modChan_state_bounded c _ (fun _ => rfl) (fun _ => rfl) (State.tellOwner_bounded _ _ ?_)
  exact State.modChan_bounded c _ (fun _ => (modFirst_length _ _ _).le) (fun _ => le_refl _) h

@[simp] theorem State.ownerDelivered_bounded (c : Chan) (e : Entry) (h : s.bounded) : (s.ownerDelivered c e).bounded := by
  unfold State.ownerDelivered; split <;> (try split) <;> simp (maxDischargeDepth := 15) [h]

@[simp] theorem State.ownerFailed_bounded (c : Chan) (e : Entry) (cause : OrderCause) (r : TextOutcome) (h : s.bounded) : (s.ownerFailed c e cause r).bounded := by
  unfold State.ownerFailed; split <;> (try split) <;> simp (maxDischargeDepth := 15) [h]

theorem State.rosterTakes_bounded (e : Entry) (f : State → Nat → State) (hf : ∀ t slot, t.bounded → (f t slot).bounded)
    (h : s.bounded) : (s.rosterTakes e f).bounded := by
  unfold State.rosterTakes; split <;> simp [hf, h]

@[simp] theorem State.endFailed_bounded (c : Chan) (e : Entry) (cause : FailCause) (h : s.bounded) :
    (s.endFailed c e cause).bounded := by
  unfold State.endFailed
  split <;> (try split)
  all_goals first
    | exact State.rosterTakes_bounded _ _ (fun _ slot ht => State.rosterFailure_bounded slot ht)
        (by simp (maxDischargeDepth := 15) [h])
    | simp (maxDischargeDepth := 15) [h]

@[simp] theorem State.endAttempt_bounded (c : Chan) (r : Result) (h : s.bounded) : (s.endAttempt c r).bounded := by
  have h1 : (s.modChan c fun ch => { ch with attempt := none, replyWindow := none, txFrame := [] }).bounded :=
    State.modChan_state_bounded c _ (fun _ => rfl) (fun _ => rfl) h
  unfold State.endAttempt
  split <;> (try dsimp only) <;> (try split) <;> (try split)
  all_goals first
    | exact State.rosterTakes_bounded _ _ (fun _ slot ht => State.rosterHeard_bounded slot ht)
        (by simp (maxDischargeDepth := 15) [h1])
    | simp (maxDischargeDepth := 15) [h, h1]

@[simp] theorem State.enterDown_bounded (c : Chan) (h : s.bounded) : (s.enterDown c).bounded :=
  State.modChan_state_bounded c _ (fun _ => rfl) (fun _ => rfl) h

@[simp] theorem State.enterIdleFromDown_bounded (c : Chan) (h : s.bounded) : (s.enterIdleFromDown c).bounded := by
  have h1 : ((s.modChan c fun ch =>
      { ch with state := .idle, failover := none, failback := some s.params.failoverTime, txFrame := [] }).post
        (.channelState c .down .idle .ready)).bounded :=
    State.post_bounded _ (State.modChan_state_bounded c _ (fun _ => rfl) (fun _ => rfl) h)
  unfold State.enterIdleFromDown
  dsimp only
  split <;> simp [h1]

@[simp] theorem State.routeWatch_bounded (slot kind badge : Nat) (h : s.bounded) : (s.routeWatch slot kind badge).1.bounded := by
  unfold State.routeWatch; split <;> (try split) <;> (try split) <;> simp [h]

/-- A message is stored only where the mailbox has room (R188). -/
theorem State.storeMessage_bounded (c : Chan) (k : Crew) (q : Seq) (text : List Byte) (h : s.bounded)
    (hc : (s.chan c).mailbox.length < 2) : (s.storeMessage c k q text).bounded := by
  unfold State.storeMessage
  refine State.post_bounded _ ⟨h.1, fun d => ?_⟩
  rw [State.modChan_chan]
  split
  · subst_vars
    exact ⟨(h.2 _).1, by simpa using hc⟩
  · exact h.2 d

@[simp] theorem State.route_bounded (c : Chan) (k : Crew) (a : Assembly) (h : s.bounded) : (s.route c k a).1.bounded := by
  unfold State.route
  split
  · exact h
  · split
    · split
      · exact h
      · rename_i hm
        exact State.storeMessage_bounded c k _ _ h (by simpa [Channel.mailboxFull] using hm)
    · split <;> (try split) <;> simp [h]

@[simp] theorem State.acceptFrom_bounded (c : Chan) (k : Crew) (a : Assembly) (h : s.bounded) : (s.acceptFrom c k a).bounded := by
  unfold State.acceptFrom; dsimp only; split <;> simp [h]

@[simp] theorem State.judge_bounded (c : Chan) (a : Assembly) (h : s.bounded) : (s.judge c a).1.bounded := by
  unfold State.judge State.fromStranger; split <;> (try split) <;> (try split) <;> simp [h]

@[simp] theorem State.assembled_bounded (c : Chan) (a : Assembly) (h : s.bounded) : (s.assembled c a).1.bounded := by
  have h1 : ∀ (t : State) x, t.bounded → (t.modChan c fun ch => { ch with assembly := x }).bounded := fun t x ht =>
    State.modChan_state_bounded c _ (fun _ => rfl) (fun _ => rfl) ht
  unfold State.assembled
  split
  · exact h1 _ _ (State.judge_bounded c _ (h1 _ _ h))
  · exact h1 _ _ h

@[simp] theorem State.takeFrame_bounded (c : Chan) (f : Frame) (o : Origin) (h : s.bounded) : (s.takeFrame c f o).1.bounded := by
  unfold State.takeFrame
  split
  · exact h
  · exact State.assembled_bounded c _ h

@[simp] theorem State.enterIdle_bounded (c : Chan) (h : s.bounded) : (s.enterIdle c).bounded :=
  State.modChan_state_bounded c _ (fun _ => rfl) (fun _ => rfl) h

@[simp] theorem State.enterAwaitRepeat_bounded (c : Chan) (h : s.bounded) : (s.enterAwaitRepeat c).bounded :=
  State.modChan_state_bounded c _ (fun _ => by split <;> rfl) (fun _ => by split <;> rfl) h

@[simp] theorem State.endReception_bounded (c : Chan) (h : s.bounded) : (s.endReception c).bounded :=
  State.modChan_state_bounded c _ (fun _ => rfl) (fun _ => rfl) h

@[simp] theorem State.follow_bounded (c : Chan) (d : Direction) (h : s.bounded) : (s.follow c d).bounded := by
  cases d with
  | answer a after => exact State.modChan_state_bounded c _ (fun _ => rfl) (fun _ => rfl) h
  | wait => exact State.enterAwaitRepeat_bounded c h
  | finish => exact State.enterIdle_bounded c h

@[simp] theorem State.receive_bounded (c : Chan) (f : Frame) (o : Origin) (h : s.bounded) : (s.receive c f o).bounded := by
  simp [State.receive, h]

end

end Sys2Proof.Machine
end

