-- ==== Sys2Proof/Laws/Course.lean ====
section
/-! SUPPORT. The course of a command (Console.lean): what a console request and an event do around their own work, said once each. -/

namespace Sys2Proof.Machine

/-! ### Output lines -/

/-- After a command the output lines are right (R204, R137). -/
theorem State.settle_outputsRight (s : State) : s.settle.outputsRight := by
  refine ⟨rfl, fun c => ?_⟩
  simp only [State.settle, State.chan, State.modChans_chans, Four.get_map]

@[simp] theorem State.settle_bare (s : State) : s.settle.bare = s.bare := by
  simp [State.settle, State.bare, Four.map]

@[simp] theorem State.settle_frame_bare (s : State) : s.settle.frame.bare = s.frame.bare := by
  simp [State.settle, State.frame, State.bare, Channel.frame, Four.map]

@[simp] theorem State.settle_summary (s : State) (b : Bool) :
    ({ s.settle with responseLost := b } : State).summary = ({ s with responseLost := b } : State).summary := rfl

@[simp] theorem State.settle_bounded {s : State} (h : s.bounded) : s.settle.bounded := by
  refine ⟨h.1, fun c => ?_⟩
  have := h.2 c
  simpa [State.settle, State.chan, Channel.bounded] using this

@[simp] theorem State.respond_bare (s : State) (tag : Byte) (st : Status) (r : List Byte) : (s.respond tag st r).bare = s.bare := rfl

@[simp] theorem State.respond_frame_bare (s : State) (tag : Byte) (st : Status) (r : List Byte) :
    (s.respond tag st r).frame.bare = s.frame.bare := rfl

/-! ### The state a command's own work finds -/

/-- The state that the work of a console request finds: the transfer made, and no space signal owed. -/
def State.atRequest (s : State) (x : Xfer) : State := (s.requestTransfer x.clocks).withSignals []

/-- The state that the work of an event finds: no space signal owed. -/
def State.atEvent (s : State) : State := s.withSignals []

@[simp] theorem State.atRequest_bare (s : State) (x : Xfer) : (s.atRequest x).bare = (s.withSignals []).bare := rfl
@[simp] theorem State.atRequest_frame_bare (s : State) (x : Xfer) : (s.atRequest x).frame.bare = s.frame.bare := rfl
@[simp] theorem State.atRequest_bounded {s : State} (x : Xfer) (h : s.bounded) : (s.atRequest x).bounded := h

theorem State.console_eq (s : State) (x : Xfer) (work : State → Reply) :
    s.console x work = ((work (s.atRequest x)).1.giveSignals.respond x.tag (work (s.atRequest x)).2.1
      (work (s.atRequest x)).2.2).settle := rfl

theorem State.event_eq (s : State) (work : State → State) : s.event work = (work s.atEvent).giveSignals.settle := rfl

/-! ### A console request -/

section
variable (s : State) (x : Xfer) (work : State → Reply)

/-- The link after a console request whose work keeps the commands that wait, the link and the response-lost indicator. -/
theorem State.console_replied (h : (work (s.atRequest x)).1.shape.pending = s.pending)
    (ho : (work (s.atRequest x)).1.shape.out = s.shifted x.clocks)
    (hl : (work (s.atRequest x)).1.shape.lost = (s.responseLost || !s.readOut x.clocks)) :
    Replied s x (work (s.atRequest x)).2.1
      (if (work (s.atRequest x)).2.1.carries then (work (s.atRequest x)).2.2 else []) (s.console x work) := by
  have hs := (work (s.atRequest x)).1.giveSignals_shape
  rw [State.console_eq]
  refine ⟨?_, rfl, ?_, ?_, State.settle_outputsRight _⟩
  · rw [State.settle_summary]
    have : (work (s.atRequest x)).1.giveSignals.responseLost = (s.responseLost || !s.readOut x.clocks) :=
      (congrArg Shape.lost hs).trans hl
    rw [← this]
    rfl
  · exact (congrArg Shape.out hs).trans ho
  · exact (congrArg Shape.pending hs).trans h

/-- The link after a console request whose work keeps the shape of the state. -/
theorem State.console_replied_of_shape (h : (work (s.atRequest x)).1.shape = (s.atRequest x).shape) :
    Replied s x (work (s.atRequest x)).2.1
      (if (work (s.atRequest x)).2.1.carries then (work (s.atRequest x)).2.2 else []) (s.console x work) :=
  s.console_replied x work (by rw [h]; rfl) (by rw [h]; rfl) (by rw [h]; rfl)

/-- The records after a request whose work owes no space signal. -/
theorem State.console_bare (h : (work (s.atRequest x)).1.signals = []) :
    (s.console x work).bare = (work (s.atRequest x)).1.bare := by
  rw [State.console_eq, State.settle_bare, State.respond_bare, State.giveSignals_none h]

/-- The frame after a request: that of its own work. -/
theorem State.console_frame : (s.console x work).frame.bare = (work (s.atRequest x)).1.frame.bare := by
  rw [State.console_eq, State.settle_frame_bare, State.respond_frame_bare, State.giveSignals_frame]

theorem State.console_bounded {s : State} (hw : ∀ t, t.bounded → (work t).1.bounded) (h : s.bounded) :
    (s.console x work).bounded := by
  rw [State.console_eq]
  exact State.settle_bounded (State.giveSignals_bounded (hw _ (State.atRequest_bounded x h)))

theorem State.console_outputsRight : (s.console x work).outputsRight := State.settle_outputsRight _

theorem State.console_signals : (s.console x work).signals = [] := by
  rw [State.console_eq]; exact (work (s.atRequest x)).1.giveSignals_signals

end

/-! ### An event -/

section
variable (s : State) (work : State → State)

/-- The link after an event whose work keeps the shape of the state but for the clock. -/
theorem State.event_quiet (hp : (work s.atEvent).shape.pending = s.pending) (hh : (work s.atEvent).shape.held = s.held)
    (hl : (work s.atEvent).shape.lost = s.responseLost) (ho : (work s.atEvent).shape.out = s.linkOut) :
    Quiet s (s.event work) := by
  have hs := (work s.atEvent).giveSignals_shape
  rw [State.event_eq]
  exact ⟨(congrArg Shape.held hs).trans hh, (congrArg Shape.lost hs).trans hl, (congrArg Shape.out hs).trans ho,
    (congrArg Shape.pending hs).trans hp, State.settle_outputsRight _⟩

theorem State.event_quiet_of_shape (h : (work s.atEvent).shape = s.atEvent.shape) : Quiet s (s.event work) :=
  s.event_quiet work (by rw [h]; rfl) (by rw [h]; rfl) (by rw [h]; rfl) (by rw [h]; rfl)

theorem State.event_bare (h : (work s.atEvent).signals = []) : (s.event work).bare = (work s.atEvent).bare := by
  rw [State.event_eq, State.settle_bare, State.giveSignals_none h]

theorem State.event_frame : (s.event work).frame.bare = (work s.atEvent).frame.bare := by
  rw [State.event_eq, State.settle_frame_bare, State.giveSignals_frame]

theorem State.event_bounded {s : State} (hw : ∀ t, t.bounded → (work t).bounded) (h : s.bounded) : (s.event work).bounded := by
  rw [State.event_eq]
  exact State.settle_bounded (State.giveSignals_bounded (hw _ (State.withSignals_bounded _ h)))

theorem State.event_outputsRight : (s.event work).outputsRight := State.settle_outputsRight _

theorem State.event_signals : (s.event work).signals = [] := by
  rw [State.event_eq]; exact (work s.atEvent).giveSignals_signals

end

end Sys2Proof.Machine
end

