-- ==== Sys2Proof/Laws/Lists.lean ====
section
/-! SUPPORT. The limits of the lists that crews and devices hold (Safety.lean, State.listsRight): the traffic of telegrams and the work of the tables keep them. -/

namespace Sys2Proof.Machine

/-! ### From frames -/

theorem Crew.bounded_of_frame {k k' : Crew} (e : k.frame = k'.frame) (h : k'.bounded) : k.bounded := by
  have hq := congrArg (fun x : Crew => x.queue.length) e
  have hm := congrArg (fun x : Crew => x.members) e
  simp only [Crew.frame, List.length_mergeSort] at hq hm
  exact ⟨hq ▸ h.1, hm ▸ h.2⟩

section
variable {s t : State}

/-- The traffic of telegrams reorders the queues of crews and changes no device. -/
theorem State.listsRight_of_frame (e : t.frame = s.frame) (h : s.listsRight) : t.listsRight := by
  have hc : t.crews.map Crew.frame = s.crews.map Crew.frame := congrArg (·.crews) e
  have hd : t.devices = s.devices := congrArg (·.devices) e
  refine ⟨fun k hk => ?_, hd ▸ h.2⟩
  obtain ⟨k', hk', he⟩ := List.mem_map.1 (hc ▸ List.mem_map_of_mem hk)
  exact Crew.bounded_of_frame he.symm (h.1 k' hk')

/-- Restarts and cuts of watches change neither. -/
theorem State.listsRight_of_frameWatch (e : t.frameWatch = s.frameWatch) (h : s.listsRight) : t.listsRight := by
  have e' : ({ t with workers := [] } : State).frame = ({ s with workers := [] } : State).frame :=
    congrArg (fun u : State => { u with workers := [] }) e
  exact State.listsRight_of_frame (s := { s with workers := [] }) (t := { t with workers := [] }) e' h

/-- Moves of crews change where they stand, not what their lists hold. -/
theorem State.listsRight_of_frameMoves (e : t.frameMoves = s.frameMoves) (h : s.listsRight) : t.listsRight := by
  let still (k : Crew) : Crew := { k.frame with current := 0 }
  have hc : t.crews.map still = s.crews.map still := congrArg (·.crews) e
  have hd : t.devices = s.devices := congrArg (·.devices) e
  refine ⟨fun k hk => ?_, hd ▸ h.2⟩
  obtain ⟨k', hk', he⟩ := List.mem_map.1 (hc ▸ List.mem_map_of_mem (f := still) hk)
  exact Crew.bounded_of_frame (k := { k with current := 0 }) (k' := { k' with current := 0 }) he.symm (h.1 k' hk')

end

section
variable {s : State}

/-! ### Updates -/

@[simp] theorem State.modChan_lists (c : Chan) (f : Channel → Channel) (h : s.listsRight) : (s.modChan c f).listsRight := h
@[simp] theorem State.modChans_lists (f : Channel → Channel) (h : s.listsRight) : (s.modChans f).listsRight := h
@[simp] theorem State.modWorker_lists (badge : Nat) (f : Worker → Worker) (h : s.listsRight) : (s.modWorker badge f).listsRight := h
@[simp] theorem State.modOrder_lists (n : Nat) (f : Order → Order) (h : s.listsRight) : (s.modOrder n f).listsRight := h
@[simp] theorem State.modPermit_lists (n : Nat) (f : Permit → Permit) (h : s.listsRight) : (s.modPermit n f).listsRight := h
@[simp] theorem State.withSignals_lists (l : List Chan) (h : s.listsRight) : (s.withSignals l).listsRight := h
@[simp] theorem State.withOwed_lists (l : List Nat) (h : s.listsRight) : (s.withOwed l).listsRight := h
@[simp] theorem State.withAlarmOrder_lists (l : List AlarmRef) (h : s.listsRight) : (s.withAlarmOrder l).listsRight := h

@[simp] theorem State.ite_lists {p : Prop} [Decidable p] {a b : State} (ha : a.listsRight) (hb : b.listsRight) :
    (if p then a else b).listsRight := by split <;> assumption

theorem State.modCrew_lists_of (slot : Nat) (f : Crew → Crew) (hf : ∀ k, k.bounded → (f k).bounded) (h : s.listsRight) :
    (s.modCrew slot f).listsRight := by
  refine ⟨fun k hk => ?_, h.2⟩
  obtain ⟨k', hk', rfl⟩ := List.mem_map.1 hk
  split
  · exact hf _ (h.1 _ hk')
  · exact h.1 _ hk'

theorem State.modDevice_lists_of (n : Nat) (f : Device → Device) (hf : ∀ d, d.bounded → (f d).bounded) (h : s.listsRight) :
    (s.modDevice n f).listsRight := by
  refine ⟨h.1, fun d hd => ?_⟩
  obtain ⟨d', hd', rfl⟩ := List.mem_map.1 hd
  split
  · exact hf _ (h.2 _ hd')
  · exact h.2 _ hd'

theorem State.foldl_lists {α : Type} (f : State → α → State) (hf : ∀ t a, t.listsRight → (f t a).listsRight) (l : List α)
    (h : s.listsRight) : (l.foldl f s).listsRight := by
  induction l generalizing s with
  | nil => exact h
  | cons a as ih => exact ih (hf s a h)

theorem State.inOpenOrder_lists {α : Type} (l : List α) (f : State → α → State)
    (hf : ∀ t a, t.listsRight → (f t a).listsRight) (h : s.listsRight) : (s.inOpenOrder l f).listsRight :=
  State.foldl_lists f hf _ h

/-! ### The traffic of telegrams -/

@[simp] theorem State.post_lists (n : Subject) (h : s.listsRight) : (s.post n).listsRight :=
  State.listsRight_of_frame (by simp) h
@[simp] theorem State.signal_lists (c : Chan) (h : s.listsRight) : (s.signal c).listsRight :=
  State.listsRight_of_frame (by simp) h
@[simp] theorem State.flowEval_lists (c : Chan) (h : s.listsRight) : (s.flowEval c).listsRight :=
  State.listsRight_of_frame (by simp) h
@[simp] theorem State.takeSeq_lists (e : Entry) (h : s.listsRight) : (s.takeSeq e).1.listsRight :=
  State.listsRight_of_frame (by simp) h
@[simp] theorem State.enqueue_lists (c : Chan) (e : Entry) (h : s.listsRight) : (s.enqueue c e).listsRight :=
  State.listsRight_of_frame (by simp) h
@[simp] theorem State.tryAdmit_lists (c : Chan) (e : Entry) (fresh : Bool) (h : s.listsRight) : (s.tryAdmit c e fresh).1.listsRight :=
  State.listsRight_of_frame (by simp) h
@[simp] theorem State.withdrawOn_lists (c : Chan) (p : Entry → Bool) (h : s.listsRight) : (s.withdrawOn c p).listsRight :=
  State.listsRight_of_frame (by simp) h
@[simp] theorem State.withdraw_lists (p : Entry → Bool) (h : s.listsRight) : (s.withdraw p).listsRight :=
  State.listsRight_of_frame (by simp) h
@[simp] theorem State.modEntries_lists (p : Entry → Bool) (f : Entry → Entry) (h : s.listsRight) : (s.modEntries p f).listsRight :=
  State.listsRight_of_frame (by simp) h
@[simp] theorem State.unlink_lists (o : Owner) (h : s.listsRight) : (s.unlink o).listsRight :=
  State.listsRight_of_frame (by simp) h
@[simp] theorem State.removeEntry_lists (c : Chan) (e : Entry) (h : s.listsRight) : (s.removeEntry c e).listsRight :=
  State.listsRight_of_frame (by simp) h
@[simp] theorem State.syncOrderDefer_lists (slot : Nat) (h : s.listsRight) : (s.syncOrderDefer slot).listsRight :=
  State.listsRight_of_frame (by simp) h
@[simp] theorem State.syncPermitDefer_lists (serial : Nat) (h : s.listsRight) : (s.syncPermitDefer serial).listsRight :=
  State.listsRight_of_frame (by simp) h
@[simp] theorem State.setTg_lists (serial : Nat) (tg : PermitTg) (st : TgStatus) (h : s.listsRight) : (s.setTg serial tg st).listsRight :=
  State.listsRight_of_frame (by simp) h
@[simp] theorem State.oweFollowUp_lists (n : Nat) (h : s.listsRight) : (s.oweFollowUp n).listsRight :=
  State.listsRight_of_frame (by simp) h
@[simp] theorem State.setFollowUp_lists (n : Nat) (st : FollowStatus) (h : s.listsRight) : (s.setFollowUp n st).listsRight :=
  State.listsRight_of_frame (by simp) h
@[simp] theorem State.setPrompts_lists (slot : Nat) (body : Body) (st : PromptStatus) (h : s.listsRight) : (s.setPrompts slot body st).listsRight :=
  State.listsRight_of_frame (by simp) h
@[simp] theorem State.textResult_lists (c : Chan) (e : Entry) (r : TextOutcome) (h : s.listsRight) : (s.textResult c e r).listsRight :=
  State.listsRight_of_frame (by simp) h
@[simp] theorem State.checkFueled_lists (fuel : Nat) (slot : Nat) (h : s.listsRight) : (s.checkFueled fuel slot).listsRight :=
  State.listsRight_of_frame (by simp) h
@[simp] theorem State.check_lists (slot : Nat) (h : s.listsRight) : (s.check slot).listsRight :=
  State.listsRight_of_frame (by simp) h
@[simp] theorem State.offerHead_lists (slot : Nat) (h : s.listsRight) : (s.offerHead slot).listsRight :=
  State.listsRight_of_frame (by simp) h
@[simp] theorem State.offerFollowUp_lists (n : Nat) (h : s.listsRight) : (s.offerFollowUp n).listsRight :=
  State.listsRight_of_frame (by simp) h
@[simp] theorem State.offerOwedAndHead_lists (slot : Nat) (h : s.listsRight) : (s.offerOwedAndHead slot).listsRight :=
  State.listsRight_of_frame (by simp) h
@[simp] theorem State.offerPrompt_lists (badge : Nat) (overdue : Bool) (h : s.listsRight) : (s.offerPrompt badge overdue).listsRight :=
  State.listsRight_of_frame (by simp) h
@[simp] theorem State.strike_lists (slot badge : Nat) (h : s.listsRight) : (s.strike slot badge).listsRight :=
  State.listsRight_of_frame (by simp) h
@[simp] theorem State.leadPrompt_lists (badge : Nat) (h : s.listsRight) : (s.leadPrompt badge).listsRight :=
  State.listsRight_of_frame (by simp) h
@[simp] theorem State.offerPermit_lists (serial : Nat) (tg : PermitTg) (h : s.listsRight) : (s.offerPermit serial tg).listsRight :=
  State.listsRight_of_frame (by simp) h
@[simp] theorem State.takeBack_lists (serial : Nat) (tg : PermitTg) (h : s.listsRight) : (s.takeBack serial tg).listsRight :=
  State.listsRight_of_frame (by simp) h
@[simp] theorem State.offerDeferredOf_lists (serial : Nat) (tgs : List PermitTg) (h : s.listsRight) : (State.offerDeferredOf serial tgs s).1.listsRight :=
  State.listsRight_of_frame (by simp) h
@[simp] theorem State.offerDeferred_lists (serial : Nat) (h : s.listsRight) : (s.offerDeferred serial).1.listsRight :=
  State.listsRight_of_frame (by simp) h
@[simp] theorem State.freeAnswer_lists (slot serial : Nat) (r : SurrenderReason) (h : s.listsRight) : (s.freeAnswer slot serial r).listsRight :=
  State.listsRight_of_frame (by simp) h
@[simp] theorem State.permitWalk_lists (c : Chan) (fuel : Nat) (h : s.listsRight) : (State.permitWalk c fuel s).listsRight :=
  State.listsRight_of_frame (by simp) h
@[simp] theorem State.offerOwed_lists (l : List Nat) (h : s.listsRight) : (State.offerOwed l s).1.listsRight :=
  State.listsRight_of_frame (by simp) h
@[simp] theorem State.walkCrew_lists (slot : Nat) (h : s.listsRight) : (s.walkCrew slot).1.listsRight :=
  State.listsRight_of_frame (by simp) h
@[simp] theorem State.orderWalk_lists (c : Chan) (fuel place : Nat) (h : s.listsRight) : (State.orderWalk c fuel place s).listsRight :=
  State.listsRight_of_frame (by simp) h
@[simp] theorem State.giveSignal_lists (c : Chan) (h : s.listsRight) : (s.giveSignal c).listsRight :=
  State.listsRight_of_frame (by simp) h
@[simp] theorem State.deliverSignals_lists (fuel : Nat) (h : s.listsRight) : (s.deliverSignals fuel).listsRight :=
  State.listsRight_of_frame (by simp) h
@[simp] theorem State.giveSignals_lists (h : s.listsRight) : (s.giveSignals).listsRight :=
  State.listsRight_of_frame (by simp) h
@[simp] theorem State.arm_lists (c : Chan) (h : s.listsRight) : (s.arm c).listsRight :=
  State.listsRight_of_frame (by simp) h
@[simp] theorem State.settleCall_lists (c : Chan) (h : s.listsRight) : (s.settleCall c).listsRight :=
  State.listsRight_of_frame (by simp) h
@[simp] theorem State.back_lists (c : Chan) (e : Entry) (r : Deferral) (d : DropReason) (h : s.listsRight) : (s.returnToOwner State.check c e r d).listsRight :=
  State.listsRight_of_frame (by simp) h
@[simp] theorem State.migrate_lists (b : Chan) (e : Entry) (h : s.listsRight) : (s.migrate b e).listsRight :=
  State.listsRight_of_frame (by simp) h
@[simp] theorem State.migrateCrew_lists (slot : Nat) (a b : Chan) (h : s.listsRight) : (s.migrateCrew slot a b).listsRight :=
  State.listsRight_of_frame (by simp) h
@[simp] theorem State.moveDeferrals_lists (slot : Nat) (a b : Chan) (h : s.listsRight) : (s.moveDeferrals slot a b).listsRight :=
  State.listsRight_of_frame (by simp) h
@[simp] theorem State.offerPermitsOf_lists (slot : Nat) (b : Chan) (h : s.listsRight) : (s.offerPermitsOf slot b).listsRight :=
  State.listsRight_of_frame (by simp) h
@[simp] theorem State.modFlying_lists (c : Chan) (f : Entry → Entry) (h : s.listsRight) : (s.modFlying c f).listsRight :=
  State.listsRight_of_frame (by simp) h
@[simp] theorem State.tellOwner_lists (e : Entry) (b : Bool) (h : s.listsRight) : (s.tellOwner e b).listsRight :=
  State.listsRight_of_frame (by simp) h
@[simp] theorem State.checkCrewOf_lists (n : Nat) (h : s.listsRight) : (s.checkCrewOf n).listsRight :=
  State.listsRight_of_frame (by simp) h
@[simp] theorem State.unlinkOrder_lists (n : Nat) (h : s.listsRight) : (s.unlinkOrder n).listsRight :=
  State.listsRight_of_frame (by simp) h
@[simp] theorem State.endUnlinked_lists (e : Entry) (h : s.listsRight) : (s.endUnlinked e).listsRight :=
  State.listsRight_of_frame (by simp) h
@[simp] theorem State.endOrphan_lists (c : Chan) (e : Entry) (r : Result) (h : s.listsRight) : (s.endOrphan c e r).listsRight :=
  State.listsRight_of_frame (by simp) h
@[simp] theorem State.requeue_lists (c : Chan) (e : Entry) (h : s.listsRight) : (s.requeue c e).listsRight :=
  State.listsRight_of_frame (by simp) h
@[simp] theorem State.endSent_lists (c : Chan) (e : Entry) (h : s.listsRight) : (s.endSent c e).listsRight :=
  State.listsRight_of_frame (by simp) h
@[simp] theorem State.flushEntry_lists (c : Chan) (e : Entry) (h : s.listsRight) : (s.flushEntry c e).listsRight :=
  State.listsRight_of_frame (by simp) h
@[simp] theorem State.migrateStrays_lists (c : Chan) (h : s.listsRight) : (s.migrateStrays c).listsRight :=
  State.listsRight_of_frame (by simp) h
@[simp] theorem State.flush_lists (c : Chan) (h : s.listsRight) : (s.flush c).1.listsRight :=
  State.listsRight_of_frame (by simp) h

/-! ### Changes to a crew that leave its lists -/

@[simp] theorem State.modCrew_lists (slot : Nat) (f0 : Crew → Nat) (f1 : Crew → Nat) (f2 : Crew → Nat) (f3 : Crew → Chan) (f4 : Crew → Option Chan) (f5 : Crew → Chan) (f6 : Crew → Reach) (f7 : Crew → Nat) (f8 : Crew → Option Word32) (f9 : Crew → Seq) (f10 : Crew → Option Seq) (f12 : Crew → CrewAlarm) (f13 : Crew → Option AlarmCause) (f14 : Crew → Option Nat) (f15 : Crew → Bool) (f17 : Crew → Option (Nat × Nat)) (h : s.listsRight) :
    (s.modCrew slot fun k => ⟨f0 k, f1 k, f2 k, f3 k, f4 k, f5 k, f6 k, f7 k, f8 k, f9 k, f10 k, k.members, f12 k, f13 k, f14 k, f15 k, k.queue, f17 k⟩).listsRight :=
  State.modCrew_lists_of slot _ (fun _ hk => hk) h

/-! ### Watches and permits -/

@[simp] theorem State.restart_lists (badge : Nat) (h : s.listsRight) : (s.restart badge).listsRight :=
  State.listsRight_of_frameWatch (s.restart_frameWatch badge) h

@[simp] theorem State.cutMember_lists (badge : Nat) (h : s.listsRight) : (s.cutMember badge).listsRight :=
  State.listsRight_of_frameWatch (s.cutMember_frameWatch badge) h

@[simp] theorem State.cutCrew_lists (slot : Nat) (h : s.listsRight) : (s.cutCrew slot).listsRight :=
  State.listsRight_of_frameWatch (s.cutCrew_frameWatch slot) h

@[simp] theorem State.setPermitState_lists (serial : Nat) (new : PermitState) (cause : PermitCause) (h : s.listsRight) : (s.setPermitState serial new cause).listsRight := by
  unfold State.setPermitState; split <;> (try dsimp only) <;> (try split) <;> simp (maxDischargeDepth := 15) [h]

@[simp] theorem State.leaveWaits_lists (serial : Nat) (h : s.listsRight) : (s.leaveWaits serial).listsRight := by
  refine ⟨h.1, fun d hd => ?_⟩
  obtain ⟨d', hd', rfl⟩ := List.mem_map.1 hd
  exact h.2 d' hd'

@[simp] theorem State.stall_lists (serial : Nat) (phase : Phase) (cause : StallCause) (h : s.listsRight) : (s.stall serial phase cause).listsRight := by
  simp (maxDischargeDepth := 15) [h, State.stall]

@[simp] theorem State.dropInstruction_lists (serial : Nat) (h : s.listsRight) : (s.dropInstruction serial).listsRight := by
  simp (maxDischargeDepth := 15) [h, State.dropInstruction]

@[simp] theorem State.dropIssue_lists (serial : Nat) (h : s.listsRight) : (s.dropIssue serial).listsRight := by
  simp (maxDischargeDepth := 15) [h, State.dropIssue]

@[simp] theorem State.dropAnswer_lists (serial : Nat) (h : s.listsRight) : (s.dropAnswer serial).listsRight := by
  unfold State.dropAnswer; split <;> simp (maxDischargeDepth := 15) [h]

@[simp] theorem State.actOnClaim_lists (serial device : Nat) (what : ClaimFor) (a : ClaimAnswer) (h : s.listsRight) : (s.actOnClaim serial device what a).listsRight := by
  cases a <;> simp (maxDischargeDepth := 15) [h, State.actOnClaim]

/-- An isolation claim is granted only where there is room for its tag (R54). -/
theorem Device.claim_bounded (d : Device) (serial : Nat) (what : ClaimFor) (h : d.bounded) : (d.claim serial what).1.bounded := by
  have hi : ∀ a, (d.isolationAction a).hangsTag = true := fun a => by
    unfold Device.isolationAction; split <;> (try cases a) <;> rfl
  have hr : (d.restorationAction serial).hangsTag = false := by
    unfold Device.restorationAction; split <;> (try split) <;> (try split) <;> rfl
  unfold Device.claim
  split
  · exact h
  · split
    · split
      · exact h
      · exact ⟨h.1, fun _ => by dsimp only; omega⟩
    · exact ⟨h.1, fun hp => by simp [hr] at hp⟩

/-- A DONE report leaves at most 8 tags; the pending instruction is then to become absent (R57). -/
theorem Device.applyDone_tags_length (d : Device) (h : d.bounded) : d.applyDone.tags.length ≤ 8 := by
  obtain ⟨h8, hp⟩ := h
  unfold Device.applyDone
  split
  · exact h8
  · rename_i serial a ha
    have he : (d.tags.erase serial).length ≤ 8 := List.length_erase_le.trans h8
    cases a <;> simp [ha, Action.hangsTag] at hp <;> simp <;> omega

theorem Device.freed_bounded (d : Device) (h : d.tags.length ≤ 8) : Device.bounded { d with pending := none } :=
  ⟨h, fun hp => by simp at hp⟩

@[simp] theorem State.claim_lists (n serial : Nat) (what : ClaimFor) (h : s.listsRight) : (s.claim n serial what).1.listsRight := by
  unfold State.claim
  split
  · exact h
  · exact State.modDevice_lists_of n _ (fun d hd => d.claim_bounded serial what hd) h

@[simp] theorem State.claimNext_lists (serial : Nat) (h : s.listsRight) : (s.claimNext serial).1.listsRight := by
  unfold State.claimNext; split <;> (try split) <;> (try split) <;> simp (maxDischargeDepth := 15) [h]

end

@[simp] theorem State.handTo_lists (device : Nat) (l : List Nat) (s : State) (h : s.listsRight) : (State.handTo device l s).listsRight := by
  induction l generalizing s with
  | nil => exact h
  | cons serial more ih =>
    simp only [State.handTo]
    split <;> (try split) <;> (try split) <;> (try split)
    all_goals first
      | exact ih _ (by simp (maxDischargeDepth := 15) [h])
      | simp (maxDischargeDepth := 15) [h]

section
variable {s : State}

@[simp] theorem State.freeDevice_lists (device : Nat) (h : s.listsRight) : (s.freeDevice device).listsRight :=
  State.handTo_lists _ _ _ (State.modDevice_lists_of device _ (fun d hd => d.freed_bounded hd.1) h)

@[simp] theorem State.issuePermit_lists (serial : Nat) (h : s.listsRight) : (s.issuePermit serial).listsRight := by
  simp (maxDischargeDepth := 15) [h, State.issuePermit]

@[simp] theorem State.callIssue_lists (serial : Nat) (h : s.listsRight) : (s.callIssue serial).listsRight := by
  unfold State.callIssue; split <;> simp (maxDischargeDepth := 15) [h]

@[simp] theorem State.closePermit_lists (serial : Nat) (cause : PermitCause) (h : s.listsRight) : (s.closePermit serial cause).listsRight := by
  unfold State.closePermit; split <;> (try dsimp only) <;> (try split) <;> simp (maxDischargeDepth := 15) [h]

@[simp] theorem State.beginRestoration_lists (serial : Nat) (cause : PermitCause) (h : s.listsRight) : (s.beginRestoration serial cause).listsRight := by
  unfold State.beginRestoration; split <;> (try split) <;> simp (maxDischargeDepth := 15) [h]

@[simp] theorem State.releaseUnreported_lists (serial : Nat) (h : s.listsRight) : (s.releaseUnreported serial).listsRight := by
  unfold State.releaseUnreported; split <;> simp (maxDischargeDepth := 15) [h]

@[simp] theorem State.releaseDone_lists (serial : Nat) (h : s.listsRight) : (s.releaseDone serial).listsRight := by
  unfold State.releaseDone
  split
  · exact h
  · rename_i i _
    refine State.dropInstruction_lists _ (State.handTo_lists _ _ _ ⟨h.1, fun d hd => ?_⟩)
    simp only [State.modDevice_devices, State.modPermit_devices, tMod, List.map_map, List.mem_map, Function.comp_apply] at hd
    obtain ⟨d', hd', rfl⟩ := hd
    by_cases hn : d'.number = i.device
    · simp only [hn, if_true, Device.applyDone_number]
      exact Device.freed_bounded _ (d'.applyDone_tags_length (h.2 d' hd'))
    · simp only [hn, if_false]
      exact h.2 d' hd'

@[simp] theorem State.reportDone_lists (serial : Nat) (h : s.listsRight) : (s.reportDone serial).listsRight := by
  unfold State.reportDone; split <;> (try dsimp only) <;> (try split) <;> (try split) <;> (try split) <;> simp (maxDischargeDepth := 15) [h]

@[simp] theorem State.reportUnable_lists (serial : Nat) (h : s.listsRight) : (s.reportUnable serial).listsRight := by
  unfold State.reportUnable; split <;> (try dsimp only) <;> (try split) <;> simp (maxDischargeDepth := 15) [h]

@[simp] theorem State.stepReport_lists (slot serial index outcome : Nat) (h : s.listsRight) : (s.stepReport slot serial index outcome).listsRight := by
  unfold State.stepReport; dsimp only; split <;> (try split) <;> (try split) <;> (try split) <;> (try split) <;> simp (maxDischargeDepth := 15) [h]

@[simp] theorem State.answerSurrender_lists (serial : Nat) (a : SurrenderAnswer) (r : Option SurrenderReason) (h : s.listsRight) : (s.answerSurrender serial a r).listsRight := by
  unfold State.answerSurrender; dsimp only; split <;> simp (maxDischargeDepth := 15) [h]

@[simp] theorem State.surrenderAsked_lists (slot serial : Nat) (h : s.listsRight) : (s.surrenderAsked slot serial).listsRight := by
  unfold State.surrenderAsked; split <;> (try split) <;> (try split) <;> (try split) <;> (try split) <;> (try split) <;> simp (maxDischargeDepth := 15) [h]

@[simp] theorem State.resumePermit_lists (serial : Nat) (h : s.listsRight) : (s.resumePermit serial).listsRight := by
  unfold State.resumePermit; split <;> (try split) <;> (try split) <;> simp (maxDischargeDepth := 15) [h]

@[simp] theorem State.holdPermits_lists (slot : Nat) (h : s.listsRight) : (s.holdPermits slot).listsRight :=
  State.foldl_lists _ (fun _ _ ht => by simp [ht]) _ h

@[simp] theorem State.resumePermits_lists (slot : Nat) (h : s.listsRight) : (s.resumePermits slot).listsRight :=
  State.foldl_lists _ (fun _ _ ht => by simp [ht]) _ h

@[simp] theorem State.permitDelivered_lists (tg : PermitTg) (serial : Nat) (h : s.listsRight) : (s.permitDelivered tg serial).listsRight := by
  unfold State.permitDelivered; dsimp only; split <;> simp (maxDischargeDepth := 15) [h]

@[simp] theorem State.permitFailed_lists (tg : PermitTg) (serial : Nat) (h : s.listsRight) : (s.permitFailed tg serial).listsRight := by
  unfold State.permitFailed; split <;> (try split) <;> (try dsimp only) <;> (try split) <;> simp (maxDischargeDepth := 15) [h]

/-! ### Orders -/

@[simp] theorem State.tellInForce_lists (serial holder : Nat) (h : s.listsRight) : (s.tellInForce serial holder).listsRight :=
  State.foldl_lists _ (fun _ _ ht => by simp (maxDischargeDepth := 15) [State.clearBlocked, ht]) _ h

@[simp] theorem State.readback_lists (slot serial digest : Nat) (h : s.listsRight) : (s.readback slot serial digest).listsRight := by
  unfold State.readback; dsimp only; split <;> (try split) <;> (try split) <;> (try split) <;> (try split) <;> simp (maxDischargeDepth := 15) [h]

@[simp] theorem State.withdrawOrder_lists (n : Nat) (h : s.listsRight) : (s.withdrawOrder n).listsRight := by
  simp (maxDischargeDepth := 15) [h, State.withdrawOrder]

@[simp] theorem State.leaveQueue_lists (slot n : Nat) (h : s.listsRight) : (s.leaveQueue slot n).listsRight :=
  State.listsRight_of_frame (s.leaveQueue_frame slot n)
    (State.modCrew_lists_of slot _ (fun _ hk => ⟨List.length_erase_le.trans hk.1, hk.2⟩) h)

/-- An order is placed in a queue that has room (R26). -/
theorem State.placeOrder_lists (slot n : Nat) (hs : ∀ k ∈ s.crews, k.slot = slot → k.queue.length < 8) (h : s.listsRight) :
    (s.placeOrder slot n).listsRight := by
  refine State.listsRight_of_frame (s.placeOrder_frame slot n) ⟨fun k hk => ?_, h.2⟩
  obtain ⟨k', hk', rfl⟩ := List.mem_map.1 hk
  split
  · exact ⟨hs k' hk' (by assumption), (h.1 k' hk').2⟩
  · exact h.1 k' hk'

@[simp] theorem State.orderReply_lists (slot n code : Nat) (h : s.listsRight) : (s.orderReply slot n code).listsRight := by
  unfold State.orderReply
  split
  · simp [h]
  · split
    · split <;> simp (maxDischargeDepth := 15) [State.replyAccept, State.replyDecline, State.replyOnSite, State.replyComplete,
        State.replyUnable, h]
    · simp [h]

@[simp] theorem State.followWithCancel_lists (n : Nat) (h : s.listsRight) : (s.followWithCancel n).listsRight := by
  unfold State.followWithCancel; dsimp only; split <;> simp (maxDischargeDepth := 15) [h]

@[simp] theorem State.orderDelivered_lists (n : Nat) (h : s.listsRight) : (s.orderDelivered n).listsRight := by
  unfold State.orderDelivered; split <;> (try dsimp only) <;> (try split) <;> (try split) <;> simp (maxDischargeDepth := 15) [h]

@[simp] theorem State.orderFailed_lists (n : Nat) (cause : OrderCause) (h : s.listsRight) : (s.orderFailed n cause).listsRight := by
  unfold State.orderFailed; split <;> (try dsimp only) <;> (try split) <;> (try split) <;> simp (maxDischargeDepth := 15) [h]

@[simp] theorem State.followUpFailed_lists (n : Nat) (h : s.listsRight) : (s.followUpFailed n).listsRight := by
  unfold State.followUpFailed; split <;> simp (maxDischargeDepth := 15) [h]

/-! ### Reachability and alarms -/

@[simp] theorem State.setStanding_lists (slot failures : Nat) (reach : Reach) (heard : Bool) (h : s.listsRight) :
    (s.setStanding slot failures reach heard).listsRight := by
  unfold State.setStanding; split <;> (try dsimp only) <;> (try split) <;> (try split) <;> simp (maxDischargeDepth := 15) [h]

@[simp] theorem State.rosterFailure_lists (slot : Nat) (h : s.listsRight) : (s.rosterFailure slot).listsRight := by
  unfold State.rosterFailure; split <;> simp (maxDischargeDepth := 15) [h]

@[simp] theorem State.rosterHeard_lists (slot : Nat) (h : s.listsRight) : (s.rosterHeard slot).listsRight := by
  simp (maxDischargeDepth := 15) [h, State.rosterHeard]

@[simp] theorem State.reportCondition_lists (slot : Nat) (was : Bool) (h : s.listsRight) : (s.reportCondition slot was).listsRight := by
  unfold State.reportCondition; split <;> simp (maxDischargeDepth := 15) [h]

theorem State.armAll_lists (cs : List Chan) (h : s.listsRight) : (s.inOpenOrder cs State.arm).listsRight :=
  State.inOpenOrder_lists cs _ (fun _ c ht => State.arm_lists c ht) h

@[simp] theorem State.joinSet_lists (a : AlarmRef) (c : Chan) (h : s.listsRight) : (s.joinSet a c).listsRight := h

@[simp] theorem State.enterSets_lists (a : AlarmRef) (c : Chan) (h : s.listsRight) : (s.enterSets a c).listsRight := by
  have h1 := fun (t : State) (ht : t.listsRight) (l : List Chan) => State.foldl_lists
    (fun (t : State) c => t.modChan c fun ch => { ch with alarmSet := ch.alarmSet.erase a ++ [a] })
    (fun _ c ht => State.modChan_lists c _ ht) l ht
  unfold State.enterSets
  exact State.armAll_lists _ (h1 _ (State.withAlarmOrder_lists _ h) _)

@[simp] theorem State.leaveSets_lists (a : AlarmRef) (h : s.listsRight) : (s.leaveSets a).listsRight := by
  unfold State.leaveSets
  exact State.foldl_lists _ (fun _ c ht => State.settleCall_lists c ht) _ (by simp [h])

@[simp] theorem State.workerAlarm_lists (badge : Nat) (cause : AlarmCause) (h : s.listsRight) : (s.workerAlarm badge cause).listsRight := by
  unfold State.workerAlarm; split <;> (try split) <;> (try dsimp only) <;> (try split) <;> simp (maxDischargeDepth := 15) [h, State.armAll_lists]

@[simp] theorem State.crewAlarm_lists (slot : Nat) (cause : AlarmCause) (h : s.listsRight) : (s.crewAlarm slot cause).listsRight := by
  unfold State.crewAlarm; split <;> (try dsimp only) <;> (try split) <;> simp (maxDischargeDepth := 15) [h, State.armAll_lists]

@[simp] theorem State.widen_lists (a : AlarmRef) (h : s.listsRight) : (s.widen a).listsRight := by
  unfold State.widen
  exact State.armAll_lists _ (State.foldl_lists _ (fun _ c ht => State.joinSet_lists a c ht) _ h)

@[simp] theorem State.checkedIn_lists (w : Worker) (h : s.listsRight) : (s.checkedIn w).listsRight := by
  unfold State.checkedIn; split <;> simp (maxDischargeDepth := 15) [h]

@[simp] theorem State.checkIn_lists (badge : Nat) (h : s.listsRight) : (s.checkIn badge).listsRight := by
  unfold State.checkIn; split <;> (try split) <;> simp (maxDischargeDepth := 15) [State.checkinDuringAlarm, h]

@[simp] theorem State.resume_lists (badge : Nat) (h : s.listsRight) : (s.resume badge).listsRight := by
  unfold State.resume; split <;> (try split) <;> simp (maxDischargeDepth := 15) [State.checkinDuringAlarm, h]

@[simp] theorem State.rest_lists (badge : Nat) (h : s.listsRight) : (s.rest badge).1.listsRight := by
  unfold State.rest; split <;> (try split) <;> (try split) <;> simp (maxDischargeDepth := 15) [State.checkinDuringAlarm, h]

@[simp] theorem State.emergency_lists (slot badge : Nat) (cause : AlarmCause) (h : s.listsRight) : (s.emergency slot badge cause).listsRight := by
  unfold State.emergency; split <;> simp (maxDischargeDepth := 15) [h]

/-! ### Moves, attempts, reception -/

@[simp] theorem State.moveAlarms_lists (slot : Nat) (b : Chan) (h : s.listsRight) : (s.moveAlarms slot b).listsRight :=
  State.listsRight_of_frameMoves (by simp) h

@[simp] theorem State.moveCrew_lists (slot : Nat) (b : Chan) (cause : MoveCause) (h : s.listsRight) :
    (s.moveCrew slot b cause).listsRight := State.listsRight_of_frameMoves (by simp) h

@[simp] theorem State.moveOff_lists (c : Chan) (cause : MoveCause) (td : Bool) (h : s.listsRight) :
    (s.moveOff c cause td).listsRight := State.listsRight_of_frameMoves (by simp) h

@[simp] theorem State.moveHome_lists (c : Chan) (h : s.listsRight) : (s.moveHome c).listsRight :=
  State.listsRight_of_frameMoves (by simp) h

@[simp] theorem State.beginAttempt_lists (c : Chan) (e : Entry) (h : s.listsRight) : (s.beginAttempt c e).listsRight := by
  unfold State.beginAttempt
  exact State.modChan_lists c _ (State.tellOwner_lists e true h)

@[simp] theorem State.ownerDelivered_lists (c : Chan) (e : Entry) (h : s.listsRight) : (s.ownerDelivered c e).listsRight := by
  unfold State.ownerDelivered; split <;> (try split) <;> simp (maxDischargeDepth := 15) [h]

@[simp] theorem State.ownerFailed_lists (c : Chan) (e : Entry) (cause : OrderCause) (r : TextOutcome) (h : s.listsRight) : (s.ownerFailed c e cause r).listsRight := by
  unfold State.ownerFailed; split <;> (try split) <;> simp (maxDischargeDepth := 15) [h]

theorem State.rosterTakes_lists (e : Entry) (f : State → Nat → State) (hf : ∀ t slot, t.listsRight → (f t slot).listsRight)
    (h : s.listsRight) : (s.rosterTakes e f).listsRight := by
  unfold State.rosterTakes; split <;> simp [hf, h]

@[simp] theorem State.endFailed_lists (c : Chan) (e : Entry) (cause : FailCause) (h : s.listsRight) :
    (s.endFailed c e cause).listsRight := by
  unfold State.endFailed
  split <;> (try split)
  all_goals first
    | exact State.rosterTakes_lists _ _ (fun _ slot ht => State.rosterFailure_lists slot ht)
        (by simp (maxDischargeDepth := 15) [h])
    | simp (maxDischargeDepth := 15) [h]

@[simp] theorem State.endAttempt_lists (c : Chan) (r : Result) (h : s.listsRight) : (s.endAttempt c r).listsRight := by
  have hr := fun (e : Entry) => State.rosterTakes_lists (s := (((s.modChan c fun ch =>
    { ch with attempt := none, replyWindow := none, txFrame := [] }).removeEntry c e).ownerDelivered c e)) e _
      (fun t slot ht => State.rosterHeard_lists slot ht) (by simp (maxDischargeDepth := 15) [h])
  unfold State.endAttempt
  split <;> (try dsimp only) <;> (try split) <;> (try split) <;> first | exact hr _ | simp (maxDischargeDepth := 15) [h]

@[simp] theorem State.enterDown_lists (c : Chan) (h : s.listsRight) : (s.enterDown c).listsRight := h

@[simp] theorem State.enterIdleFromDown_lists (c : Chan) (h : s.listsRight) : (s.enterIdleFromDown c).listsRight := by
  unfold State.enterIdleFromDown
  dsimp only
  split <;> simp (maxDischargeDepth := 9) [h]

@[simp] theorem State.routeWatch_lists (slot kind badge : Nat) (h : s.listsRight) : (s.routeWatch slot kind badge).1.listsRight := by
  unfold State.routeWatch; split <;> (try split) <;> (try split) <;> simp [h]

/-- A message is stored only where the mailbox has room (R188). -/
@[simp] theorem State.storeMessage_lists (c : Chan) (k : Crew) (q : Seq) (text : List Byte) (h : s.listsRight) :
    (s.storeMessage c k q text).listsRight := by simp [State.storeMessage, h]

@[simp] theorem State.route_lists (c : Chan) (k : Crew) (a : Assembly) (h : s.listsRight) : (s.route c k a).1.listsRight := by
  unfold State.route
  split <;> (try split) <;> (try split) <;> (try split) <;> simp [h]

@[simp] theorem State.acceptFrom_lists (c : Chan) (k : Crew) (a : Assembly) (h : s.listsRight) : (s.acceptFrom c k a).listsRight := by
  unfold State.acceptFrom; dsimp only; split <;> simp [h]

@[simp] theorem State.judge_lists (c : Chan) (a : Assembly) (h : s.listsRight) : (s.judge c a).1.listsRight := by
  unfold State.judge State.fromStranger; split <;> (try split) <;> (try split) <;> simp [h]

@[simp] theorem State.assembled_lists (c : Chan) (a : Assembly) (h : s.listsRight) : (s.assembled c a).1.listsRight := by
  have h1 : ∀ (t : State) x, t.listsRight → (t.modChan c fun ch => { ch with assembly := x }).listsRight := fun t x ht =>
    State.modChan_lists c _ ht
  unfold State.assembled
  split
  · exact h1 _ _ (State.judge_lists c _ (h1 _ _ h))
  · exact h1 _ _ h

@[simp] theorem State.takeFrame_lists (c : Chan) (f : Frame) (o : Origin) (h : s.listsRight) : (s.takeFrame c f o).1.listsRight := by
  unfold State.takeFrame
  split
  · exact h
  · exact State.assembled_lists c _ h

@[simp] theorem State.enterIdle_lists (c : Chan) (h : s.listsRight) : (s.enterIdle c).listsRight := h

@[simp] theorem State.enterAwaitRepeat_lists (c : Chan) (h : s.listsRight) : (s.enterAwaitRepeat c).listsRight := h

@[simp] theorem State.endReception_lists (c : Chan) (h : s.listsRight) : (s.endReception c).listsRight := h

@[simp] theorem State.follow_lists (c : Chan) (d : Direction) (h : s.listsRight) : (s.follow c d).listsRight := by
  cases d <;> exact h

@[simp] theorem State.receive_lists (c : Chan) (f : Frame) (o : Origin) (h : s.listsRight) : (s.receive c f o).listsRight := by
  simp [State.receive, h]

end

@[simp] theorem State.abandon_lists {s : State} (c : Chan) (h : s.listsRight) : (s.abandon c).listsRight := by
  refine State.listsRight_of_frame (s.abandon_frame c) ?_
  split <;> exact h

end Sys2Proof.Machine
end

