-- ==== Sys2Proof/Laws/PerInstr.lean ====
section
/-! SUPPORT. Statements about every command as syntax, one lemma for each constructor. -/

namespace Sys2Proof.Laws.RequestCode

/-- A command that a request frame carries is the request its code names; and the code is one of the request table, unless
the command is an unknown request (R195, 10.6). -/
def Statement (i : Instr) : Prop :=
  ∀ code x params, i.request? = some (code, x, params) →
    (knownCodes.contains code.toNat = true ∧ requestOf x code params = i) ∨ i = .unknownRequest x code params

theorem powerOnReset : Statement .powerOnReset := nofun
theorem readTransfer (clocks : Nat) : Statement (.readTransfer clocks) := nofun
theorem frameError (bytes : List Byte) : Statement (.frameError bytes) := nofun
theorem unknownRequest (x : Xfer) (code : Byte) (params : List Byte) : Statement (.unknownRequest x code params) := by
  intro _ _ _ h; cases h; exact .inr rfl
theorem identify (x : Xfer) (params : List Byte) : Statement (.identify x params) := by
  intro _ _ _ h; cases h; exact .inl ⟨rfl, rfl⟩
theorem readNotices (x : Xfer) (params : List Byte) : Statement (.readNotices x params) := by
  intro _ _ _ h; cases h; exact .inl ⟨rfl, rfl⟩
theorem readClock (x : Xfer) (params : List Byte) : Statement (.readClock x params) := by
  intro _ _ _ h; cases h; exact .inl ⟨rfl, rfl⟩
theorem setClock (x : Xfer) (params : List Byte) : Statement (.setClock x params) := by
  intro _ _ _ h; cases h; exact .inl ⟨rfl, rfl⟩
theorem readParam (x : Xfer) (params : List Byte) : Statement (.readParam x params) := by
  intro _ _ _ h; cases h; exact .inl ⟨rfl, rfl⟩
theorem setParam (x : Xfer) (params : List Byte) : Statement (.setParam x params) := by
  intro _ _ _ h; cases h; exact .inl ⟨rfl, rfl⟩
theorem queryChannel (x : Xfer) (params : List Byte) : Statement (.queryChannel x params) := by
  intro _ _ _ h; cases h; exact .inl ⟨rfl, rfl⟩
theorem signOn (x : Xfer) (params : List Byte) : Statement (.signOn x params) := by
  intro _ _ _ h; cases h; exact .inl ⟨rfl, rfl⟩
theorem signOff (x : Xfer) (params : List Byte) : Statement (.signOff x params) := by
  intro _ _ _ h; cases h; exact .inl ⟨rfl, rfl⟩
theorem addMember (x : Xfer) (params : List Byte) : Statement (.addMember x params) := by
  intro _ _ _ h; cases h; exact .inl ⟨rfl, rfl⟩
theorem removeMember (x : Xfer) (params : List Byte) : Statement (.removeMember x params) := by
  intro _ _ _ h; cases h; exact .inl ⟨rfl, rfl⟩
theorem setChannels (x : Xfer) (params : List Byte) : Statement (.setChannels x params) := by
  intro _ _ _ h; cases h; exact .inl ⟨rfl, rfl⟩
theorem queryCrew (x : Xfer) (params : List Byte) : Statement (.queryCrew x params) := by
  intro _ _ _ h; cases h; exact .inl ⟨rfl, rfl⟩
theorem queryWorker (x : Xfer) (params : List Byte) : Statement (.queryWorker x params) := by
  intro _ _ _ h; cases h; exact .inl ⟨rfl, rfl⟩
theorem createOrder (x : Xfer) (params : List Byte) : Statement (.createOrder x params) := by
  intro _ _ _ h; cases h; exact .inl ⟨rfl, rfl⟩
theorem assignOrder (x : Xfer) (params : List Byte) : Statement (.assignOrder x params) := by
  intro _ _ _ h; cases h; exact .inl ⟨rfl, rfl⟩
theorem unassignOrder (x : Xfer) (params : List Byte) : Statement (.unassignOrder x params) := by
  intro _ _ _ h; cases h; exact .inl ⟨rfl, rfl⟩
theorem cancelOrder (x : Xfer) (params : List Byte) : Statement (.cancelOrder x params) := by
  intro _ _ _ h; cases h; exact .inl ⟨rfl, rfl⟩
theorem bindPermit (x : Xfer) (params : List Byte) : Statement (.bindPermit x params) := by
  intro _ _ _ h; cases h; exact .inl ⟨rfl, rfl⟩
theorem retireOrder (x : Xfer) (params : List Byte) : Statement (.retireOrder x params) := by
  intro _ _ _ h; cases h; exact .inl ⟨rfl, rfl⟩
theorem queryOrder (x : Xfer) (params : List Byte) : Statement (.queryOrder x params) := by
  intro _ _ _ h; cases h; exact .inl ⟨rfl, rfl⟩
theorem listQueue (x : Xfer) (params : List Byte) : Statement (.listQueue x params) := by
  intro _ _ _ h; cases h; exact .inl ⟨rfl, rfl⟩
theorem loadDevice (x : Xfer) (params : List Byte) : Statement (.loadDevice x params) := by
  intro _ _ _ h; cases h; exact .inl ⟨rfl, rfl⟩
theorem setPosition (x : Xfer) (params : List Byte) : Statement (.setPosition x params) := by
  intro _ _ _ h; cases h; exact .inl ⟨rfl, rfl⟩
theorem unloadDevice (x : Xfer) (params : List Byte) : Statement (.unloadDevice x params) := by
  intro _ _ _ h; cases h; exact .inl ⟨rfl, rfl⟩
theorem queryDevice (x : Xfer) (params : List Byte) : Statement (.queryDevice x params) := by
  intro _ _ _ h; cases h; exact .inl ⟨rfl, rfl⟩
theorem draftPermit (x : Xfer) (params : List Byte) : Statement (.draftPermit x params) := by
  intro _ _ _ h; cases h; exact .inl ⟨rfl, rfl⟩
theorem startSwitching (x : Xfer) (params : List Byte) : Statement (.startSwitching x params) := by
  intro _ _ _ h; cases h; exact .inl ⟨rfl, rfl⟩
theorem grantSurrender (x : Xfer) (params : List Byte) : Statement (.grantSurrender x params) := by
  intro _ _ _ h; cases h; exact .inl ⟨rfl, rfl⟩
theorem denySurrender (x : Xfer) (params : List Byte) : Statement (.denySurrender x params) := by
  intro _ _ _ h; cases h; exact .inl ⟨rfl, rfl⟩
theorem retryPermit (x : Xfer) (params : List Byte) : Statement (.retryPermit x params) := by
  intro _ _ _ h; cases h; exact .inl ⟨rfl, rfl⟩
theorem reassignHolder (x : Xfer) (params : List Byte) : Statement (.reassignHolder x params) := by
  intro _ _ _ h; cases h; exact .inl ⟨rfl, rfl⟩
theorem cancelPermit (x : Xfer) (params : List Byte) : Statement (.cancelPermit x params) := by
  intro _ _ _ h; cases h; exact .inl ⟨rfl, rfl⟩
theorem retirePermit (x : Xfer) (params : List Byte) : Statement (.retirePermit x params) := by
  intro _ _ _ h; cases h; exact .inl ⟨rfl, rfl⟩
theorem queryPermit (x : Xfer) (params : List Byte) : Statement (.queryPermit x params) := by
  intro _ _ _ h; cases h; exact .inl ⟨rfl, rfl⟩
theorem startWatch (x : Xfer) (params : List Byte) : Statement (.startWatch x params) := by
  intro _ _ _ h; cases h; exact .inl ⟨rfl, rfl⟩
theorem stopWatch (x : Xfer) (params : List Byte) : Statement (.stopWatch x params) := by
  intro _ _ _ h; cases h; exact .inl ⟨rfl, rfl⟩
theorem ackAlarm (x : Xfer) (params : List Byte) : Statement (.ackAlarm x params) := by
  intro _ _ _ h; cases h; exact .inl ⟨rfl, rfl⟩
theorem clearAlarm (x : Xfer) (params : List Byte) : Statement (.clearAlarm x params) := by
  intro _ _ _ h; cases h; exact .inl ⟨rfl, rfl⟩
theorem reviewWorker (x : Xfer) (params : List Byte) : Statement (.reviewWorker x params) := by
  intro _ _ _ h; cases h; exact .inl ⟨rfl, rfl⟩
theorem enableChannel (x : Xfer) (params : List Byte) : Statement (.enableChannel x params) := by
  intro _ _ _ h; cases h; exact .inl ⟨rfl, rfl⟩
theorem disableChannel (x : Xfer) (params : List Byte) : Statement (.disableChannel x params) := by
  intro _ _ _ h; cases h; exact .inl ⟨rfl, rfl⟩
theorem restartChannel (x : Xfer) (params : List Byte) : Statement (.restartChannel x params) := by
  intro _ _ _ h; cases h; exact .inl ⟨rfl, rfl⟩
theorem sendText (x : Xfer) (params : List Byte) : Statement (.sendText x params) := by
  intro _ _ _ h; cases h; exact .inl ⟨rfl, rfl⟩
theorem readMessage (x : Xfer) (params : List Byte) : Statement (.readMessage x params) := by
  intro _ _ _ h; cases h; exact .inl ⟨rfl, rfl⟩
theorem tick : Statement .tick := nofun
theorem acceptanceExpiry (order : Nat) : Statement (.acceptanceExpiry order) := nofun
theorem readbackExpiry (serial : Nat) : Statement (.readbackExpiry serial) := nofun
theorem intervalExpiry (badge : Nat) : Statement (.intervalExpiry badge) := nofun
theorem restExpiry (badge : Nat) : Statement (.restExpiry badge) := nofun
theorem graceExpiry (badge : Nat) : Statement (.graceExpiry badge) := nofun
theorem escalationExpiry (alarm : AlarmRef) : Statement (.escalationExpiry alarm) := nofun
theorem failoverExpiry (c : Chan) : Statement (.failoverExpiry c) := nofun
theorem failbackExpiry (c : Chan) : Statement (.failbackExpiry c) := nofun
theorem holdOffExpiry (c : Chan) (place : Nat) : Statement (.holdOffExpiry c place) := nofun
theorem replyWindowExpiry (c : Chan) : Statement (.replyWindowExpiry c) := nofun
theorem repeatWaitExpiry (c : Chan) : Statement (.repeatWaitExpiry c) := nofun
theorem readyActive (c : Chan) : Statement (.readyActive c) := nofun
theorem readyInactive (c : Chan) : Statement (.readyInactive c) := nofun
theorem carrierActive (c : Chan) : Statement (.carrierActive c) := nofun
theorem carrierInactive (c : Chan) : Statement (.carrierInactive c) := nofun
theorem frameReceived (c : Chan) (bytes : List Byte) : Statement (.frameReceived c bytes) := nofun
theorem replyFrameReceived (c : Chan) (bytes : List Byte) : Statement (.replyFrameReceived c bytes) := nofun
theorem attemptStart (c : Chan) : Statement (.attemptStart c) := nofun
theorem sendComplete (c : Chan) : Statement (.sendComplete c) := nofun
theorem answerSent (c : Chan) : Statement (.answerSent c) := nofun

end Sys2Proof.Laws.RequestCode
end

