-- ==== Sys2Proof/Tests/Slice0.lean ====
section
/-! SUPPORT. Tests of the model: ill-formed commands that WellFormed refuses, examples of the manual, and for every statement with hypotheses a state and operands that meet them, clause by clause. -/

namespace Sys2Proof.Tests

open Sys2Proof.Machine

/-! ### Small states -/

def x0 : Xfer := ⟨10, 1⟩

/-- Crew 0, unit 100, qualification 2, home channel 0, alternate 1, leader 7. -/
def k0 : Crew := newCrew 0 100 2 0 (some 1) 7

def w7 : Worker := State.reset.newWorker 7 0

/-- One crew of one worker. -/
def s0 : State := { State.reset with crews := [k0], workers := [w7] }

/-- Channel 0 as given, the others OFF. -/
def onAir (ch : Channel) (s : State) : State := { s with chans := ⟨ch, Channel.reset, Channel.reset, Channel.reset⟩ }

/-- A channel in a state. -/
def chIn (st : ChState) : Channel := { Channel.reset with state := st }

def o1 : Order := State.reset.newOrder 1 .routine 0 [0x41]

/-- An order of a priority and an assignment sequence. -/
def oRank (n : Nat) (p : Priority) (seq : Word32) : Order := { State.reset.newOrder n p 0 [0x41] with asgSeq := seq }

def withOrder (o : Order) (s : State) : State := { s with orders := [o] }

def d5 : Device where
  number := 5
  kind := .switch
  position := .closed
  tags := []
  restore := none
  pending := none
  waits := []

def p1 : Permit := s0.newPermit 1 0 2 [⟨5, .openDevice⟩]

def withPermit (p : Permit) (s : State) : State := { s with permits := [p], devices := [d5] }

def withWorker (w : Worker) (s : State) : State := { s with workers := [w] }

/-- A queued TEXT to crew 0. -/
def e1 : Entry := newEntry (.text 1) .text .text k0.addr (.bytes [0x41]) none

/-- The attempt of e1. -/
def a1 : Attempt := { entry := 0, rpt := false, missing := [], body := [0x41], seq := 0 }

/-- A queue of n such entries. -/
def many (n : Nat) : List Entry := List.replicate n e1

/-! ### WellFormed: each check refuses an ill-formed command -/

theorem test_illFormed_frameError : (Instr.frameError []).wellFormed = false := by decide
theorem test_illFormed_unknownRequest_known : (Instr.unknownRequest ⟨6, 0⟩ 0x01 []).wellFormed = false := by decide
theorem test_illFormed_unknownRequest_short : (Instr.unknownRequest ⟨5, 0⟩ 0x7F []).wellFormed = false := by decide
theorem test_illFormed_request_short : (Instr.identify ⟨5, 0⟩ []).wellFormed = false := by decide
theorem test_illFormed_request_long : (Instr.sendText ⟨200, 0⟩ (List.replicate 121 0)).wellFormed = false := by rfl
theorem test_illFormed_order : (Instr.acceptanceExpiry 0).wellFormed = false := by decide
theorem test_illFormed_permit : (Instr.readbackExpiry 65536).wellFormed = false := by decide
theorem test_illFormed_badge : (Instr.intervalExpiry 65535).wellFormed = false := by decide
theorem test_illFormed_rest : (Instr.restExpiry 0).wellFormed = false := by decide
theorem test_illFormed_grace : (Instr.graceExpiry 0).wellFormed = false := by decide
theorem test_illFormed_alarm : (Instr.escalationExpiry (.crew 64)).wellFormed = false := by decide
theorem test_illFormed_place : (Instr.holdOffExpiry 0 24).wellFormed = false := by decide

/-! ### The manual's worked examples -/

/-- 10.7: IDENTIFY with tag 7. -/
theorem test_identify_frame : requestFrame 0x01 7 [] = [165, 2, 1, 7, 15, 10] := by decide

/-- 10.7: the response to IDENTIFY with one mark of the summary. -/
theorem test_identify_response : responseBytes .ok 7 1 [65, 32, 1] = [165, 6, 0, 7, 1, 65, 32, 1, 90, 112] := by decide

/-- 10.7: a transfer is read as the request it carries. -/
theorem test_identify_transfer : decodeTransfer [0, 165, 2, 1, 7, 15, 10, 0] = .identify ⟨8, 7⟩ [] := by decide

/-- 4.7 and 4.14: the digest of permit 401, and of a permit that holds its first step alone. -/
theorem test_digest : pairSum [1, 145, 4, 79, 2, 0, 120, 1, 0, 121, 2] = 59104 ∧ pairSum [1, 2, 0, 21, 1, 0, 7, 1] = 37409 := by
  decide

/-- 6.8: the first frame of a STEP_INSTRUCT to unit 1103 under sequence 5. -/
theorem test_step_instruct_frame :
    telegramFrame .stepInstruct (.crew 3 1103) 5 [1, 145, 1, 0, 120, 1] false [0]
      = [18, 2, 4, 79, 0, 0, 0, 0, 5, 6, 1, 161, 115, 1, 145, 1, 0, 120, 1, 17] := by decide

/-- 6.8: its answer is read as the ACK of block 0. -/
theorem test_step_instruct_answer :
    (readFrame [1, 0, 0, 0, 0, 0, 4, 79, 5, 2, 1, 116, 92, 1, 1, 2]).bind (fun f => f.answerTo? 1103 5) = some (1, 1) := by
  decide

/-- 6.8: the same answer under another sequence answers nothing. -/
theorem test_other_answer :
    (readFrame [1, 0, 0, 0, 0, 0, 4, 79, 5, 2, 1, 116, 92, 1, 1, 2]).bind (fun f => f.answerTo? 1103 6) = none := by decide

/-- 5.3, limits of the arithmetic: effective interval and lead, row by row. -/
theorem test_effective_interval :
    [(60, 0, false, 900, 120), (60, 5, false, 900, 120), (121, 2, false, 900, 120), (150, 3, false, 900, 0),
        (3600, 0, true, 60, 120), (3600, 2, false, 900, 300), (1800, 15, true, 900, 120)].map
      (fun (i, m, h, cap, p) => (effectiveInterval i m h cap, leadTime p (effectiveInterval i m h cap)))
      = [(60, 30), (60, 30), (60, 30), (75, 0), (60, 30), (1800, 300), (450, 120)] := by decide

/-- Orders 1 and 3 to 7 for crew 0: an ASSIGNED routine head that R33 set back before an urgent order, and candidates behind it. -/
def sBehind : State :=
  { s0 with
    crews := [{ k0 with queue := [1, 3] }]
    orders := [{ oRank 1 .routine 1 with state := .assigned, crew := some 0 }, oRank 3 .urgent 0, oRank 4 .urgent 2,
      oRank 5 .emergency 3] }

/-- R24, R25: an URGENT order behind an URGENT one leaves the head its place; an EMERGENCY order displaces it, and it then stands
behind the URGENT order. -/
theorem test_placement : sBehind.placed 4 [1, 3] = [1, 3, 4] ∧ sBehind.placed 5 [1, 3] = [5, 3, 1] := by decide

/-! ### Witnesses: states and operands that meet the hypotheses of the statements -/

theorem reset_params_inRange : Params.reset.inRange := by
  intro n v h
  unfold Params.get? at h
  split at h <;> first | (cases h; decide) | cases h

/-- The invariant of a state with the reset parameters, by tests that can be decided. -/
theorem inv_of (s : State) (hp : s.params = Params.reset)
    (h : ((s.notices.length ≤ 64 ∧ ∀ c, (s.chan c).queue.length ≤ 24 ∧ (s.chan c).mailbox.length ≤ 2)
        ∧ (((s.crews.map (·.slot)).Pairwise (· < ·) ∧ ∀ k ∈ s.crews, k.slot ≤ 63)
          ∧ ((s.workers.map (·.badge)).Pairwise (· < ·) ∧ s.workers.length ≤ 160
            ∧ ∀ w ∈ s.workers, 1 ≤ w.badge ∧ w.badge ≤ 65534)
          ∧ ((s.orders.map (·.number)).Pairwise (· < ·) ∧ s.orders.length ≤ 256
            ∧ ∀ o ∈ s.orders, 1 ≤ o.number ∧ o.number ≤ 65535)
          ∧ ((s.devices.map (·.number)).Pairwise (· < ·) ∧ ∀ d ∈ s.devices, d.number ≤ 511)
          ∧ (s.permits.map (·.serial)).Pairwise (· < ·) ∧ s.permits.length ≤ 32
            ∧ ∀ p ∈ s.permits, 1 ≤ p.serial ∧ p.serial ≤ 65535)
        ∧ ((∀ k ∈ s.crews, k.queue.length ≤ 8 ∧ 1 ≤ k.members.length ∧ k.members.length ≤ 6)
          ∧ ∀ d ∈ s.devices, d.tags.length ≤ 8 ∧ ((d.pending.any fun p => p.2.hangsTag) = true → d.tags.length < 8))
        ∧ ((1 ≤ s.textCounter ∧ s.textCounter ≤ 65535) ∧ 1 ≤ s.serialCounter ∧ s.serialCounter ≤ 65535)
        ∧ (s.attn = s.wantsAttention ∧ ∀ c, (s.chan c).key = (s.chan c).state.keyed) ∧ s.signals = [])) : s.Inv :=
  ⟨h.1, h.2.1, h.2.2.1, h.2.2.2.1, hp ▸ reset_params_inRange, h.2.2.2.2.1, h.2.2.2.2.2⟩

/-- Crew 0 on the roster and a tick waiting. -/
def sTick : State := { s0 with pending := [.tick] }

theorem witness_StepKeepsInvariant : sTick.Inv ∧ ∃ t, step sTick = .next t :=
  ⟨inv_of _ rfl (by decide), _, rfl⟩

theorem witness_FaultyRequestsAreAnswered :
    ([] : List Byte).length ≠ 1 ∧ ([0] : List Byte).length ≠ 2 ∧ ([0] : List Byte).length ≠ 3 ∧ ([0] : List Byte).length < 2
      ∧ 63 < (64 : Byte).toNat ∧ s0.crew? (63 : Byte).toNat = none ∧ be16 0 0 = 0 ∧ be16 0xFF 0xFF = 65535
      ∧ s0.worker? (be16 0xFF 0xFE) = none ∧ s0.order? (be16 0xFF 0xFF) = none ∧ 511 < be16 2 0
      ∧ s0.device? (be16 1 0xFF) = none ∧ s0.permit? (be16 0xFF 0xFF) = none ∧ 3 < (4 : Byte).toNat
      ∧ ((withOrder o1 s0).order? (be16 0 1)).isSome ∧ (withOrder o1 s0).crew? 63 = none
      ∧ ((withPermit p1 s0).permit? (be16 0 1)).isSome ∧ (withPermit p1 s0).crew? 63 = none
      ∧ (s0.crew? (0 : Byte).toNat).isSome ∧ (254 : Byte).toNat ≠ 255 ∧ (0 : Byte).toNat ≠ 1 ∧ (3 : Byte).toNat ≠ 2
      ∧ ([0x41, 0x41, 0x41] : List Byte).length < 4 ∧ 8191 < be16 0x20 0 ∧ 20 < (21 : Byte).toNat := by decide

theorem witness_LinkQueriesAnswer : s0.params.get? (1 : Byte).toNat = some 3 ∧ s0.params.get? (20 : Byte).toNat = some 120
    ∧ Params.reset.get? (20 : Byte).toNat = some 120 ∧ (0 : Byte).toNat = 0 ∧ 20 < (21 : Byte).toNat
    ∧ (3 : Byte).toNat < 4 ∧ 4 ≤ (4 : Byte).toNat := by decide

theorem witness_SetParamStores : s0.params.get? (1 : Byte).toNat = some 3 ∧ s0.params.get? (20 : Byte).toNat = some 120 := by
  decide

/-- SET_PARAM of a mark: a queue of nine, whose hold stands and which a high mark of 8 holds, which marks of 20 and 10 clear, and which
marks of 20 and 8 leave; nothing is deferred. -/
theorem witness_marks :
    let ch : Channel := { Channel.reset with queue := many 9, flowHold := true }
    (8 : Byte).toNat = 8 ∧ (9 : Byte).toNat = 9 ∧ 8 ≤ ch.queue.length
      ∧ (ch.flowHold && decide (ch.queue.length < 20) && decide (ch.queue.length ≤ 10)) = true
      ∧ ¬ ch.queue.length ≤ 8 ∧ ch.permitDefer = [] ∧ ch.orderDefer = [] := by decide

/-- Crew 0 at high risk, its worker in a watch state with time left. -/
def sRisk (st : WatchState) : State :=
  withPermit { p1 with state := .inForce } (withWorker { w7 with watch := st, remaining := some 900, eff := some 900 } s0)

theorem witness_lowered_cap :
    (sRisk .watching).params.get? (13 : Byte).toNat = some 900
      ∧ clamp ((sRisk .watching).params.range 13).1 ((sRisk .watching).params.range 13).2 (be16 0 60) = 60
      ∧ (∃ k ∈ (sRisk .watching).crews, (sRisk .watching).highRisk k.slot = true ∧ 7 ∈ k.members)
      ∧ ((sRisk .watching).worker? 7).map (·.watch) = some .watching ∧ ((sRisk .resting).worker? 7).map (·.watch) = some .resting
      ∧ ((sRisk .due).worker? 7).map (·.watch) = some .due ∧ (¬ ∃ k ∈ s0.crews, s0.highRisk k.slot = true ∧ 7 ∈ k.members) := by
  decide

theorem witness_ReadingTakesTheOldest :
    (3 : Byte).toNat = (3 : Chan).val
      ∧ ((onAir { chIn .off with mailbox := [⟨0, 100, 0, 0, 1, [0x41]⟩] } s0).chan 0).mailbox = [⟨0, 100, 0, 0, 1, [0x41]⟩]
      ∧ (0 : Byte).toNat = (0 : Chan).val ∧ (s0.chan 0).mailbox = [] := by decide

theorem witness_TransferRoundTrip : (Instr.identify ⟨6, 7⟩ []).wellFormed = true
    ∧ encodeTransfer (.identify ⟨6, 7⟩ []) = some [165, 2, 1, 7, 15, 10] := by decide

theorem witness_SignOnEntersTheCrew :
    chanOf (3 : Byte).toNat = some 3 ∧ altOf (255 : Byte) = some none ∧ 1 ≤ be16 0x1F 0x40 ∧ be16 0x1F 0x40 ≤ 8000
      ∧ (3 : Byte).toNat ≤ 3 ∧ 1 ≤ be16 0xFF 0xFE ∧ be16 0xFF 0xFE ≤ 65534 ∧ s0.crewOfUnit? (be16 0x1F 0x40) = none
      ∧ s0.worker? (be16 0xFF 0xFE) = none ∧ s0.freeSlots.head? = some 1 ∧ s0.workers.length < 160 := by decide

/-- A roster of 64 crews. -/
def sFull : State := { s0 with crews := (List.range 64).map fun j => newCrew j (100 + j) 2 0 none (7 + j) }

theorem witness_SignOnChecks :
    8000 < be16 0x1F 0x41 ∧ (∃ k ∈ s0.crews, k.unit = be16 0 100) ∧ (∃ w ∈ s0.workers, w.badge = be16 0 7)
      ∧ (∀ j < 64, ∃ k ∈ sFull.crews, k.slot = j) ∧ (¬ ∃ k ∈ sFull.crews, k.unit = be16 1 0) := by decide

/-- Crew 0 with six members. -/
def sSix : State := { s0 with crews := [{ k0 with members := [7, 8, 9, 10, 11, 12] }] }

theorem witness_AddMemberAppends :
    (0 : Byte).toNat ≤ 63 ∧ s0.crew? 0 = some k0 ∧ be16 0 0 = 0 ∧ be16 0xFF 0xFF = 65535 ∧ (s0.worker? (be16 0 7)).isSome
      ∧ s0.worker? (be16 0xFF 0xFE) = none ∧ (sSix.crew? 0).any (fun k => 6 ≤ k.members.length)
      ∧ k0.members.length < 6 ∧ s0.workers.length < 160 := by decide

/-- Crew 0 with two members, one in a given watch state. -/
def sTwo (w : Worker) : State := { s0 with crews := [{ k0 with members := [7, 8] }], workers := [w, { w7 with badge := 8 }] }

theorem witness_RemoveMemberFrees :
    s0.worker? (be16 0 7) = some w7 ∧ s0.crew? w7.crew = some k0 ∧ k0.members.length ≤ 1
      ∧ (sTwo { w7 with watch := .alarm }).worker? (be16 0 7) = some { w7 with watch := .alarm }
      ∧ (sTwo w7).worker? (be16 0 7) = some w7 ∧ (sTwo w7).crew? w7.crew = some { k0 with members := [7, 8] }
      ∧ w7.watch ≠ .alarm ∧ w7.watch ≠ .acknowledged := by decide

/-- Crew 0 with one order in its queue. -/
def sQueued (o : Order) : State := withOrder o { s0 with crews := [{ k0 with queue := [1] }] }

def oAssigned : Order := { o1 with state := .assigned, crew := some 0 }

theorem witness_SignOffTearsDown :
    (withPermit p1 s0).crew? 0 = some k0 ∧ (∃ p ∈ (withPermit p1 s0).permits, p.holder = 0 ∧ p.state ≠ .closed)
      ∧ (sQueued oAssigned).crew? 0 = some { k0 with queue := [1] }
      ∧ (sQueued { oAssigned with state := .sent }).order? 1 = some { oAssigned with state := .sent }
      ∧ (sQueued oAssigned).order? 1 = some oAssigned ∧ (sQueued oAssigned).permits = [] := by decide

/-- Channel 0 with three texts for crew 0, the first in flight, and the alarm of its leader in its set. -/
def sLeaving : State :=
  { onAir { chIn .sending with queue := { e1 with inFlight := true } :: many 2, alarmSet := [.worker 7] }
      (withWorker { w7 with watch := .alarm } s0) with alarmOrder := [.worker 7] }

theorem witness_signOff_withdraws :
    sLeaving.crew? 0 = some k0 ∧ k0.queue = [] ∧ sLeaving.permits = []
      ∧ ((sLeaving.chan 0).queue.filter fun e => !e.inFlight && e.isFor 0).length = 2
      ∧ (sLeaving.alarmOrder.filter fun a => decide (sLeaving.alarmCrew a = some 0)) = [.worker 7] := by decide

theorem witness_SetChannelsMoves :
    s0.crew? 0 = some k0 ∧ chanOf (1 : Byte).toNat = some 1 ∧ altOf (1 : Byte) = some (some 1)
      ∧ (onAir (chIn .idle) s0).inService 0 = true ∧ s0.inService 1 = false := by decide

theorem witness_RosterAndOrderQueries :
    s0.crew? 0 = some k0 ∧ 63 < (64 : Byte).toNat ∧ s0.crew? (63 : Byte).toNat = none ∧ s0.worker? (be16 0 7) = some w7
      ∧ be16 0 0 = 0 ∧ s0.worker? (be16 0xFF 0xFE) = none ∧ (withOrder o1 s0).order? (be16 0 1) = some o1
      ∧ s0.order? (be16 0xFF 0xFF) = none := by decide

/-- A table of 256 orders. -/
def sOrders : State := { s0 with orders := (List.range 256).map fun j => { o1 with number := j + 1 } }

theorem witness_CreateOrderTakesARecord :
    (be16 0 0 = 0 ∧ 4 < (5 : Byte).toNat) ∧ (∃ o ∈ (withOrder o1 s0).orders, o.number = be16 0 1)
      ∧ (be16 0 1 ≠ 0 ∧ ∀ q ∈ s0.permits, q.serial ≠ be16 0 1) ∧ priorityOf (4 : Byte).toNat = some .deferred
      ∧ s0.orders = [] := by decide

theorem witness_CreateOrder_full : 256 ≤ sOrders.orders.length := by simp [sOrders]

theorem witness_AssignOrderPlaces :
    (withOrder o1 s0).order? (be16 0 1) = some o1 ∧ s0.crew? 0 = some k0 ∧ o1.state = .opened ∧ o1.link = none
      ∧ o1.followUp = none ∧ k0.queue.length < 8 ∧ OrderState.complete ≠ .opened
      ∧ ({ o1 with state := .returned, followUp := some (.cancel, .owed) } : Order).followUp = some (.cancel, .owed)
      ∧ 8 ≤ ({ k0 with queue := [2, 3, 4, 5, 6, 7, 8, 9] } : Crew).queue.length := by decide

/-- Crew 0 with order 3 at its head, in a state and under a link, and an EMERGENCY order 1 that is open. -/
def sHead (st : OrderState) (link : Option Link) : State :=
  { s0 with
    crews := [{ k0 with queue := [3] }]
    orders := [oRank 1 .emergency 0, { oRank 3 .routine 2 with state := st, link := link, crew := some 0 }]
    assignments := 3 }

/-- Order 1 displaces an ASSIGNED head, stands second behind another, and takes the place of a SENT one, but of no WORKING one. -/
theorem witness_placement :
    let rank (s : State) := (s.modOrder 1 fun o => { o with asgSeq := s.assignments }).rankOf
    (∀ st, (sHead st none).crew? 0 = some { k0 with queue := [3] }) ∧ 1 ∉ ({ k0 with queue := [3] } : Crew).queue
      ∧ ((sHead .assigned none).order? 3).map (·.state) = some .assigned
      ∧ ranksBefore (rank (sHead .assigned none) 1) (rank (sHead .assigned none) 3) = true
      ∧ ((sHead .sent (some .queued)).order? 3).map (fun o => (o.state, o.link, o.priority)) = some (.sent, some .queued, .routine)
      ∧ ((sHead .sent (some .queued)).order? 1).map (fun o => (o.state, o.priority)) = some (.opened, .emergency)
      ∧ ((sHead .working none).order? 3).map (·.state) = some .working
      ∧ (∀ k' ∈ (sHead .sent (some .queued)).crews, k'.slot ≠ 0 → 3 ∉ k'.queue) ∧ k0.reach ≠ .lost
      ∧ ((sHead .sent (some .queued)).chan k0.current).queue.length < 24
      ∧ ∀ c, ∀ e ∈ ((sHead .sent (some .queued)).chan c).queue, e.owner = .order 1 → e.inFlight = true :=
  ⟨fun st => by cases st <;> rfl, by decide⟩

theorem witness_AssignToIdleCrewSends :
    (withOrder o1 s0).order? (be16 0 1) = some o1 ∧ (withOrder o1 s0).crew? 0 = some k0 ∧ o1.state = .opened
      ∧ o1.link = none ∧ o1.followUp = none ∧ o1.acceptance = none ∧ o1.priority ≠ .emergency ∧ k0.queue = []
      ∧ k0.reach ≠ .lost ∧ (s0.chan k0.current).queue.length < 24 ∧ (s0.chan k0.current).flowHold = false := by decide

theorem witness_UnassignOrderOpens :
    (withOrder o1 s0).order? (be16 0 1) = some o1 ∧ o1.state ≠ .assigned
      ∧ (sQueued oAssigned).order? (be16 0 1) = some oAssigned ∧ oAssigned.crew = some 0 := by decide

theorem witness_CancelOrderCancels :
    (withOrder { o1 with state := .complete } s0).order? (be16 0 1) = some { o1 with state := .complete }
      ∧ (sQueued { oAssigned with state := .working }).order? (be16 0 1) = some { oAssigned with state := .working }
      ∧ o1.crew = none ∧ s0.crew? 64 = none := by decide

theorem witness_BindPermitBinds :
    (withOrder { o1 with state := .working } s0).order? (be16 0 1) = some { o1 with state := .working }
      ∧ (withOrder o1 s0).order? (be16 0 1) = some o1 ∧ be16 0 0 = 0 ∧ be16 0 1 ≠ 0 ∧ s0.permit? (be16 0 1) = none
      ∧ ((withPermit p1 s0).permit? (be16 0 1)).isSome := by decide

theorem witness_RetiringFreesTheRecord :
    (withOrder oAssigned s0).order? (be16 0 1) = some oAssigned
      ∧ (withOrder { o1 with link := some .queued } s0).order? (be16 0 1) = some { o1 with link := some .queued }
      ∧ (withOrder o1 s0).order? (be16 0 1) = some o1
      ∧ (withPermit p1 s0).permit? (be16 0 1) = some p1 ∧ p1.state ≠ .closed
      ∧ (withPermit { p1 with state := .closed, closing := some .queued } s0).permit? (be16 0 1)
          = some { p1 with state := .closed, closing := some .queued }
      ∧ (withPermit { p1 with state := .closed } s0).permit? (be16 0 1) = some { p1 with state := .closed } := by decide

theorem witness_LoadDeviceLoads :
    511 < be16 2 0 ∧ be16 1 0xFF ≤ 511 ∧ (∃ d ∈ (withPermit p1 s0).devices, d.number = be16 0 5)
      ∧ kindOf (4 : Byte).toNat = some .ground ∧ positionOf (2 : Byte).toNat = some .closed
      ∧ ¬ ∃ d ∈ s0.devices, d.number = be16 1 0xFF := by decide

theorem witness_SetPositionStores :
    511 < be16 2 0 ∧ be16 1 0xFF ≤ 511 ∧ s0.device? (be16 1 0xFF) = none ∧ (withPermit p1 s0).device? (be16 0 5) = some d5
      ∧ 2 < (3 : Byte).toNat ∧ ({ d5 with tags := [1] } : Device).tags ≠ [] ∧ positionOf (1 : Byte).toNat = some .opened
      ∧ d5.tags = [] ∧ d5.pending = none := by decide

theorem witness_UnloadAndQueries :
    (withPermit p1 s0).device? (be16 0 5) = some d5
      ∧ (∃ p ∈ (withPermit p1 s0).permits, p.state ≠ .closed ∧ ∃ t ∈ p.steps, t.device = be16 0 5)
      ∧ (withPermit { p1 with state := .closed } s0).device? (be16 0 5) = some d5
      ∧ (¬ ∃ p ∈ (withPermit { p1 with state := .closed } s0).permits,
          p.state ≠ .closed ∧ ∃ t ∈ p.steps, t.device = be16 0 5)
      ∧ (withPermit p1 s0).permit? (be16 0 1) = some p1 := by decide

theorem witness_ClaimIsDecided :
    ({ d5 with pending := some (2, .openDevice) } : Device).pending = some (2, .openDevice) ∧ d5.pending = none
      ∧ 8 ≤ ({ d5 with tags := [1, 2, 3, 4, 5, 6, 7, 8] } : Device).tags.length ∧ d5.tags.length < 8 := by decide

/-- Device 5 open under the tag of permit 1, which found it closed. -/
def d5Tagged : Device := { d5 with position := .opened, tags := [1], restore := some .closed }

theorem witness_TaggedDeviceStaysIsolated :
    d5.tags.Nodup ∧ d5.restore = none ∧ 1 ∉ d5.tags ∧ (d5.claim 1 (.isolation .openDevice)).2 = .granted .openDevice
      ∧ d5Tagged.tags.Nodup ∧ d5Tagged.position = d5Tagged.isolation ∧ d5Tagged.restore.isSome
      ∧ 2 ∉ d5Tagged.tags ∧ (d5Tagged.claim 2 (.isolation .openDevice)).2 = .granted .hangTag
      ∧ (d5Tagged.claim 1 .restoration).2 = .granted .closeDevice := by decide

/-- Crew 0 and device 5 with no permit. -/
def sDevice : State := { s0 with devices := [d5] }

/-- Device 5 as a ground. -/
def sGround : State := { s0 with devices := [{ d5 with kind := .ground }] }

theorem witness_DraftPermitTakesARecord :
    63 < (64 : Byte).toNat ∧ (readSteps [0, 5]).bind draftSteps = none ∧ (readSteps [0, 5, 3]).bind draftSteps = none
      ∧ (readSteps [2, 0, 1]).bind draftSteps = some [⟨512, .openDevice⟩]
      ∧ ((readSteps [0, 5, 1]).bind draftSteps) = some [⟨5, .openDevice⟩] ∧ (1 : Byte).toNat = 1 ∧ 12 < (13 : Byte).toNat
      ∧ (∀ t ∈ [(⟨5, .openDevice⟩ : Step)], t.device ≤ 511) ∧ ([(⟨5, .openDevice⟩ : Step)].map (·.device)).Nodup
      ∧ sDevice.crew? 63 = none ∧ s0.device? 5 = none ∧ sDevice.crew? 0 = some k0 ∧ sDevice.device? 5 = some d5
      ∧ d5.kind ≠ .ground ∧ (sGround.device? 5).any (fun d => d.kind == .ground)
      ∧ k0.qual < (3 : Byte).toNat ∧ (2 : Byte).toNat ≤ k0.qual ∧ sDevice.permits.length < 32
      ∧ 1 ≤ sDevice.serialCounter ∧ sDevice.serialCounter ≤ 65535
      ∧ 32 ≤ ({ sDevice with permits := List.replicate 32 p1 } : State).permits.length := by decide

/-- R63: the serial counter at 65535, with permits under 65535 and 1. -/
theorem test_serial_wraps :
    ({ s0 with serialCounter := 65535, permits := [p1, { p1 with serial := 65535 }] } : State).nextSerial = 2 := by decide

theorem witness_StartSwitchingClaims :
    (withPermit { p1 with state := .closed } s0).permit? (be16 0 1) = some { p1 with state := .closed }
      ∧ (withPermit p1 s0).permit? (be16 0 1) = some p1 ∧ p1.state = .draft ∧ p1.steps.head? = some ⟨5, .openDevice⟩
      ∧ (withPermit p1 s0).device? 5 = some d5 ∧ p1.outstanding = none ∧ p1.cancelWait = false ∧ p1.hold = false
      ∧ (d5.claim 1 (.isolation .openDevice)).2 = .granted .openDevice
      ∧ (({ d5 with pending := some (2, .openDevice) } : Device).claim 1 (.isolation .openDevice)).2 = .wait
      ∧ (({ d5 with tags := [2, 3, 4, 5, 6, 7, 8, 9] } : Device).claim 1 (.isolation .openDevice)).2 = .tagLimit
      ∧ (withPermit p1 s0).crew? p1.holder = some k0 ∧ ((withPermit p1 s0).chan k0.current).queue.length < 24
      ∧ (∀ w ∈ (withPermit p1 s0).workers, w.watch = .watching → w.leadOwed = false)
      ∧ (withPermit p1 s0).noneWaits (.permit .instruct (be16 0 1)) := by
  unfold State.noneWaits; decide

/-- Permit 1 in force, its surrender asked. -/
def pAsked : Permit := { p1 with state := .inForce, surrender := true, stack := [(5, .openDevice)] }

def oWorking : Order := { oAssigned with state := .working, bound := some 1 }

theorem witness_SurrenderIsAnswered :
    (withPermit p1 s0).permit? (be16 0 1) = some p1 ∧ p1.state ≠ .inForce
      ∧ (withPermit pAsked s0).permit? (be16 0 1) = some pAsked ∧ pAsked.hold = false
      ∧ (¬ ∃ o ∈ (withPermit pAsked s0).orders, o.state = .working ∧ o.bound = some (be16 0 1) ∧ o.crew = some pAsked.holder)
      ∧ (∃ o ∈ (withPermit pAsked (withOrder oWorking s0)).orders,
          o.state = .working ∧ o.bound = some (be16 0 1) ∧ o.crew = some pAsked.holder)
      ∧ pAsked.outstanding = none ∧ pAsked.cancelWait = false ∧ pAsked.stack = [(5, .openDevice)]
      ∧ (withPermit pAsked s0).device? 5 = some d5 ∧ (d5.claim 1 .restoration).2 = .granted .closeDevice
      ∧ (({ d5 with pending := some (2, .openDevice) } : Device).claim 1 .restoration).2 = .wait
      ∧ (withPermit pAsked s0).crew? pAsked.holder = some k0 ∧ ((withPermit pAsked s0).chan k0.current).queue.length < 24 := by
  decide

/-- Permit 1 stalled from a phase. -/
def pStalled (ph : Phase) (c : StallCause) : Permit := { p1 with state := .stalled, stall := some (ph, c) }

theorem witness_RetryPermitResumes :
    (withPermit p1 s0).permit? (be16 0 1) = some p1 ∧ p1.state ≠ .stalled
      ∧ (withPermit (pStalled .switching .unable) s0).permit? (be16 0 1) = some (pStalled .switching .unable)
      ∧ (withPermit (pStalled .issuing .readback) s0).permit? (be16 0 1) = some (pStalled .issuing .readback)
      ∧ (pStalled .issuing .readback).hold = false ∧ ({ pStalled .issuing .readback with hold := true } : Permit).hold = true
      ∧ (pStalled .switching .tagLimit).cancelWait = false ∧ (pStalled .switching .tagLimit).outstanding = none
      ∧ (pStalled .switching .tagLimit).steps[(pStalled .switching .tagLimit).k]? = some ⟨5, .openDevice⟩
      ∧ (withPermit (pStalled .switching .tagLimit) s0).device? 5 = some d5 ∧ d5.pending = none
      ∧ 8 ≤ ({ d5 with tags := [2, 3, 4, 5, 6, 7, 8, 9] } : Device).tags.length
      ∧ ({ pStalled .restoring .unable with stack := [(5, .openDevice)] } : Permit).stack = [(5, .openDevice)] := by
  decide

theorem witness_ReassignHolderGives :
    (withPermit p1 s0).permit? (be16 0 1) = some p1 ∧ s0.crew? 0 = some k0 ∧ p1.state ≠ .stalled
      ∧ (withPermit (pStalled .switching .unable) s0).permit? (be16 0 1) = some (pStalled .switching .unable)
      ∧ (pStalled .switching .unable).minQual ≤ k0.qual ∧ (pStalled .switching .unable).answer = none
      ∧ k0.qual < ({ pStalled .switching .unable with minQual := 3 } : Permit).minQual := by decide

/-- Permit 1 in SWITCHING with an instruction of a given status. -/
def pOut (st : TgStatus) : Permit := { p1 with state := .switching, outstanding := some ⟨1, 5, .isolation, .openDevice, st⟩ }

theorem witness_CancelPermitTurnsBack :
    (withPermit pAsked s0).permit? (be16 0 1) = some pAsked ∧ pAsked.state = .inForce
      ∧ (withPermit p1 s0).permit? (be16 0 1) = some p1 ∧ p1.state = .draft
      ∧ (withPermit (pOut .inFlight) s0).permit? (be16 0 1) = some (pOut .inFlight)
      ∧ (withPermit (pOut .queued) s0).permit? (be16 0 1) = some (pOut .queued)
      ∧ (pStalled .restoring .unable).stall = some (.restoring, .unable) := by decide

/-- Permit 1 as it stands when it is cancelled: in a state, with or without an instruction for device 5, and an entry of device 6 on its
stack. -/
def pTurning (st : PermitState) (out : Option TgStatus) : Permit :=
  { p1 with
    state := st, stack := [(6, .openDevice)], cancelWait := decide (st = .restoring), issue := some .queued
    stall := if st = .stalled then some (.issuing, .readback) else none
    outstanding := out.map fun x => ⟨1, 5, .isolation, .openDevice, x⟩ }

theorem witness_issue_given_up :
    (withPermit { pTurning .issuing none with issue := some .deferred } s0).noneWaits (.permit .issue (be16 0 1)) := by
  unfold State.noneWaits; decide

theorem witness_cancel_begins_restoration :
    (∀ st, (pTurning st none).outstanding = none) ∧ (pTurning .switching none).cancelWait = false
      ∧ (pTurning .issuing none).cancelWait = false ∧ (pTurning .stalled none).cancelWait = false
      ∧ (pTurning .stalled none).stall = some (.issuing, .readback) ∧ (pTurning .restoring (some .inFlight)).cancelWait = true
      ∧ (pTurning .switching (some .deferred)).outstanding.map (·.status) = some .deferred
      ∧ (pTurning .switching (some .queued)).hold = false ∧ (pTurning .issuing none).issue = some .queued
      ∧ (withPermit (pTurning .switching (some .queued)) s0).device? 5 = some d5 ∧ 1 ∉ d5.waits
      ∧ (∀ e, (pTurning .switching (some .queued)).stack.head? = some e → e.1 ≠ 5)
      ∧ (pOut .queued).stack = [] ∧ (pTurning .switching none).stack ≠ [] := by
  refine ⟨fun st => ?_, ?_, ?_, ?_, ?_, ?_, ?_, ?_, ?_, ?_, ?_, fun e h => ?_, ?_, ?_⟩ <;> first | rfl | decide | (cases h; decide)

theorem witness_PairSumDetectsOneByte :
    (0 : Byte).toNat % 251 ≠ (250 : Byte).toNat % 251 ∧ (5 : Byte).toNat % 251 ≠ (6 : Byte).toNat % 251
      ∧ (u16 p1.serial ++ u16 100 ++ u8 p1.steps.length
          ++ (p1.steps.map fun t => u16 t.device ++ u8 t.action.code).flatten) = [0, 1, 0, 100, 1, 0] ++ 5 :: [1]
      ∧ (u16 1 ++ u16 100 ++ u8 1 ++ (([⟨6, .openDevice⟩] : List Step).map fun t => u16 t.device ++ u8 t.action.code).flatten)
          = [0, 1, 0, 100, 1, 0] ++ 6 :: [1]
      ∧ (List.replicate 10 (0 : Byte) ++ 5 :: []).length = 11 := by decide

theorem witness_EffectiveIntervalBounds : 60 ≤ 3600 ∧ 60 ≤ 60 ∧ 60 ≤ 1800 := by decide

theorem witness_StartWatchWatches :
    (withWorker { w7 with watch := .due } s0).worker? (be16 0 7) = some { w7 with watch := .due }
      ∧ s0.worker? (be16 0 7) = some w7 ∧ w7.watch = .off := by decide

theorem witness_StopAndReview :
    (withWorker { w7 with watch := .alarm } s0).worker? (be16 0 7) = some { w7 with watch := .alarm }
      ∧ s0.worker? (be16 0 7) = some w7 ∧ w7.watch = .off
      ∧ (withWorker { w7 with watch := .resting } s0).worker? (be16 0 7) = some { w7 with watch := .resting } := by decide

theorem witness_AckAlarmAcknowledges :
    s0.worker? (be16 0 7) = some w7 ∧ w7.watch ≠ .alarm
      ∧ (withWorker { w7 with watch := .alarm } s0).worker? (be16 0 7) = some { w7 with watch := .alarm }
      ∧ s0.crew? (0 : Byte).toNat = some k0 ∧ k0.alarm ≠ .raised
      ∧ ({ s0 with crews := [{ k0 with alarm := .raised }] } : State).crew? (0 : Byte).toNat = some { k0 with alarm := .raised }
      ∧ (3 : Byte).toNat ≠ 1 ∧ (3 : Byte).toNat ≠ 2 ∧ (0 : Byte).toNat ≠ 1 := by decide

theorem witness_ClearAlarmEnds :
    s0.worker? (be16 0 7) = some w7 ∧ w7.watch ≠ .alarm ∧ w7.watch ≠ .acknowledged
      ∧ (withWorker { w7 with watch := .acknowledged } s0).worker? (be16 0 7) = some { w7 with watch := .acknowledged }
      ∧ s0.crew? (0 : Byte).toNat = some k0 ∧ k0.alarm = .none
      ∧ ({ s0 with crews := [{ k0 with alarm := .acknowledged }] } : State).crew? 0 = some { k0 with alarm := .acknowledged } := by
  decide

theorem witness_channels :
    (3 : Byte).toNat = (3 : Chan).val ∧ (s0.chan 3).state = .off ∧ (s0.chan 3).ready = false
      ∧ ((onAir { chIn .off with ready := true } s0).chan 0).ready = true
      ∧ ((onAir (chIn .down) s0).chan 0).state ≠ .off ∧ ((onAir { chIn .idle with ready := true } s0).chan 0).state ≠ .off := by
  decide

/-- Channel 0 with a queue and a flow hold. -/
def sHeld (n : Nat) (hold : Bool) : State := onAir { chIn .off with queue := many n, flowHold := hold } s0

theorem witness_DisableChannelTakesOff :
    (onAir (chIn .idle) s0).Inv ∧ ((onAir (chIn .idle) s0).chan 0).state ≠ .off ∧ (0 : Byte).toNat = (0 : Chan).val
      ∧ ((onAir (chIn .idle) s0).chan 1).state = .off ∧ (onAir { chIn .idle with queue := many 3 } s0).Inv
      ∧ (∀ k ∈ s0.crews, k.alt.any (onAir { chIn .idle with queue := many 3 } s0).inService = false)
      ∧ (∀ e ∈ many 3, e.inFlight = false ∧ e.owner = .text 1 ∧ e.addr = k0.addr) ∧ k0.current = 0 :=
  ⟨inv_of _ rfl (by decide), by decide, by decide, by decide, inv_of _ rfl (by decide), by decide, by decide, by decide⟩

/-- Channel 0 in service with three texts waiting for crew 0. -/
def sThree (ready : Bool) : State := onAir { chIn .idle with queue := many 3, ready := ready } s0

theorem witness_RestartChannelRestarts :
    (0 : Byte).toNat = (0 : Chan).val ∧ (s0.chan 0).state = .off ∧ ((sThree false).chan 0).state ≠ .off
      ∧ ((sThree true).chan 0).queue = many 3 ∧ (∀ e ∈ many 3, e.inFlight = false ∧ e.owner = .text 1 ∧ e.addr = .crew 0 100)
      ∧ (sThree false).crew? 0 = some k0 ∧ k0.current = 0 ∧ ((sThree false).chan 0).ready = false
      ∧ ((sThree true).chan 0).ready = true := by decide

theorem witness_SendTextQueues :
    (sHeld 23 false).crew? (0 : Byte).toNat = some k0 ∧ ([0x41] : List Byte) ≠ []
      ∧ 24 ≤ ((sHeld 24 true).chan k0.current).queue.length ∧ ((sHeld 23 false).chan k0.current).queue.length < 24
      ∧ ((sHeld 23 true).chan 0).flowHold = true ∧ ((sHeld 23 false).chan 0).flowHold = false ∧ be16 0x1F 0xFF ≤ 8191
      ∧ (s0.crews.filter fun k => decide (k.current = 0 ∧ k.unit &&& be16 0 0 = be16 0 0 &&& be16 0 0)).length = 1
      ∧ (s0.crews.filter fun k =>
          decide (k.current = 1 ∧ k.unit &&& be16 0 0 = be16 0 0 &&& be16 0 0)).length = 0 := by decide

/-- An ORDER entry, a CHECK_PROMPT entry and an ALARM_CALL entry. -/
def eOrder : Entry := newEntry (.order 1) .order .order k0.addr (.bytes []) none
def ePrompt : Entry := newEntry (.prompt 0) .checkPrompt .safety k0.addr (.prompt false [7]) none
def eCall : Entry := newEntry (.alarmCall 0) .alarmCall .emergency (.group 0 0) .atSend (some 2)

theorem witness_OffersAreDecided :
    (many 23).length < 24 ∧ 24 ≤ (many 24).length ∧ (∃ e ∈ many 24, e.inFlight = false ∧ e.cls = .text)
      ∧ (∃ e ∈ many 24, e.inFlight = false ∧ e.cls ≠ .emergency)
      ∧ ((many 24).map (·.cls.code)).Pairwise (· ≤ ·)
      ∧ (verdict { Channel.reset with queue := many 24 } .emergency .alarmCall).toOption = some (some e1)
      ∧ (¬ ∃ e ∈ List.replicate 24 eOrder, e.inFlight = false ∧ e.cls = .text)
      ∧ (∃ e ∈ List.replicate 24 eOrder, e.inFlight = false ∧ e.cls = .order)
      ∧ (¬ ∃ e ∈ List.replicate 24 ePrompt, e.inFlight = false ∧ e.cls = .text)
      ∧ (¬ ∃ e ∈ List.replicate 24 ePrompt, e.inFlight = false ∧ e.cls = .order)
      ∧ (∃ e ∈ List.replicate 24 ePrompt, e.inFlight = false ∧ e.kind = .checkPrompt)
      ∧ (¬ ∃ e ∈ List.replicate 24 eCall, e.inFlight = false ∧ e.cls ≠ .emergency)
      ∧ (¬ ∃ e ∈ List.replicate 24 eCall, e.inFlight = false ∧ e.kind = .checkPrompt) := by decide

theorem witness_AdmissionKeepsOrder : (([ePrompt, eOrder, e1] : List Entry).map (·.cls.code)).Pairwise (· ≤ ·) := by decide

/-- Worker 7 one tick before its lead prompt falls due, with the countdown at the lowest value of the clause or above it. -/
def wLead (left : Nat) : Worker :=
  { w7 with watch := .watching, leadOwed := true, remaining := some left, lead := some (left - 1) }

theorem witness_TickCountsDown :
    (∀ w ∈ s0.workers, w.watch = .watching → w.leadOwed = false)
      ∧ (withWorker (wLead 121) s0).worker? 7 = some (wLead 121) ∧ (withWorker (wLead 2) s0).worker? 7 = some (wLead 2)
      ∧ (wLead 2).remaining = some 2 ∧ (wLead 2).lead = some 1
      ∧ (∀ w ∈ (withWorker (wLead 2) s0).workers, w ≠ wLead 2 → w.watch = .watching → w.leadOwed = false)
      ∧ (withWorker (wLead 2) s0).crew? (wLead 2).crew = some k0 ∧ (s0.chan k0.current).queue.length < 24
      ∧ (s0.chan k0.current).flowHold = false ∧ ∀ e ∈ (s0.chan k0.current).queue, e.owner ≠ .prompt k0.slot ∨ e.inFlight = true := by decide

/-- Permit 1 in ISSUING with its readback countdown at 0. -/
def pIssuing (count : Nat) (hold : Bool) : Permit :=
  { p1 with state := .issuing, readback := some 0, issueCount := count, hold := hold }

theorem witness_AcceptanceAndReadbackExpire :
    (withOrder { oAssigned with state := .delivered, acceptance := some 0 } s0).order? 1
        = some { oAssigned with state := .delivered, acceptance := some 0 }
      ∧ (∀ o, (withOrder o1 s0).order? 1 = some o → o.acceptance ≠ some 0)
      ∧ (withPermit (pIssuing 2 false) s0).permit? 1 = some (pIssuing 2 false) ∧ 2 < s0.params.issueLimit
      ∧ (withPermit (pIssuing 2 true) s0).permit? 1 = some (pIssuing 2 true)
      ∧ (withPermit (pIssuing 3 false) s0).permit? 1 = some (pIssuing 3 false) ∧ s0.params.issueLimit ≤ 3
      ∧ (∀ p, (withPermit p1 s0).permit? 1 = some p → p.state ≠ .issuing) := by decide

/-- Worker 7 in ALARM, and crew 0's permit 1 owing its issue under alarm hold. -/
def sAlarmed : State := withPermit { pIssuing 1 true with issueOwed := true } (withWorker { w7 with watch := .alarm } s0)

theorem witness_clearing_ends_hold :
    sAlarmed.worker? 7 = some { w7 with watch := .alarm } ∧ sAlarmed.permit? 1 = some { pIssuing 1 true with issueOwed := true }
      ∧ (∀ w ∈ sAlarmed.workers, w.crew = w7.crew → w.badge ≠ w7.badge → w.watch ≠ .alarm ∧ w.watch ≠ .acknowledged)
      ∧ sAlarmed.crew? w7.crew = some k0 ∧ k0.alarm = .none ∧ p1.holder = w7.crew
      ∧ ({ k0 with alarm := .acknowledged } : Crew).alarm ≠ .none ∧ p1.holder ≠ 1
      ∧ (∀ w ∈ s0.workers, w.crew = 0 → w.watch ≠ .alarm ∧ w.watch ≠ .acknowledged) := by decide

/-- Worker 7 in a watch state with its remaining countdown at 0. -/
def wOut (st : WatchState) : Worker := { w7 with watch := st, remaining := some 0 }

theorem witness_WorkerBecomesDue :
    (withWorker (wOut .watching) s0).worker? 7 = some (wOut .watching)
      ∧ (withWorker (wOut .resting) s0).worker? 7 = some (wOut .resting)
      ∧ (∀ w, s0.worker? 7 = some w → w.watch ≠ .watching) ∧ s0.crew? w7.crew = some k0
      ∧ (s0.chan k0.current).queue.length < 24 ∧ (s0.chan k0.current).flowHold = false
      ∧ ∀ e ∈ (s0.chan k0.current).queue, e.owner ≠ .prompt k0.slot ∨ e.inFlight = true := by decide

def wLate : Worker := { w7 with watch := .due, graceLeft := some 0 }

theorem witness_GraceExpiryRaisesAlarm :
    (withWorker wLate s0).Inv ∧ (withWorker wLate s0).worker? 7 = some wLate ∧ (withWorker wLate s0).crew? 0 = some k0
      ∧ ∀ w, s0.worker? 7 = some w → w.watch ≠ .due :=
  ⟨inv_of _ rfl (by decide), by decide, by decide, by decide⟩

theorem witness_EscalationWidens :
    (withWorker { w7 with watch := .alarm, escal := some 0 } s0).worker? 7 = some { w7 with watch := .alarm, escal := some 0 }
      ∧ ({ s0 with crews := [{ k0 with alarm := .raised, escal := some 0 }] } : State).crew? 0
          = some { k0 with alarm := .raised, escal := some 0 }
      ∧ (∀ w, s0.worker? 7 = some w → w.watch ≠ .alarm) ∧ ∀ k, s0.crew? 0 = some k → k.alarm ≠ .raised := by decide

theorem witness_FailoverAndFailbackMove :
    (onAir { chIn .down with failover := some 0 } s0).Inv ∧ (onAir { chIn .idle with failback := some 0 } s0).Inv ∧ s0.Inv
      ∧ ((onAir { chIn .down with failover := some 0 } s0).chan 0).failover = some 0
      ∧ ((onAir { chIn .idle with failback := some 0 } s0).chan 0).failback = some 0
      ∧ (onAir { chIn .idle with failback := some 0 } s0).inService 0 = true
      ∧ (s0.chan 0).failover ≠ some 0 ∧ s0.inService 0 = false :=
  ⟨inv_of _ rfl (by decide),
    inv_of _ rfl (by decide),
    inv_of _ rfl (by decide), by decide⟩

theorem witness_LinesFollow :
    (s0.chan 0).state ≠ .down ∧ ((onAir (chIn .down) s0).chan 0).state = .down ∧ s0.inService 0 = false
      ∧ (onAir (chIn .idle) s0).inService 0 = true ∧ (∀ e ∈ ((onAir (chIn .idle) s0).chan 0).queue, e.inFlight = false)
      ∧ ((onAir { chIn .awaitReply with carrier := true } s0).chan 0).carrier = true
      ∧ ((onAir (chIn .idle) s0).chan 0).carrier = false ∧ ((onAir (chIn .idle) s0).chan 0).ranOut = false
      ∧ ((onAir { chIn .idle with ranOut := true } s0).chan 0).ranOut = true
      ∧ ((onAir { chIn .idle with ranOut := true } s0).chan 0).carrier = false := by
  decide

/-- Channel 0 with e1 in flight. -/
def chFlying (st : ChState) (e : Entry) : Channel :=
  { chIn st with queue := [{ e with inFlight := true }], attempt := some a1, carrier := false }

/-- A TEXT to a group, and channel 0 sending an entry between two texts, with an alarm in its set. -/
def eGroup : Entry := newEntry (.text 2) .text .text (.group 0 0) (.bytes [0x41]) (some 1)

def sSent (e : Entry) (watch : WatchState) : State :=
  onAir { chFlying .sending e with queue := [e1, { e with inFlight := true }, e1], alarmSet := [.worker 7] }
    (withWorker { w7 with watch := watch } s0)

theorem witness_groupSends :
    ((sSent eGroup .alarm).chan 0).state = .sending
      ∧ ((sSent eGroup .alarm).chan 0).queue = [e1] ++ { eGroup with inFlight := true } :: [e1] ∧ e1.inFlight = false
      ∧ eGroup.owner = .text 2 ∧ eGroup.addr = .group 0 0 ∧ eGroup.orphan = false
      ∧ ((sSent eCall .alarm).chan 0).permitDefer = [] ∧ ((sSent eCall .alarm).chan 0).orderDefer = []
      ∧ (∀ a ∈ ((sSent eCall .off).chan 0).alarmSet, (sSent eCall .off).unacked a = false)
      ∧ (∃ a ∈ ((sSent eCall .alarm).chan 0).alarmSet, (sSent eCall .alarm).unacked a = true)
      ∧ ({ eCall with repeats := some 1 } : Entry).repeats.getD 0 ≤ 1 ∧ eCall.rearm = false ∧ eCall.repeats = some 2
      ∧ ({ eCall with rearm := true } : Entry).rearm = true := by decide

theorem witness_SendingCourse :
    ((onAir { chIn .idle with queue := [{ e1 with holdOff := 1 }, e1] } s0).chan 0).queue = [{ e1 with holdOff := 1 }] ++ e1 :: []
      ∧ e1.holdOff = 0 ∧ (∀ e ∈ ((onAir { chIn .idle with queue := [{ e1 with holdOff := 1 }] } s0).chan 0).queue, e.holdOff ≠ 0)
      ∧ (s0.chan 0).state ≠ .sending
      ∧ ((onAir (chFlying .sending e1) s0).chan 0).queue = [] ++ { e1 with inFlight := true } :: []
      ∧ e1.addr = .crew 0 100 ∧ eCall.addr = .group 0 0 ∧ eCall.owner = .alarmCall 0 ∧ eCall.repeats = some 2
      ∧ (∃ a ∈ ((onAir { chFlying .sending eCall with alarmSet := [.worker 7] }
            (withWorker { w7 with watch := .alarm } s0)).chan 0).alarmSet,
          (withWorker { w7 with watch := .alarm } s0).unacked a = true) := by decide

theorem witness_WaitsEnd :
    ((onAir { chFlying .awaitReply e1 with replyWindow := some 0 } s0).chan 0).replyWindow ≠ none
      ∧ ((onAir (chFlying .awaitReply e1) s0).chan 0).queue.find? (·.inFlight) = some { e1 with inFlight := true }
      ∧ s0.links { e1 with inFlight := true } = true ∧ e1.orphan = false ∧ e1.kind ≠ .alarmCall
      ∧ e1.attempts < s0.params.attemptLimit
      ∧ ((onAir (chFlying .awaitReply e1) s0).chan 0).queue = [] ++ { e1 with inFlight := true } :: [] ∧ e1.addr = .crew 0 100
      ∧ s0.crew? 0 = some k0 ∧ k0.current = 0 ∧ (sQueued { oAssigned with state := .sent }).crew? 0 = some { k0 with queue := [1] }
      ∧ ((onAir { chIn .awaitRepeat with repeatWait := some 0 } s0).chan 0).repeatWait ≠ none
      ∧ ((onAir { chIn .answering with afterAnswer := some .await } s0).chan 0).afterAnswer = some .await
      ∧ ((onAir { chIn .answering with afterAnswer := some .finish } s0).chan 0).afterAnswer ≠ some .await
      ∧ (s0.chan 0).state ≠ .answering := by decide

/-- Channel 0 awaiting the reply to the last attempt of an entry that a given owner has. -/
def sLast (owner : Owner) (s : State) : State :=
  onAir { chFlying .awaitReply { e1 with owner := owner, attempts := 3 } with replyWindow := some 600 } s

theorem witness_finalFailure :
    ((sLast (.text 1) s0).chan 0).queue = [] ++ { e1 with attempts := 3, inFlight := true } :: []
      ∧ ((sLast (.text 1) s0).chan 0).replyWindow ≠ none ∧ s0.params.attemptLimit ≤ 3
      ∧ (sLast (.text 1) s0).links { e1 with attempts := 3, inFlight := true } = true ∧ (sLast (.text 1) s0).crew? 0 = some k0
      ∧ ((sLast (.text 1) s0).chan 0).permitDefer = [] ∧ ((sLast (.text 1) s0).chan 0).orderDefer = []
      ∧ (sLast (.order 1) (sQueued { oAssigned with state := .sent })).order? 1 = some { oAssigned with state := .sent }
      ∧ (sLast (.order 1) (sQueued { oAssigned with state := .sent })).links
          { e1 with owner := .order 1, attempts := 3, inFlight := true } = true
      ∧ oAssigned.crew = some 0
      ∧ (sLast (.permit .instruct 1) (withPermit (pOut .inFlight) s0)).permit? 1 = some (pOut .inFlight)
      ∧ (pOut .inFlight).outstanding.isSome ∧ (pOut .inFlight).cancelWait = false
      ∧ (pOut .inFlight).state = Phase.switching.state
      ∧ (sLast (.permit .issue 1) (withPermit (pIssuing 1 false) s0)).permit? 1 = some (pIssuing 1 false)
      ∧ (sLast (.permit .issue 1) (withPermit (pIssuing 1 false) s0)).noneWaits (.permit .issue 1) := by
  unfold State.noneWaits; decide

/-- A frame from a unit of a kind and body, and the two blocks of a longer text of which the second alone is carried. -/
def frameFrom (unit kind : Nat) (seq : Seq) (body : List Byte) (blocks : List Nat) : List Byte :=
  frameBytes ⟨kind, 2, 0, 0, unit, seq, body.length, mapOf blocks⟩ body blocks

/-- The state of a channel that is receiving from IDLE. -/
def sReceiving : State := onAir { chIn .receiving with origin := some .idle } s0

theorem witness_FrameReceivedIsJudged :
    ((sReceiving.chan 0).state = .receiving ∧ receptionOver (sReceiving.chan 0).carrier [] = true) ∧ readFrame [] = none
      ∧ (sReceiving.chan 0).origin ≠ some .awaitRepeat
      ∧ ((onAir { chIn .receiving with origin := some .awaitRepeat } s0).chan 0).origin = some .awaitRepeat
      ∧ (readFrame (frameFrom 100 1 0 [1, 1] [0])).any (fun f => f.header.kind == 1)
      ∧ (readFrame (frameFrom 100 0x22 3 [0, 7] [0])).any (fun f =>
          f.header.toBase && f.header.kind != 1 && ((Assembly.start f.header).take f).complete)
      ∧ (readFrame (frameFrom 100 0x30 3 (List.replicate 17 0x41) [1])).any (fun f =>
          f.header.toBase && !((Assembly.start f.header).take f).complete)
      ∧ s0.crewOfUnit? 101 = none ∧ s0.crewOfUnit? 100 = some k0 ∧ k0.inSeq ≠ some 3
      ∧ ({ k0 with inSeq := some 3 } : Crew).inSeq = some 3
      ∧ (readFrame (frameFrom 101 0x25 3 [0, 7, 1] [0])).any (fun f =>
          ((Assembly.start f.header).take f).body == [0, 7, 1]) := by decide

/-- A whole frame of unit 100 under a sequence that its crew has not used: its kind and body are read as given. -/
def reads (kind : Nat) (body : List Byte) : Bool :=
  (readFrame (frameFrom 100 kind 3 body [0])).any fun f =>
    f.header.toBase && f.header.kind == kind && f.header.src == 100 && f.header.seq == 3
      && ((Assembly.start f.header).take f).complete && ((Assembly.start f.header).take f).body == body

theorem witness_routedFrames :
    s0.crewOfUnit? 100 = some k0 ∧ s0.crew? k0.slot = some k0 ∧ k0.inSeq ≠ some 3 ∧ k0.reach ≠ .lost
      ∧ reads 0x29 [1] = true ∧ reads 0x30 [0x41] = true ∧ (sReceiving.chan 0).mailbox.length < 2
      ∧ 2 ≤ ((onAir { chIn .receiving with mailbox := List.replicate 2 ⟨0, 100, 0, 0, 1, [0x41]⟩ } s0).chan 0).mailbox.length
      ∧ reads 0x22 [0, 7] = true ∧ reads 0x23 [0, 7] = true ∧ reads 0x24 [0, 8] = true
      ∧ be16 0 7 ∈ k0.members ∧ be16 0 8 ∉ k0.members
      ∧ (∀ st, (withWorker { w7 with watch := st } s0).worker? 7 = some { w7 with watch := st })
      ∧ s0.highRisk 0 = false ∧ (withPermit { p1 with state := .inForce } s0).highRisk 0 = true
      ∧ (readFrame (frameFrom 101 0x25 3 [0, 7] [0])).any (fun f => ((Assembly.start f.header).take f).body == [0, 7]) := by
  refine ⟨?_, ?_, ?_, ?_, ?_, ?_, ?_, ?_, ?_, ?_, ?_, ?_, ?_, fun st => ?_, ?_, ?_, ?_⟩ <;> first | rfl | decide

theorem witness_emergencyFrames :
    reads 0x25 [0, 7, 2] = true ∧ reads 0x25 [0, 8, 1] = true ∧ sReceiving.Inv
      ∧ (withWorker { w7 with watch := .alarm } s0).worker? 7 = some { w7 with watch := .alarm } ∧ s0.worker? 7 = some w7
      ∧ w7.watch ≠ .alarm ∧ s0.crew? w7.crew = some k0 ∧ k0.alarm ≠ .raised ∧ ({ k0 with alarm := .raised } : Crew).alarm = .raised :=
  ⟨by decide, by decide, inv_of _ rfl (by decide), by decide, by decide, by decide, by decide, by decide, by decide⟩

theorem witness_orderReplyFrames :
    reads 0x21 [0, 1, 1] = true ∧ reads 0x21 [0, 1, 5] = true ∧ (sQueued oAssigned).order? 1 = some oAssigned
      ∧ (sQueued oAssigned).crew? 0 = some { k0 with queue := [1] } ∧ (sQueued oAssigned).owedOf 0 = []
      ∧ (sQueued { oAssigned with state := .sent }).order? 1 = some { oAssigned with state := .sent }
      ∧ (sQueued { oAssigned with state := .accepted }).order? 1 = some { oAssigned with state := .accepted }
      ∧ (sQueued { oAssigned with state := .working }).order? 1 = some { oAssigned with state := .working }
      ∧ oAssigned.bound = none ∧ ({ oAssigned with bound := some 1 } : Order).bound = some 1 ∧ s0.permit? 1 = none
      ∧ (∀ k ∈ (sQueued oAssigned).crews, k.slot = 0) := by decide

/-- Permit 1 of two steps, switching its first, and permit 1 restoring its only one. -/
def pTwo : Permit := { pOut .delivered with steps := [⟨5, .openDevice⟩, ⟨6, .openDevice⟩] }
def pBack : Permit :=
  { p1 with state := .restoring, stack := [(5, .openDevice)], outstanding := some ⟨101, 5, .restoration, .closeDevice, .delivered⟩ }

theorem witness_permitFrames :
    reads 0x26 [0, 1, 1, 1] = true ∧ reads 0x26 [0, 1, 101, 2] = true ∧ reads 0x27 [0, 1, 0, 0] = true ∧ reads 0x28 [0, 1] = true
      ∧ (withPermit pTwo s0).permit? 1 = some pTwo ∧ (withPermit (pOut .delivered) s0).permit? 1 = some (pOut .delivered)
      ∧ (withPermit pBack s0).permit? 1 = some pBack ∧ pBack.outstanding.map (·.index) = some 101
      ∧ (pOut .delivered).outstanding.map (·.index) = some 1 ∧ pTwo.k + 1 ≠ pTwo.steps.length
      ∧ (pOut .delivered).k + 1 = (pOut .delivered).steps.length ∧ (withPermit pTwo s0).device? 5 = some d5 ∧ d5.waits = []
      ∧ p1.holder = k0.slot ∧ Phase.switching.state = .switching ∧ (pOut .queued).cancelWait = false
      ∧ ({ pOut .queued with cancelWait := true } : Permit).cancelWait = true
      ∧ (withPermit (pIssuing 1 false) s0).permit? 1 = some (pIssuing 1 false)
      ∧ (pIssuing 1 false).digest.getD ((withPermit (pIssuing 1 false) s0).digest (pIssuing 1 false)) ≠ be16 0 0
      ∧ ({ pIssuing 1 true with digest := some 0 } : Permit).digest.getD 1 = be16 0 0
      ∧ 1 < s0.params.issueLimit ∧ s0.params.issueLimit ≤ (pIssuing 3 false).issueCount
      ∧ (withPermit { p1 with state := .inForce } s0).permit? 1 = some { p1 with state := .inForce } ∧ p1.surrender = false
      ∧ ({ p1 with state := .inForce, hold := true } : Permit).hold = true := by decide

/-- Channel 0 with a reply to e1 received. -/
def sReply : State := onAir (chFlying .awaitReply e1) s0

theorem witness_ReplyFrameDecides :
    ((sReply.chan 0).state = .awaitReply ∧ (sReply.chan 0).replyWindow = none ∧ receptionOver (sReply.chan 0).carrier [] = true)
      ∧ (sReply.chan 0).queue = [] ++ { e1 with inFlight := true } :: [] ∧ (sReply.chan 0).attempt = some a1
      ∧ readFrame [] = none
      ∧ (readFrame (frameFrom 100 1 0 [1, 1] [0])).bind (fun f => f.answerTo? 100 a1.seq) = some (1, 1)
      ∧ (readFrame (frameFrom 100 1 0 [1, 0] [0])).bind (fun f => f.answerTo? 100 a1.seq) = some (1, 0)
      ∧ (readFrame (frameFrom 100 1 0 [2, 1] [0])).bind (fun f => f.answerTo? 100 a1.seq) = some (2, 1)
      ∧ (readFrame (frameFrom 100 1 0 [4, 1] [0])).bind (fun f => f.answerTo? 100 a1.seq) = some (4, 1)
      ∧ missingBlocks (blockCount a1.body.length) 1 = [] ∧ missingBlocks (blockCount a1.body.length) 0 = [0]
      ∧ e1.blocksSent + 1 ≤ blockCount a1.body.length + s0.params.blockAllowance
      ∧ ¬ (3 + 1 ≤ blockCount a1.body.length + s0.params.blockAllowance) ∧ (s0.crew? 0).isSome
      ∧ sReply.crew? 0 = some k0 ∧ k0.current = 0
      ∧ sReply.links { e1 with inFlight := true } = true ∧ e1.kind ≠ .alarmCall ∧ e1.attempts < s0.params.attemptLimit
      ∧ (readFrame (frameFrom 100 1 3 [1, 1] [0])).any (fun f =>
          (f.answerTo? 100 a1.seq).isNone && f.header.kind == 1)
      ∧ (readFrame (frameFrom 100 0x22 3 [0, 7] [0])).any (fun f =>
          (f.answerTo? 100 a1.seq).isNone && f.header.toBase && f.header.kind != 1
            && ((Assembly.start f.header).take f).complete)
      ∧ (readFrame (frameFrom 100 0x30 3 (List.replicate 17 0x41) [1])).any (fun f =>
          (f.answerTo? 100 a1.seq).isNone && f.header.toBase && !((Assembly.start f.header).take f).complete)
      ∧ s0.crewOfUnit? 101 = none ∧ s0.crewOfUnit? 100 = some k0 ∧ k0.inSeq ≠ some 3 := by decide

/-- Channel 0 awaiting the answer to an entry that a given owner has. -/
def sAnswering (owner : Owner) (s : State) : State :=
  onAir { chFlying .awaitReply { e1 with owner := owner } with replyWindow := none } s

theorem witness_delivered :
    (sAnswering (.followUp 1) (sQueued { oAssigned with followUp := some (.cancel, .inFlight) })).order? 1
        = some { oAssigned with followUp := some (.cancel, .inFlight) }
      ∧ (sAnswering (.followUp 1) s0).noneWaits (.followUp 1)
      ∧ (sAnswering (.permit .issue 1) (withPermit { p1 with issue := some .inFlight } s0)).permit? 1
        = some { p1 with issue := some .inFlight }
      ∧ ({ p1 with issue := some .inFlight } : Permit).tg? .issue ≠ none ∧ (pOut .inFlight).tg? .instruct ≠ none
      ∧ (sAnswering (.permit .issue 1) s0).noneWaits (.permit .issue 1) ∧ e1.linked = true := by
  unfold State.noneWaits; decide

/-- An order delivered, one delivered late, one REJECTED, and one BLOCKED as its permit comes into force: each a head that stays. -/
theorem witness_headsThatStay :
    (sAnswering (.order 1) (sQueued { oAssigned with state := .sent })).settledHead { k0 with queue := [1] } 1
      ∧ (sAnswering (.order 1) (sQueued { oAssigned with state := .sent })).crew? 0 = some { k0 with queue := [1] }
      ∧ (sAnswering (.order 1) (sQueued { oAssigned with state := .sent })).order? 1 = some { oAssigned with state := .sent }
      ∧ (sAnswering (.order 1) (sQueued { oAssigned with state := .cancelled })).order? 1 = some { oAssigned with state := .cancelled }
      ∧ OrderState.cancelled.movable = false ∧ OrderState.accepted ≠ .assigned
      ∧ (sAnswering (.order 1) (sQueued { oAssigned with state := .accepted })).settledHead { k0 with queue := [1] } 1
      ∧ (sQueued { oAssigned with state := .blocked, bound := some 1 }).settledHead { k0 with queue := [1] } 1
      ∧ (∀ o ∈ (sQueued { oAssigned with state := .blocked, bound := some 1 }).orders, o.number = 1 ∧ o.state = .blocked)
      ∧ k0.reach ≠ .lost ∧ (s0.chan k0.current).queue.length < 24
      ∧ (sQueued { oAssigned with state := .blocked, bound := some 1 }).noneWaits (.followUp 1) := by
  unfold State.settledHead State.noneWaits; decide

/-- A prompt and a permit's telegrams that fail finally, and a TEXT with room for its notice. -/
theorem witness_rejected :
    (sAnswering (.prompt 0) s0).worker? 7 = some w7 ∧ w7.crew = 0
      ∧ (∀ c, ∀ x ∈ ((sAnswering (.prompt 0) s0).chan c).queue, x.owner = .prompt 0 → x.inFlight = true)
      ∧ (3 : Nat) ≠ 1 ∧ (4 : Nat) ≠ 2 ∧ s0.notices.length < 64
      ∧ (sAnswering (.permit .instruct 1) (withPermit (pOut .inFlight) s0)).permit? 1 = some (pOut .inFlight)
      ∧ (pOut .inFlight).state = Phase.switching.state
      ∧ (pTurning .restoring (some .inFlight)).cancelWait = true ∧ (pTurning .restoring (some .inFlight)).outstanding.isSome
      ∧ (sAnswering (.permit .answer 1) s0).noneWaits (.permit .answer 1)
      ∧ ({ p1 with answer := some ⟨.held, some .alarm, .inFlight⟩ } : Permit).tg? .answer ≠ none := by
  unfold State.noneWaits; decide

/-- The states of these witnesses meet the invariant: an order, a prompt and a permit's telegram under way, and a head BLOCKED under the
permit whose issue is read back. -/
theorem witness_recordsInOrder :
    (sAnswering (.order 1) (sQueued { oAssigned with state := .sent })).Inv
      ∧ (sAnswering (.prompt 0) s0).Inv ∧ (sAnswering (.permit .instruct 1) (withPermit (pOut .inFlight) s0)).Inv
      ∧ (withPermit (pIssuing 1 false) (onAir { chIn .receiving with origin := some .idle }
          (sQueued { oAssigned with state := .blocked, bound := some 1 }))).Inv :=
  ⟨inv_of _ rfl (by decide), inv_of _ rfl (by decide), inv_of _ rfl (by decide), inv_of _ rfl (by decide)⟩

end Sys2Proof.Tests
end

section
/-!
The answers of SIGN_ON and ADD_MEMBER (R3, R5). A console request whose own work owes no space signal answers what that work
returns; what each check of these requests asks of the records is then said once, and the statements are put together from these.
-/

namespace Sys2Proof.Machine

/-! ### What a console request answers -/

/-- A console request answers what its own work returns, when that work leaves the link and the waiting commands alone and owes
no space signal. -/
theorem runs_console_answers {i : Instr} {x : Xfer} {s effect t : State} {work : State → Reply} {status : Status}
    {results : List Byte} (hi : exec i s = .next (s.console x work))
    (hw : work (s.atRequest x) = (t, status, results)) (hcarry : status.carries = true ∨ results = [])
    (hpending : t.pending = s.pending) (hout : t.linkOut = s.shifted x.clocks)
    (hlost : t.responseLost = (s.responseLost || !s.readOut x.clocks)) (hsignals : t.signals = [])
    (hbare : t.bare = { effect with signals := [] }.bare) : Runs i s (Answers s x effect status results) := by
  have hreplied := s.console_replied x work (by rw [hw]; exact hpending) (by rw [hw]; exact hout) (by rw [hw]; exact hlost)
  have hrecords := s.console_bare x work (by rw [hw]; exact hsignals)
  rw [hw] at hreplied hrecords
  have hresults : (if status.carries then results else []) = results := by
    rcases hcarry with h | h <;> simp [h]
  exact ⟨_, hi, hresults ▸ hreplied, hrecords.trans hbare⟩

/-- A console request whose own work refuses changes no record (R195). -/
theorem refuses_of_refuse {i : Instr} {x : Xfer} {s : State} {work : State → Reply} {status : Status}
    (hi : exec i s = .next (s.console x work)) (hw : work (s.atRequest x) = (s.atRequest x).refuse status) :
    Refuses i s x status :=
  runs_console_answers hi hw (.inr rfl) rfl rfl rfl rfl rfl

/-! ### What the checks ask of the records -/

theorem chanOf_eq_none_iff {n : Nat} : chanOf n = none ↔ 3 < n := by
  unfold chanOf; split <;> simp <;> omega

theorem altOf_eq_none_iff {b : Byte} : altOf b = none ↔ 3 < b.toNat ∧ b.toNat ≠ 255 := by
  unfold altOf
  split
  · simp [*]
  · simp [chanOf_eq_none_iff, *]

theorem State.crewOfUnit?_isSome_iff {s : State} {unit : Nat} :
    (s.crewOfUnit? unit).isSome ↔ ∃ k ∈ s.crews, k.unit = unit := by
  simp [State.crewOfUnit?]

theorem State.worker?_isSome_iff {s : State} {badge : Nat} :
    (s.worker? badge).isSome ↔ ∃ w ∈ s.workers, w.badge = badge := by
  simp [State.worker?, tFind]

theorem State.crew?_isSome_iff {s : State} {slot : Nat} : (s.crew? slot).isSome ↔ ∃ k ∈ s.crews, k.slot = slot := by
  simp [State.crew?, tFind]

theorem State.freeSlots_eq_nil_iff {s : State} : s.freeSlots = [] ↔ ∀ j < 64, ∃ k ∈ s.crews, k.slot = j := by
  simp [State.freeSlots, ← State.crew?_isSome_iff, Option.isSome_iff_ne_none]

theorem State.workersFull_iff {s : State} : s.workersFull = true ↔ 160 ≤ s.workers.length := by
  simp [State.workersFull]

/-- The check of a named crew passes where the slot holds one (R1). -/
theorem State.onCrew_of_crew? {s : State} {b : Byte} {k : Crew} (work : Crew → Reply) (hb : b.toNat ≤ 63)
    (hk : s.crew? b.toNat = some k) : s.onCrew b work = work k := by
  simp [State.onCrew, Nat.not_lt.2 hb, hk]

/-! ### SIGN_ON (R3) -/

section
variable (uh ul q hb a bh bl : Byte) (s : State)

/-- R3, first row: the unit address, the qualification, the home channel, the alternate channel or the badge is out of range. -/
def SignOnOutOfRange : Prop :=
  be16 uh ul < 1 ∨ 8000 < be16 uh ul ∨ 3 < q.toNat ∨ 3 < hb.toNat ∨ (3 < a.toNat ∧ a.toNat ≠ 255)
    ∨ be16 bh bl = 0 ∨ be16 bh bl = 65535

/-- R3, second row: a crew holds the unit address, or a worker the badge. -/
def SignOnTaken : Prop := (∃ k ∈ s.crews, k.unit = be16 uh ul) ∨ ∃ w ∈ s.workers, w.badge = be16 bh bl

/-- R3, third row: no crew slot or no worker record is free. -/
def State.rosterFull : Prop := (∀ j < 64, ∃ k ∈ s.crews, k.slot = j) ∨ 160 ≤ s.workers.length

variable {uh ul q hb a bh bl s}

theorem askSignOn_of_outOfRange (h : SignOnOutOfRange uh ul q hb a bh bl) :
    askSignOn [uh, ul, q, hb, a, bh, bl] s = s.refuse .badValue := by
  simp only [askSignOn]
  split
  next home alt hhome halt =>
    have hhb : ¬ 3 < hb.toNat := by rw [← chanOf_eq_none_iff, hhome]; nofun
    have ha : ¬ (3 < a.toNat ∧ a.toNat ≠ 255) := by rw [← altOf_eq_none_iff, halt]; nofun
    unfold SignOnOutOfRange at h
    exact if_pos (by omega)
  next => rfl

/-- Past the first row, the home and the alternate channel are channels, and the remaining ranges hold. -/
theorem channels_of_inRange (h : ¬ SignOnOutOfRange uh ul q hb a bh bl) :
    (∃ home, chanOf hb.toNat = some home) ∧ (∃ alt, altOf a = some alt)
      ∧ ¬ (be16 uh ul = 0 ∨ 8000 < be16 uh ul ∨ 3 < q.toNat ∨ be16 bh bl = 0 ∨ be16 bh bl = 65535) := by
  unfold SignOnOutOfRange at h
  refine ⟨Option.ne_none_iff_exists'.1 fun e => ?_, Option.ne_none_iff_exists'.1 fun e => ?_, by omega⟩
  · have := chanOf_eq_none_iff.1 e; omega
  · have := altOf_eq_none_iff.1 e; omega

theorem signOnTaken_iff : ((s.crewOfUnit? (be16 uh ul)).isSome ∨ (s.worker? (be16 bh bl)).isSome) ↔ SignOnTaken uh ul bh bl s := by
  rw [State.crewOfUnit?_isSome_iff, State.worker?_isSome_iff, SignOnTaken]

theorem askSignOn_of_taken (hrange : ¬ SignOnOutOfRange uh ul q hb a bh bl) (h : SignOnTaken uh ul bh bl s) :
    askSignOn [uh, ul, q, hb, a, bh, bl] s = s.refuse .duplicate := by
  obtain ⟨⟨home, hhome⟩, ⟨alt, halt⟩, hok⟩ := channels_of_inRange hrange
  simp only [askSignOn, hhome, halt]
  rw [if_neg hok, if_pos (signOnTaken_iff.2 h)]

theorem askSignOn_of_full (hrange : ¬ SignOnOutOfRange uh ul q hb a bh bl) (htaken : ¬ SignOnTaken uh ul bh bl s)
    (h : s.rosterFull) : askSignOn [uh, ul, q, hb, a, bh, bl] s = s.refuse .full := by
  obtain ⟨⟨home, hhome⟩, ⟨alt, halt⟩, hok⟩ := channels_of_inRange hrange
  simp only [askSignOn, hhome, halt]
  rw [if_neg hok, if_neg (mt signOnTaken_iff.1 htaken)]
  split
  next => rfl
  next slot more hslots =>
    have hworkers : 160 ≤ s.workers.length := h.resolve_left fun hall => by
      rw [State.freeSlots_eq_nil_iff.2 hall] at hslots; cases hslots
    exact if_pos (State.workersFull_iff.2 hworkers)

end

/-- Settles O14: each row of R3 is a check of askSignOn, and the transfer before it leaves the records they ask about. -/
theorem signOnChecks : Obligations.SignOnChecks := by
  intro x uh ul q hb a bh bl s
  exact ⟨fun h => refuses_of_refuse rfl (askSignOn_of_outOfRange h),
    fun hrange h => refuses_of_refuse rfl (askSignOn_of_taken (s := s.atRequest x) hrange h),
    fun hrange htaken h => refuses_of_refuse rfl (askSignOn_of_full (s := s.atRequest x) hrange htaken h)⟩

/-! ### ADD_MEMBER (R5) -/

/-- The roster with a worker taken into a crew as its last member (R5, R97). -/
def State.appendMember (s : State) (slot badge : Nat) : State :=
  { s.modCrew slot (fun k => { k with members := k.members ++ [badge] }) with
    workers := tPut Worker.badge (s.newWorker badge slot) s.workers }

section
variable {b h l : Byte} {k : Crew} {s : State} (hb : b.toNat ≤ 63) (hk : s.crew? b.toNat = some k)
include hb hk

theorem askAddMember_of_badBadge (hbad : be16 h l = 0 ∨ be16 h l = 65535) :
    askAddMember [b, h, l] s = s.refuse .badValue := by
  simp only [askAddMember, State.onCrew_of_crew? _ hb hk]
  exact if_pos hbad

theorem askAddMember_of_taken (hbadge : ¬ (be16 h l = 0 ∨ be16 h l = 65535)) (htaken : (s.worker? (be16 h l)).isSome) :
    askAddMember [b, h, l] s = s.refuse .duplicate := by
  simp only [askAddMember, State.onCrew_of_crew? _ hb hk]
  rw [if_neg hbadge, if_pos htaken]

theorem askAddMember_of_full (hbadge : ¬ (be16 h l = 0 ∨ be16 h l = 65535)) (hfree : s.worker? (be16 h l) = none)
    (hfull : 6 ≤ k.members.length ∨ 160 ≤ s.workers.length) : askAddMember [b, h, l] s = s.refuse .full := by
  simp only [askAddMember, State.onCrew_of_crew? _ hb hk]
  rw [if_neg hbadge, if_neg (by simp [hfree]), if_pos (by rwa [State.workersFull_iff])]

theorem askAddMember_of_room (hbadge : ¬ (be16 h l = 0 ∨ be16 h l = 65535)) (hfree : s.worker? (be16 h l) = none)
    (hroom : ¬ (6 ≤ k.members.length ∨ 160 ≤ s.workers.length)) :
    askAddMember [b, h, l] s = (s.appendMember b.toNat (be16 h l), .ok, u8 (k.members.length + 1)) := by
  have hslot : k.slot = b.toNat := (tFind_some Crew.slot hk).1
  simp only [askAddMember, State.onCrew_of_crew? _ hb hk]
  rw [if_neg hbadge, if_neg (by simp [hfree]), if_neg (by rwa [State.workersFull_iff]), hslot]
  rfl

end

/-- Settles O15: each check of R5 in turn, and where all pass the append that askAddMember makes is the one stated. -/
theorem addMemberAppends : Obligations.AddMemberAppends := by
  intro x b h l k s hb hk
  have hk' : (s.atRequest x).crew? b.toNat = some k := hk
  refine ⟨fun hbad => ?_, fun h0 h1 htaken => ?_, fun h0 h1 hfree hfull => ?_, fun h0 h1 hfree hmembers hworkers => ?_⟩
  · exact refuses_of_refuse rfl (askAddMember_of_badBadge hb hk' hbad)
  · exact refuses_of_refuse rfl (askAddMember_of_taken hb hk' (not_or.2 ⟨h0, h1⟩) htaken)
  · exact refuses_of_refuse rfl (askAddMember_of_full hb hk' (not_or.2 ⟨h0, h1⟩) hfree hfull)
  · have hroom : ¬ (6 ≤ k.members.length ∨ 160 ≤ s.workers.length) := by omega
    exact runs_console_answers rfl (askAddMember_of_room hb hk' (not_or.2 ⟨h0, h1⟩) hfree hroom) (.inl rfl)
      rfl rfl rfl rfl rfl

end Sys2Proof.Machine
end

section
/-!
The answers of LOAD_DEVICE (R48). What each check asks of the number, the codes and the Device Table is said once, in the order of
R48's table, and the statement is put together from these.
-/

namespace Sys2Proof.Machine

/-! ### What the checks ask -/

theorem kindOf_eq_none_iff {n : Nat} : kindOf n = none ↔ n < 1 ∨ 4 < n := by
  unfold kindOf; split <;> simp
  grind

theorem positionOf_eq_none_iff {n : Nat} : positionOf n = none ↔ n < 1 ∨ 2 < n := by
  unfold positionOf; split <;> simp
  grind

theorem State.device?_isSome_iff {s : State} {number : Nat} :
    (s.device? number).isSome ↔ ∃ d ∈ s.devices, d.number = number := by
  simp [State.device?, tFind]

/-- The isolation position of a kind, as a response gives it: 2 (CLOSED) for the code of a GROUND, 1 (OPEN) for the others (3.1). -/
theorem isolation_field_of_kindOf {n : Nat} {kind : DeviceKind} (h : kindOf n = some kind) :
    u8 kind.isolation.code = if n = 4 then [2] else [1] := by
  unfold kindOf at h
  split at h <;> cases h <;> rfl

/-! ### LOAD_DEVICE (R48) -/

/-- A device as LOAD_DEVICE brings it in: no tag hangs on it, no instruction is pending and no permit waits for it (3.1). -/
def Device.loaded (number : Nat) (kind : DeviceKind) (position : Position) : Device :=
  { number := number, kind := kind, position := position, tags := [], restore := none, pending := none, waits := [] }

section
variable (h l kb pb : Byte)

/-- R48, first row: the number, the kind code or the position code is out of range. -/
def LoadOutOfRange : Prop := 511 < be16 h l ∨ kb.toNat < 1 ∨ 4 < kb.toNat ∨ pb.toNat < 1 ∨ 2 < pb.toNat

variable {h l kb pb} {s : State}

theorem askLoadDevice_of_outOfRange (hbad : LoadOutOfRange h l kb pb) :
    askLoadDevice [h, l, kb, pb] s = s.refuse .badValue := by
  simp only [askLoadDevice]
  split
  next kind position hkind hposition =>
    have hk : ¬ (kb.toNat < 1 ∨ 4 < kb.toNat) := by rw [← kindOf_eq_none_iff, hkind]; nofun
    have hp : ¬ (pb.toNat < 1 ∨ 2 < pb.toNat) := by rw [← positionOf_eq_none_iff, hposition]; nofun
    unfold LoadOutOfRange at hbad
    exact if_pos (by omega)
  next => rfl

/-- Past the first row, the two codes name a kind and a position, and the number has a place. -/
theorem loadable_of_inRange (hrange : ¬ LoadOutOfRange h l kb pb) :
    (∃ kind, kindOf kb.toNat = some kind) ∧ (∃ position, positionOf pb.toNat = some position) ∧ ¬ 511 < be16 h l := by
  unfold LoadOutOfRange at hrange
  refine ⟨Option.ne_none_iff_exists'.1 fun e => ?_, Option.ne_none_iff_exists'.1 fun e => ?_, by omega⟩
  · have := kindOf_eq_none_iff.1 e; omega
  · have := positionOf_eq_none_iff.1 e; omega

theorem askLoadDevice_of_taken (hrange : ¬ LoadOutOfRange h l kb pb) (htaken : ∃ d ∈ s.devices, d.number = be16 h l) :
    askLoadDevice [h, l, kb, pb] s = s.refuse .duplicate := by
  obtain ⟨⟨kind, hkind⟩, ⟨position, hposition⟩, hnumber⟩ := loadable_of_inRange hrange
  simp only [askLoadDevice, hkind, hposition]
  rw [if_neg hnumber, if_pos (State.device?_isSome_iff.2 htaken)]

theorem askLoadDevice_of_free {kind : DeviceKind} {position : Position} (hkind : kindOf kb.toNat = some kind)
    (hposition : positionOf pb.toNat = some position) (hnumber : be16 h l ≤ 511)
    (hfree : ¬ ∃ d ∈ s.devices, d.number = be16 h l) :
    askLoadDevice [h, l, kb, pb] s
      = ({ s with devices := tPut Device.number (Device.loaded (be16 h l) kind position) s.devices },
          .ok, u16 (be16 h l) ++ if kb.toNat = 4 then [2] else [1]) := by
  simp only [askLoadDevice, hkind, hposition]
  rw [if_neg (Nat.not_lt.2 hnumber), if_neg (mt State.device?_isSome_iff.1 hfree), isolation_field_of_kindOf hkind]
  rfl

end

/-- Settles O27: each row of R48 is a check of askLoadDevice, and where both pass it loads the record that the statement writes out. -/
theorem loadDeviceLoads : Obligations.LoadDeviceLoads := by
  intro x h l kb pb s
  refine ⟨fun hbad => ?_, fun hrange htaken => ?_, fun kind position hkind hposition hnumber hfree => ?_⟩
  · exact refuses_of_refuse rfl (askLoadDevice_of_outOfRange hbad)
  · exact refuses_of_refuse rfl (askLoadDevice_of_taken (s := s.atRequest x) hrange htaken)
  · exact runs_console_answers rfl (askLoadDevice_of_free (s := s.atRequest x) hkind hposition hnumber hfree) (.inl rfl)
      rfl rfl rfl rfl rfl

end Sys2Proof.Machine
end

section
/-!
The invariant of the part (Safety.lean) is kept by every step. What the work of a command keeps is said for all commands at once:
most work keeps the shape of the state and the limits of what it stores (`Keeps`); the few requests that enter or delete records,
or change a counter or a parameter, are taken one by one.
-/

namespace Sys2Proof.Machine

/-! ### The tables and counters, by the shape of the state -/

/-- The tables, counters and parameters are right, as the shape of the state tells. -/
structure Shape.Right (h : Shape) : Prop where
  slots    : rising h.slots ∧ ∀ n ∈ h.slots, n ≤ 63
  badges   : rising h.badges ∧ h.badges.length ≤ 160 ∧ ∀ n ∈ h.badges, 1 ≤ n ∧ n ≤ 65534
  numbers  : rising h.numbers ∧ h.numbers.length ≤ 256 ∧ ∀ n ∈ h.numbers, 1 ≤ n ∧ n ≤ 65535
  devices  : rising h.devices ∧ ∀ n ∈ h.devices, n ≤ 511
  serials  : rising h.serials ∧ h.serials.length ≤ 32 ∧ ∀ n ∈ h.serials, 1 ≤ n ∧ n ≤ 65535
  nextText : 1 ≤ h.nextText ∧ h.nextText ≤ 65535
  nextSerial : 1 ≤ h.nextSerial ∧ h.nextSerial ≤ 65535
  params   : h.params.inRange

theorem State.shape_right_iff {s : State} : s.shape.Right ↔ s.tablesRight ∧ s.countersRight ∧ s.params.inRange := by
  constructor
  · rintro ⟨hslots, hbadges, hnumbers, hdevices, hserials, htext, hserial, hparams⟩
    simp only [State.shape, List.length_map, List.forall_mem_map] at *
    exact ⟨⟨hslots, hbadges, hnumbers, hdevices, hserials⟩, ⟨htext, hserial⟩, hparams⟩
  · rintro ⟨⟨hslots, hbadges, hnumbers, hdevices, hserials⟩, ⟨htext, hserial⟩, hparams⟩
    constructor <;> simp only [State.shape, List.length_map, List.forall_mem_map] <;> assumption

/-- The part of the invariant that the work of a command keeps; the output lines and the space signals are settled after it. -/
structure State.Sound (s : State) : Prop where
  bounded : s.bounded
  lists   : s.listsRight
  shape   : s.shape.Right

theorem State.Inv.sound {s : State} (h : s.Inv) : s.Sound :=
  ⟨h.bounded, h.lists, State.shape_right_iff.2 ⟨h.tables, h.counters, h.params⟩⟩

theorem State.Sound.inv {s : State} (h : s.Sound) (ho : s.outputsRight) (hs : s.signals = []) : s.Inv := by
  obtain ⟨htables, hcounters, hparams⟩ := State.shape_right_iff.1 h.shape
  exact ⟨h.bounded, htables, h.lists, hcounters, hparams, ho, hs⟩

/-- A state has come from another by work that keeps the shape of the state and the limits of what it stores. -/
structure Keeps (s t : State) : Prop where
  shape   : t.shape = s.shape
  bounded : s.bounded → t.bounded
  lists   : s.listsRight → t.listsRight

theorem Keeps.refl (s : State) : Keeps s s := ⟨rfl, id, id⟩

theorem Keeps.trans {s t u : State} (h : Keeps s t) (h' : Keeps t u) : Keeps s u :=
  ⟨h'.shape.trans h.shape, h'.bounded ∘ h.bounded, h'.lists ∘ h.lists⟩

theorem Keeps.sound {s t : State} (h : Keeps s t) (hs : s.Sound) : t.Sound :=
  ⟨h.bounded hs.bounded, h.lists hs.lists, h.shape ▸ hs.shape⟩

/-! ### The course of a command -/

theorem State.settle_shape (s : State) : s.settle.shape = s.shape := rfl

theorem State.settle_lists {s : State} (h : s.listsRight) : s.settle.listsRight := h

theorem State.giveSignals_keeps (s : State) : Keeps s s.giveSignals :=
  ⟨s.giveSignals_shape, State.giveSignals_bounded, State.giveSignals_lists⟩

theorem State.settle_sound {s : State} (h : s.Sound) : s.settle.Sound :=
  ⟨State.settle_bounded h.bounded, State.settle_lists h.lists, h.shape⟩

/-- Neither a response nor a transfer is a part of what the invariant speaks of. -/
theorem State.Sound.of_link {s t : State} (h : s.Sound) (hb : t.bounded ↔ s.bounded) (hl : t.listsRight ↔ s.listsRight)
    (hs : t.shape.Right ↔ s.shape.Right) : t.Sound := ⟨hb.2 h.bounded, hl.2 h.lists, hs.2 h.shape⟩

theorem State.respond_sound {s : State} (tag : Byte) (status : Status) (results : List Byte) (h : s.Sound) :
    (s.respond tag status results).Sound :=
  h.of_link .rfl .rfl (by simp only [State.shape_right_iff]; exact .rfl)

theorem State.atRequest_sound {s : State} (x : Xfer) (h : s.Sound) : (s.atRequest x).Sound :=
  h.of_link .rfl .rfl (by simp only [State.shape_right_iff]; exact .rfl)

theorem State.atEvent_sound {s : State} (h : s.Sound) : s.atEvent.Sound :=
  h.of_link .rfl .rfl (by simp only [State.shape_right_iff]; exact .rfl)

theorem State.console_inv {s : State} {x : Xfer} {work : State → Reply} (hw : ∀ t, t.Sound → (work t).1.Sound)
    (h : s.Inv) : (s.console x work).Inv :=
  have hwork := hw _ (State.atRequest_sound x h.sound)
  (State.settle_sound (State.respond_sound _ _ _ ((State.giveSignals_keeps _).sound hwork))).inv
    (s.console_outputsRight x work) (s.console_signals x work)

theorem State.event_inv {s : State} {work : State → State} (hw : ∀ t, t.Sound → (work t).Sound) (h : s.Inv) :
    (s.event work).Inv :=
  have hwork := hw s.atEvent (State.atEvent_sound h.sound)
  (State.settle_sound ((State.giveSignals_keeps _).sound hwork)).inv (s.event_outputsRight work) (s.event_signals work)

theorem State.console_inv_of_keeps {s : State} {x : Xfer} {work : State → Reply} (hw : ∀ t, Keeps t (work t).1)
    (h : s.Inv) : (s.console x work).Inv :=
  State.console_inv (fun t => (hw t).sound) h

theorem State.event_inv_of_keeps {s : State} {work : State → State} (hw : ∀ t, Keeps t (work t))
    (h : s.Inv) : (s.event work).Inv :=
  State.event_inv (fun t => (hw t).sound) h

/-! ### The things a request names

What holds of the state before a request, and after the work for the thing it names, holds after the request. -/

section
variable {s : State} {P : State → Prop} (hs : P s)
include hs

theorem State.onCrew_of {b : Byte} {work : Crew → Reply} (hw : ∀ k, s.crew? b.toNat = some k → P (work k).1) :
    P (s.onCrew b work).1 := by
  unfold State.onCrew
  split
  · exact hs
  · split
    · exact hs
    · exact hw _ ‹_›

theorem State.onWorker_of {h l : Byte} {work : Worker → Reply} (hw : ∀ w, s.worker? (be16 h l) = some w → P (work w).1) :
    P (s.onWorker h l work).1 := by
  unfold State.onWorker
  split
  · exact hs
  · split
    · exact hs
    · exact hw _ ‹_›

theorem State.onOrder_of {h l : Byte} {work : Order → Reply} (hw : ∀ o, s.order? (be16 h l) = some o → P (work o).1) :
    P (s.onOrder h l work).1 := by
  unfold State.onOrder
  split
  · exact hs
  · split
    · exact hs
    · exact hw _ ‹_›

theorem State.onDevice_of {h l : Byte} {work : Device → Reply} (hw : ∀ d, s.device? (be16 h l) = some d → P (work d).1) :
    P (s.onDevice h l work).1 := by
  unfold State.onDevice
  split
  · exact hs
  · split
    · exact hs
    · exact hw _ ‹_›

theorem State.onPermit_of {h l : Byte} {work : Permit → Reply} (hw : ∀ p, s.permit? (be16 h l) = some p → P (work p).1) :
    P (s.onPermit h l work).1 := by
  unfold State.onPermit
  split
  · exact hs
  · split
    · exact hs
    · exact hw _ ‹_›

theorem State.onChannel_of {b : Byte} {work : Chan → Reply} (hw : ∀ c, P (work c).1) : P (s.onChannel b work).1 := by
  unfold State.onChannel
  split
  · exact hs
  · exact hw _

end

/-! ### One step of work after another

Each operation of the tables keeps what the work before it has kept; a chain of them is written in the order of the work. -/

section
variable {s t : State} (h : Keeps s t)
include h

theorem Keeps.modCrew {slot : Nat} {f : Crew → Crew} (hf : ∀ k, (f k).slot = k.slot)
    (hb : ∀ k, k.bounded → (f k).bounded) : Keeps s (t.modCrew slot f) :=
  h.trans ⟨State.modCrew_shape_of _ _ _ hf, State.modCrew_bounded _ _, State.modCrew_lists_of _ _ hb⟩

theorem Keeps.modWorker {badge : Nat} {f : Worker → Worker} (hf : ∀ w, (f w).badge = w.badge) :
    Keeps s (t.modWorker badge f) :=
  h.trans ⟨State.modWorker_shape_of _ _ _ hf, State.modWorker_bounded _ _, State.modWorker_lists _ _⟩

theorem Keeps.modOrder {n : Nat} {f : Order → Order} (hf : ∀ o, (f o).number = o.number) :
    Keeps s (t.modOrder n f) :=
  h.trans ⟨State.modOrder_shape_of _ _ _ hf, State.modOrder_bounded _ _, State.modOrder_lists _ _⟩

theorem Keeps.modDevice {n : Nat} {f : Device → Device} (hf : ∀ d, (f d).number = d.number)
    (hb : ∀ d, d.bounded → (f d).bounded) : Keeps s (t.modDevice n f) :=
  h.trans ⟨State.modDevice_shape_of _ _ _ hf, State.modDevice_bounded _ _, State.modDevice_lists_of _ _ hb⟩

theorem Keeps.modPermit {serial : Nat} {f : Permit → Permit} (hf : ∀ p, (f p).serial = p.serial) :
    Keeps s (t.modPermit serial f) :=
  h.trans ⟨State.modPermit_shape_of _ _ _ hf, State.modPermit_bounded _ _, State.modPermit_lists _ _⟩

/-- A change of a channel that lengthens neither its queue nor its mailbox. -/
theorem Keeps.modChan {c : Chan} {f : Channel → Channel}
    (hq : ∀ ch, (f ch).queue.length ≤ ch.queue.length)
    (hm : ∀ ch, (f ch).mailbox.length ≤ ch.mailbox.length) : Keeps s (t.modChan c f) :=
  h.trans ⟨rfl, State.modChan_bounded c f hq hm, State.modChan_lists c f⟩

theorem Keeps.post {n : Subject} : Keeps s (t.post n) :=
  h.trans ⟨State.post_shape _ _, State.post_bounded _, State.post_lists _⟩

theorem Keeps.setPermitState {serial : Nat} {new : PermitState} {cause : PermitCause} : Keeps s (t.setPermitState serial new cause) :=
  h.trans ⟨State.setPermitState_shape _ _ _ _, State.setPermitState_bounded _ _ _, State.setPermitState_lists _ _ _⟩

theorem Keeps.claimNext {serial : Nat} : Keeps s (t.claimNext serial).1 :=
  h.trans ⟨State.claimNext_shape _ _, State.claimNext_bounded _, State.claimNext_lists _⟩

theorem Keeps.answerSurrender {serial : Nat} {a : SurrenderAnswer} {r : Option SurrenderReason} : Keeps s (t.answerSurrender serial a r) :=
  h.trans ⟨State.answerSurrender_shape _ _ _ _, State.answerSurrender_bounded _ _ _, State.answerSurrender_lists _ _ _⟩

theorem Keeps.callIssue {serial : Nat} : Keeps s (t.callIssue serial) :=
  h.trans ⟨State.callIssue_shape _ _, State.callIssue_bounded _, State.callIssue_lists _⟩

theorem Keeps.stall {serial : Nat} {phase : Phase} {cause : StallCause} : Keeps s (t.stall serial phase cause) :=
  h.trans ⟨State.stall_shape _ _ _ _, State.stall_bounded _ _ _, State.stall_lists _ _ _⟩

theorem Keeps.leaveWaits {serial : Nat} : Keeps s (t.leaveWaits serial) :=
  h.trans ⟨State.leaveWaits_shape _ _, State.leaveWaits_bounded _, State.leaveWaits_lists _⟩

theorem Keeps.dropInstruction {serial : Nat} : Keeps s (t.dropInstruction serial) :=
  h.trans ⟨State.dropInstruction_shape _ _, State.dropInstruction_bounded _, State.dropInstruction_lists _⟩

theorem Keeps.freeDevice {device : Nat} : Keeps s (t.freeDevice device) :=
  h.trans ⟨State.freeDevice_shape _ _, State.freeDevice_bounded _, State.freeDevice_lists _⟩

theorem Keeps.dropIssue {serial : Nat} : Keeps s (t.dropIssue serial) :=
  h.trans ⟨State.dropIssue_shape _ _, State.dropIssue_bounded _, State.dropIssue_lists _⟩

theorem Keeps.closePermit {serial : Nat} {cause : PermitCause} : Keeps s (t.closePermit serial cause) :=
  h.trans ⟨State.closePermit_shape _ _ _, State.closePermit_bounded _ _, State.closePermit_lists _ _⟩

theorem Keeps.beginRestoration {serial : Nat} {cause : PermitCause} : Keeps s (t.beginRestoration serial cause) :=
  h.trans ⟨State.beginRestoration_shape _ _ _, State.beginRestoration_bounded _ _, State.beginRestoration_lists _ _⟩

theorem Keeps.releaseUnreported {serial : Nat} : Keeps s (t.releaseUnreported serial) :=
  h.trans ⟨State.releaseUnreported_shape _ _, State.releaseUnreported_bounded _, State.releaseUnreported_lists _⟩

theorem Keeps.leaveQueue {slot n : Nat} : Keeps s (t.leaveQueue slot n) :=
  h.trans ⟨State.leaveQueue_shape _ _ _, State.leaveQueue_bounded _ _, State.leaveQueue_lists _ _⟩

theorem Keeps.withdrawOrder {n : Nat} : Keeps s (t.withdrawOrder n) :=
  h.trans ⟨State.withdrawOrder_shape _ _, State.withdrawOrder_bounded _, State.withdrawOrder_lists _⟩

theorem Keeps.followWithCancel {n : Nat} : Keeps s (t.followWithCancel n) :=
  h.trans ⟨State.followWithCancel_shape _ _, State.followWithCancel_bounded _, State.followWithCancel_lists _⟩

theorem Keeps.check {slot : Nat} : Keeps s (t.check slot) :=
  h.trans ⟨State.check_shape _ _, State.check_bounded _, State.check_lists _⟩

theorem Keeps.offerPrompt {badge : Nat} {overdue : Bool} : Keeps s (t.offerPrompt badge overdue) :=
  h.trans ⟨State.offerPrompt_shape _ _ _, State.offerPrompt_bounded _ _, State.offerPrompt_lists _ _⟩

theorem Keeps.restart {badge : Nat} : Keeps s (t.restart badge) :=
  h.trans ⟨State.restart_shape _ _, State.restart_bounded _, State.restart_lists _⟩

theorem Keeps.strike {slot badge : Nat} : Keeps s (t.strike slot badge) :=
  h.trans ⟨State.strike_shape _ _ _, State.strike_bounded _ _, State.strike_lists _ _⟩

theorem Keeps.leadPrompt {badge : Nat} : Keeps s (t.leadPrompt badge) :=
  h.trans ⟨State.leadPrompt_shape _ _, State.leadPrompt_bounded _, State.leadPrompt_lists _⟩

theorem Keeps.cutMember {badge : Nat} : Keeps s (t.cutMember badge) :=
  (h.modWorker (f := fun w => w.cut t.params.highRiskCap t.params.promptLead)
    fun w => by unfold Worker.cut; dsimp only; split <;> rfl).leadPrompt

theorem Keeps.settleCall {c : Chan} : Keeps s (t.settleCall c) :=
  h.trans ⟨State.settleCall_shape _ _, State.settleCall_bounded _, State.settleCall_lists _⟩

theorem Keeps.leaveSets {a : AlarmRef} : Keeps s (t.leaveSets a) :=
  h.trans ⟨State.leaveSets_shape _ _, State.leaveSets_bounded _, State.leaveSets_lists _⟩

theorem Keeps.reportCondition {slot : Nat} {was : Bool} : Keeps s (t.reportCondition slot was) :=
  h.trans ⟨State.reportCondition_shape _ _ _, State.reportCondition_bounded _ _, State.reportCondition_lists _ _⟩

theorem Keeps.workerAlarm {badge : Nat} {cause : AlarmCause} : Keeps s (t.workerAlarm badge cause) :=
  h.trans ⟨State.workerAlarm_shape _ _ _, State.workerAlarm_bounded _ _, State.workerAlarm_lists _ _⟩

theorem Keeps.widen {a : AlarmRef} : Keeps s (t.widen a) :=
  h.trans ⟨State.widen_shape _ _, State.widen_bounded _, State.widen_lists _⟩

theorem Keeps.moveCrew {slot : Nat} {b : Chan} {cause : MoveCause} : Keeps s (t.moveCrew slot b cause) :=
  h.trans ⟨State.moveCrew_shape _ _ _ _, State.moveCrew_bounded _ _ _, State.moveCrew_lists _ _ _⟩

theorem Keeps.moveOff {c : Chan} {cause : MoveCause} {td : Bool} : Keeps s (t.moveOff c cause td) :=
  h.trans ⟨State.moveOff_shape _ _ _ _, State.moveOff_bounded _ _ _, State.moveOff_lists _ _ _⟩

theorem Keeps.moveHome {c : Chan} : Keeps s (t.moveHome c) :=
  h.trans ⟨State.moveHome_shape _ _, State.moveHome_bounded _, State.moveHome_lists _⟩

theorem Keeps.migrateStrays {c : Chan} : Keeps s (t.migrateStrays c) :=
  h.trans ⟨State.migrateStrays_shape _ _, State.migrateStrays_bounded _, State.migrateStrays_lists _⟩

theorem Keeps.flush {c : Chan} : Keeps s (t.flush c).1 :=
  h.trans ⟨State.flush_shape _ _, State.flush_bounded _, State.flush_lists _⟩

theorem Keeps.flowEval {c : Chan} : Keeps s (t.flowEval c) :=
  h.trans ⟨State.flowEval_shape _ _, State.flowEval_bounded _, State.flowEval_lists _⟩

theorem Keeps.abandon {c : Chan} : Keeps s (t.abandon c) :=
  h.trans ⟨State.abandon_shape _ _, State.abandon_bounded _, State.abandon_lists _⟩

theorem Keeps.withSignals {l : List Chan} : Keeps s (t.withSignals l) :=
  h.trans ⟨State.withSignals_shape _ _, State.withSignals_bounded _, State.withSignals_lists _⟩

theorem Keeps.enterDown {c : Chan} : Keeps s (t.enterDown c) :=
  h.trans ⟨State.enterDown_shape _ _, State.enterDown_bounded _, State.enterDown_lists _⟩

theorem Keeps.enterIdleFromDown {c : Chan} : Keeps s (t.enterIdleFromDown c) :=
  h.trans ⟨State.enterIdleFromDown_shape _ _, State.enterIdleFromDown_bounded _, State.enterIdleFromDown_lists _⟩

theorem Keeps.enterIdle {c : Chan} : Keeps s (t.enterIdle c) :=
  h.trans ⟨State.enterIdle_shape _ _, State.enterIdle_bounded _, State.enterIdle_lists _⟩

theorem Keeps.enterAwaitRepeat {c : Chan} : Keeps s (t.enterAwaitRepeat c) :=
  h.trans ⟨State.enterAwaitRepeat_shape _ _, State.enterAwaitRepeat_bounded _, State.enterAwaitRepeat_lists _⟩

theorem Keeps.endReception {c : Chan} : Keeps s (t.endReception c) :=
  h.trans ⟨State.endReception_shape _ _, State.endReception_bounded _, State.endReception_lists _⟩

theorem Keeps.endAttempt {c : Chan} {r : Result} : Keeps s (t.endAttempt c r) :=
  h.trans ⟨State.endAttempt_shape _ _ _, State.endAttempt_bounded _ _, State.endAttempt_lists _ _⟩

theorem Keeps.beginAttempt {c : Chan} {e : Entry} : Keeps s (t.beginAttempt c e) :=
  h.trans ⟨State.beginAttempt_shape _ _ _, State.beginAttempt_bounded _ _, State.beginAttempt_lists _ _⟩

theorem Keeps.receive {c : Chan} {f : Frame} {o : Origin} : Keeps s (t.receive c f o) :=
  h.trans ⟨State.receive_shape _ _ _ _, State.receive_bounded _ _ _, State.receive_lists _ _ _⟩

theorem Keeps.modFlying {c : Chan} {f : Entry → Entry} : Keeps s (t.modFlying c f) :=
  h.trans ⟨State.modFlying_shape _ _ _, State.modFlying_bounded _ _, State.modFlying_lists _ _⟩

/-- Work that is done on a condition. -/
theorem Keeps.ite {u : State} {p : Prop} [Decidable p] (hu : Keeps s u) : Keeps s (if p then u else t) := by
  split
  · exact hu
  · exact h

theorem Keeps.foldl {α : Type} {f : State → α → State} {l : List α} (hf : ∀ u a, Keeps u (f u a)) : Keeps s (l.foldl f t) := by
  induction l generalizing t with
  | nil => exact h
  | cons a l ih => exact ih (h.trans (hf t a))

theorem Keeps.inOpenOrder {α : Type} {f : State → α → State} {l : List α} (hf : ∀ u a, Keeps u (f u a)) :
    Keeps s (t.inOpenOrder l f) :=
  Keeps.foldl (t := { t with choices := t.choices + (l.length - 1) }) (h.trans ⟨rfl, id, id⟩) hf

end

/-! ### Requests that keep the shape -/

theorem askIdentify_keeps (params : List Byte) (s : State) : Keeps s (askIdentify params s).1 := by
  unfold askIdentify; split <;> exact .refl s

theorem askReadNotices_keeps (params : List Byte) (s : State) : Keeps s (askReadNotices params s).1 := by
  unfold askReadNotices
  split
  · exact ⟨rfl, fun h => ⟨(List.drop_sublist _ _).length_le.trans h.1, h.2⟩, id⟩
  · exact .refl s

theorem askReadClock_keeps (params : List Byte) (s : State) : Keeps s (askReadClock params s).1 := by
  unfold askReadClock; split <;> exact .refl s

theorem askReadParam_keeps (params : List Byte) (s : State) : Keeps s (askReadParam params s).1 := by
  unfold askReadParam
  split
  · split <;> exact .refl s
  · exact .refl s

theorem askQueryChannel_keeps (params : List Byte) (s : State) : Keeps s (askQueryChannel params s).1 := by
  unfold askQueryChannel
  split
  · exact State.onChannel_of (.refl s) fun _ => .refl s
  · exact .refl s

theorem askSetChannels_keeps (params : List Byte) (s : State) : Keeps s (askSetChannels params s).1 := by
  unfold askSetChannels
  split
  · refine State.onCrew_of (.refl s) fun k _ => ?_
    split
    · exact .moveCrew (.modCrew (.refl s) (by intro; rfl) (by intro _ h; exact h))
    · exact .refl s
  · exact .refl s

theorem askQueryCrew_keeps (params : List Byte) (s : State) : Keeps s (askQueryCrew params s).1 := by
  unfold askQueryCrew
  split
  · exact State.onCrew_of (.refl s) fun _ _ => .refl s
  · exact .refl s

theorem askQueryWorker_keeps (params : List Byte) (s : State) : Keeps s (askQueryWorker params s).1 := by
  unfold askQueryWorker
  split
  · exact State.onWorker_of (.refl s) fun _ _ => .refl s
  · exact .refl s

theorem State.unassign_keeps (s : State) (o : Order) : Keeps s (s.unassign o) := by
  unfold State.unassign
  dsimp only
  split
  · exact .leaveQueue (.post (.modOrder (.refl s) (by intro; rfl)))
  · exact .post (.modOrder (.refl s) (by intro; rfl))

theorem askUnassignOrder_keeps (params : List Byte) (s : State) : Keeps s (askUnassignOrder params s).1 := by
  unfold askUnassignOrder
  split
  · refine State.onOrder_of (.refl s) fun o _ => ?_
    split
    · exact .refl s
    · exact s.unassign_keeps o
  · exact .refl s

theorem State.cancel_keeps (s : State) (o : Order) : Keeps s (s.cancel o) := by
  unfold State.cancel
  dsimp only
  have hcancelled : Keeps s (((if o.state = .sent then s.withdrawOrder o.number else s).modOrder o.number fun o =>
      { o with state := .cancelled, acceptance := none, deferral := none }).post
      (.orderState o.number o.crew o.state .cancelled (some .cancel))) :=
    .post (.modOrder (.ite (.refl s) (.withdrawOrder (.refl s))) (by intro; rfl))
  split
  · exact (hcancelled.ite hcancelled.followWithCancel).leaveQueue
  · exact hcancelled.ite hcancelled.followWithCancel

theorem askCancelOrder_keeps (params : List Byte) (s : State) : Keeps s (askCancelOrder params s).1 := by
  unfold askCancelOrder
  split
  · refine State.onOrder_of (.refl s) fun o _ => ?_
    split
    · exact .refl s
    · exact s.cancel_keeps o
  · exact .refl s

theorem askBindPermit_keeps (params : List Byte) (s : State) : Keeps s (askBindPermit params s).1 := by
  unfold askBindPermit
  split
  · refine State.onOrder_of (.refl s) fun o _ => ?_
    split
    · exact .refl s
    · split
      · exact .refl s
      · exact .modOrder (.refl s) (by intro; rfl)
  · exact .refl s

theorem askQueryOrder_keeps (params : List Byte) (s : State) : Keeps s (askQueryOrder params s).1 := by
  unfold askQueryOrder
  split
  · exact State.onOrder_of (.refl s) fun _ _ => .refl s
  · exact .refl s

theorem askListQueue_keeps (params : List Byte) (s : State) : Keeps s (askListQueue params s).1 := by
  unfold askListQueue
  split
  · exact State.onCrew_of (.refl s) fun _ _ => .refl s
  · exact .refl s

theorem askSetPosition_keeps (params : List Byte) (s : State) : Keeps s (askSetPosition params s).1 := by
  unfold askSetPosition
  split
  · refine State.onDevice_of (.refl s) fun d _ => ?_
    split
    · exact .refl s
    · split
      · exact .refl s
      · exact .modDevice (.refl s) (by intro; rfl) (by intro _ h; exact h)
  · exact .refl s

theorem askQueryDevice_keeps (params : List Byte) (s : State) : Keeps s (askQueryDevice params s).1 := by
  unfold askQueryDevice
  split
  · exact State.onDevice_of (.refl s) fun _ _ => .refl s
  · exact .refl s

theorem askStartSwitching_keeps (params : List Byte) (s : State) : Keeps s (askStartSwitching params s).1 := by
  unfold askStartSwitching
  split
  · refine State.onPermit_of (.refl s) fun p _ => ?_
    split
    · exact .refl s
    · exact .claimNext (.setPermitState (.modPermit (.refl s) (by intro; rfl)))
  · exact .refl s

theorem State.grantSurrender_keeps (s : State) (serial : Nat) : Keeps s (s.grantSurrender serial) :=
  .claimNext (.setPermitState (.answerSurrender (.modPermit (.refl s) (by intro; rfl))))

theorem askGrantSurrender_keeps (params : List Byte) (s : State) : Keeps s (askGrantSurrender params s).1 := by
  unfold askGrantSurrender
  split
  · refine State.onPermit_of (.refl s) fun p _ => ?_
    split
    · exact .refl s
    · split
      · exact .refl s
      · exact s.grantSurrender_keeps _
  · exact .refl s

theorem askDenySurrender_keeps (params : List Byte) (s : State) : Keeps s (askDenySurrender params s).1 := by
  unfold askDenySurrender
  split
  · refine State.onPermit_of (.refl s) fun p _ => ?_
    split
    · exact .refl s
    · exact .answerSurrender (.modPermit (.refl s) (by intro; rfl))
  · exact .refl s

theorem State.retry_keeps (s : State) (serial : Nat) (phase : Phase) : Keeps s (s.retry serial phase) := by
  unfold State.retry
  cases phase
  case issuing => exact .callIssue (.modPermit (.setPermitState (.modPermit (.refl s) (by intro; rfl))) (by intro; rfl))
  all_goals exact .claimNext (.setPermitState (.modPermit (.refl s) (by intro; rfl)))

theorem askRetryPermit_keeps (params : List Byte) (s : State) : Keeps s (askRetryPermit params s).1 := by
  unfold askRetryPermit
  split
  · refine State.onPermit_of (.refl s) fun p _ => ?_
    split
    · exact s.retry_keeps _ _
    · exact .refl s
  · exact .refl s

theorem askReassignHolder_keeps (params : List Byte) (s : State) : Keeps s (askReassignHolder params s).1 := by
  unfold askReassignHolder
  split
  · refine State.onPermit_of (.refl s) fun p _ => State.onCrew_of (.refl s) fun k _ => ?_
    split
    · exact .refl s
    · split
      · exact .refl s
      · exact .post (.modPermit (.refl s) (by intro; rfl))
  · exact .refl s

theorem Keeps.turnToRestoring {s t : State} {serial : Nat} (h : Keeps s t) : Keeps s (t.turnToRestoring serial) :=
  h.setPermitState.beginRestoration

theorem State.cancelSwitching_keeps (s : State) (p : Permit) : Keeps s (s.cancelSwitching p) := by
  unfold State.cancelSwitching
  split
  · exact .turnToRestoring (.modPermit (.leaveWaits (.refl s)) (by intro; rfl))
  · split
    · exact .turnToRestoring (.modPermit (.freeDevice (.dropInstruction (.refl s))) (by intro; rfl))
    · exact .turnToRestoring (.modPermit (.freeDevice (.dropInstruction (.refl s))) (by intro; rfl))
    · exact .modPermit (.setPermitState (.refl s)) (by intro; rfl)

theorem State.cancelIssuing_keeps (s : State) (p : Permit) : Keeps s (s.cancelIssuing p) :=
  .turnToRestoring (.dropIssue (.modPermit (.refl s) (by intro; rfl)))

theorem State.cancelWait_keeps (s : State) (p : Permit) : Keeps s (s.cancelWait p) :=
  .beginRestoration (.modPermit (.releaseUnreported (.refl s)) (by intro; rfl))

theorem State.cancelPermit_keeps {s t : State} {p : Permit} (h : s.cancelPermit p = some t) : Keeps s t := by
  unfold State.cancelPermit at h
  split at h
  · cases h; exact .closePermit (.refl s)
  · cases h; exact s.cancelSwitching_keeps p
  · cases h; exact s.cancelIssuing_keeps p
  · split at h <;> cases h
    exact .turnToRestoring (.modPermit (.refl s) (by intro; rfl))
  · split at h <;> cases h
    exact s.cancelWait_keeps p
  · cases h
  · cases h

theorem askCancelPermit_keeps (params : List Byte) (s : State) : Keeps s (askCancelPermit params s).1 := by
  unfold askCancelPermit
  split
  · refine State.onPermit_of (.refl s) fun p _ => ?_
    split
    · exact .refl s
    · exact State.cancelPermit_keeps ‹_›
  · exact .refl s

theorem askQueryPermit_keeps (params : List Byte) (s : State) : Keeps s (askQueryPermit params s).1 := by
  unfold askQueryPermit
  split
  · exact State.onPermit_of (.refl s) fun _ _ => .refl s
  · exact .refl s

theorem askStartWatch_keeps (params : List Byte) (s : State) : Keeps s (askStartWatch params s).1 := by
  unfold askStartWatch
  split
  · refine State.onWorker_of (.refl s) fun w _ => ?_
    split
    · exact .refl s
    · exact .post (.restart (.modWorker (.refl s) (by intro; rfl)))
  · exact .refl s

theorem askStopWatch_keeps (params : List Byte) (s : State) : Keeps s (askStopWatch params s).1 := by
  unfold askStopWatch
  split
  · refine State.onWorker_of (.refl s) fun w _ => ?_
    split
    · exact .refl s
    · split
      · exact .refl s
      · exact .post (.strike (.modWorker (.refl s) (by intro; rfl)))
  · exact .refl s

theorem State.ackWorker_keeps (s : State) (w : Worker) : Keeps s (s.ackWorker w) :=
  .post (.foldl (.modWorker (.refl s) (by intro; rfl)) fun u _ => .settleCall (.refl u))

theorem State.ackCrew_keeps (s : State) (k : Crew) : Keeps s (s.ackCrew k) :=
  .foldl (.modCrew (.refl s) (by intro; rfl) (by intro _ h; exact h)) fun u _ => .settleCall (.refl u)

theorem askAckAlarm_keeps (params : List Byte) (s : State) : Keeps s (askAckAlarm params s).1 := by
  unfold askAckAlarm
  split
  · split
    · refine State.onWorker_of (.refl s) fun w _ => ?_
      split
      · exact .refl s
      · exact s.ackWorker_keeps w
    · exact .refl s
  · split
    · refine State.onCrew_of (.refl s) fun k _ => ?_
      split
      · exact .refl s
      · exact s.ackCrew_keeps k
    · exact .refl s
  · exact .refl s

theorem State.clearWorker_keeps (s : State) (w : Worker) : Keeps s (s.clearWorker w) :=
  .reportCondition (.post (.restart (.modWorker (.leaveSets (.refl s)) (by intro; rfl))))

theorem State.clearCrew_keeps (s : State) (k : Crew) : Keeps s (s.clearCrew k) :=
  .reportCondition (.modCrew (.leaveSets (.refl s)) (by intro; rfl) (by intro _ h; exact h))

theorem askClearAlarm_keeps (params : List Byte) (s : State) : Keeps s (askClearAlarm params s).1 := by
  unfold askClearAlarm
  split
  · split
    · refine State.onWorker_of (.refl s) fun w _ => ?_
      split
      · exact .refl s
      · exact s.clearWorker_keeps w
    · exact .refl s
  · split
    · refine State.onCrew_of (.refl s) fun k _ => ?_
      split
      · exact .refl s
      · exact s.clearCrew_keeps k
    · exact .refl s
  · exact .refl s

theorem askReviewWorker_keeps (params : List Byte) (s : State) : Keeps s (askReviewWorker params s).1 := by
  unfold askReviewWorker
  split
  · exact State.onWorker_of (.refl s) fun w _ => .modWorker (.refl s) (by intro; rfl)
  · exact .refl s

theorem Keeps.comeUp {s t : State} {c : Chan} (h : Keeps s t) : Keeps s (t.comeUp c) := h.ite h.enterIdleFromDown

theorem askEnableChannel_keeps (params : List Byte) (s : State) : Keeps s (askEnableChannel params s).1 := by
  unfold askEnableChannel
  split
  · refine State.onChannel_of (.refl s) fun c => ?_
    split
    · exact .refl s
    · exact .comeUp (.post (.enterDown (.refl s)))
  · exact .refl s

theorem State.takeOff_keeps (s : State) (c : Chan) : Keeps s (s.takeOff c) :=
  .migrateStrays (.moveOff (.withSignals (.post (.modChan (.abandon (.refl s)) (by intro; exact Nat.le_refl _) (by intro; exact Nat.le_refl _)))))

theorem askDisableChannel_keeps (params : List Byte) (s : State) : Keeps s (askDisableChannel params s).1 := by
  unfold askDisableChannel
  split
  · refine State.onChannel_of (.refl s) fun c => ?_
    split
    · exact .refl s
    · exact (s.takeOff_keeps c).flush.withSignals
  · exact .refl s

theorem askRestartChannel_keeps (params : List Byte) (s : State) : Keeps s (askRestartChannel params s).1 := by
  unfold askRestartChannel
  split
  · refine State.onChannel_of (.refl s) fun c => ?_
    split
    · exact .refl s
    · have hflushed : Keeps s (((((s.abandon c).modChan c Channel.offAir).flush c).1.muteSignal c).modChan c
          fun ch => { ch with mailbox := [] }) :=
        .modChan (.withSignals (.flush (.modChan (.abandon (.refl s)) (by intro; exact Nat.le_refl _) (by intro; exact Nat.le_refl _))))
          (by intro; exact Nat.le_refl _) (by intro; exact Nat.zero_le _)
      refine .comeUp ?_
      split
      · exact .enterDown hflushed
      · exact .post (.enterDown hflushed)
  · exact .refl s

theorem askReadMessage_keeps (params : List Byte) (s : State) : Keeps s (askReadMessage params s).1 := by
  unfold askReadMessage
  split
  · refine State.onChannel_of (.refl s) fun c => ?_
    split
    next => exact .refl s
    next m rest hbox =>
      refine ⟨rfl, fun h => ⟨h.1, fun d => ?_⟩, State.modChan_lists c _⟩
      have hlimit := h.2 d
      rw [State.modChan_chan]
      split
      next hcd => subst hcd; simp only [Channel.bounded, hbox, List.length_cons] at hlimit ⊢; omega
      next => exact hlimit
  · exact .refl s

/-! ### Tables with a record entered or deleted -/

/-- What the invariant asks of a table: its keys rise, and each is in range. -/
def tableRight {α : Type} (key : α → Nat) (ok : Nat → Prop) (l : List α) : Prop :=
  rising (l.map key) ∧ ∀ a ∈ l, ok (key a)

section
variable {α : Type} {key : α → Nat} {ok : Nat → Prop} {l : List α}

theorem tableRight.put {a : α} (h : tableRight key ok l) (ha : ok (key a)) : tableRight key ok (tPut key a l) :=
  ⟨tPut_rising key a l h.1, fun b hb => (tPut_mem key hb).elim (fun e => e ▸ ha) (h.2 b)⟩

theorem tableRight.mod {k : Nat} {f : α → α} (h : tableRight key ok l) (hf : ∀ a, key (f a) = key a) :
    tableRight key ok (tMod key k f l) := by
  refine ⟨by rw [tMod_map_of key k f key l hf]; exact h.1, fun a ha => ?_⟩
  obtain ⟨b, hb, rfl⟩ := List.mem_map.1 ha
  split
  · exact hf b ▸ h.2 b hb
  · exact h.2 b hb

theorem tableRight.filter {p : α → Bool} (h : tableRight key ok l) : tableRight key ok (l.filter p) :=
  ⟨h.1.sublist ((List.filter_sublist).map key), fun a ha => h.2 a (List.mem_of_mem_filter ha)⟩

/-- In a table whose keys rise, a record is the one its key finds. -/
theorem tFind_of_mem (h : rising (l.map key)) {a : α} (ha : a ∈ l) : tFind key (key a) l = some a := by
  induction l with
  | nil => cases ha
  | cons b l ih =>
    obtain ⟨hb, hl⟩ := List.pairwise_cons.1 h
    rcases List.mem_cons.1 ha with rfl | ha
    · simp [tFind]
    · have hne : key b ≠ key a := (hb _ (List.mem_map_of_mem ha)).ne
      simpa [tFind, List.find?_cons, hne] using ih hl ha

end

theorem State.tablesRight_iff {s : State} : s.tablesRight ↔
    tableRight Crew.slot (· ≤ 63) s.crews
      ∧ (tableRight Worker.badge (fun n => 1 ≤ n ∧ n ≤ 65534) s.workers ∧ s.workers.length ≤ 160)
      ∧ (tableRight Order.number (fun n => 1 ≤ n ∧ n ≤ 65535) s.orders ∧ s.orders.length ≤ 256)
      ∧ tableRight Device.number (· ≤ 511) s.devices
      ∧ tableRight Permit.serial (fun n => 1 ≤ n ∧ n ≤ 65535) s.permits ∧ s.permits.length ≤ 32 := by
  unfold State.tablesRight tableRight
  tauto

theorem be16_le (h l : Byte) : be16 h l ≤ 65535 := by
  unfold be16; omega

/-- A state whose tables, counters and parameters are right is sound when its lists and limits are. -/
theorem State.sound_iff {s : State} :
    s.Sound ↔ s.bounded ∧ s.listsRight ∧ s.tablesRight ∧ s.countersRight ∧ s.params.inRange :=
  ⟨fun h => ⟨h.bounded, h.lists, State.shape_right_iff.1 h.shape⟩,
    fun ⟨hb, hl, hr⟩ => ⟨hb, hl, State.shape_right_iff.2 hr⟩⟩

/-- The crew a slot names is the only record of that slot. -/
theorem State.crew?_unique {s : State} (h : s.tablesRight) {k k' : Crew} {slot : Nat} (hk : s.crew? slot = some k)
    (hk' : k' ∈ s.crews) (hslot : k'.slot = slot) : k' = k := by
  have := tFind_of_mem h.1.1 hk'
  rw [hslot] at this
  exact Option.some.inj (this.symm.trans hk)

/-! ### Requests that enter or delete a record -/

theorem askSignOn_sound (params : List Byte) {s : State} (h : s.Sound) : (askSignOn params s).1.Sound := by
  unfold askSignOn
  split
  case h_2 => exact h
  case h_1 uh ul q hb a bh bl =>
  split
  case h_2 => exact h
  case h_1 home alt _ _ =>
  split
  case isTrue => exact h
  case isFalse hrange =>
  split
  case isTrue => exact h
  case isFalse =>
  split
  case h_1 => exact h
  case h_2 slot more hslots =>
  split
  case isTrue => exact h
  case isFalse hfull =>
  rw [State.workersFull_iff] at hfull
  have hslot : slot < 64 := by
    have hmem : slot ∈ s.freeSlots := hslots ▸ List.mem_cons_self
    exact List.mem_range.1 (List.mem_of_mem_filter hmem)
  have hle := be16_le bh bl
  obtain ⟨hbounded, ⟨hcrews, hdevices⟩, htables, hcounters, hparams⟩ := State.sound_iff.1 h
  obtain ⟨tcrews, ⟨tworkers, hworkers⟩, trest⟩ := State.tablesRight_iff.1 htables
  refine State.sound_iff.2 ⟨hbounded, ⟨fun k hk => ?_, hdevices⟩, State.tablesRight_iff.2 ⟨?_, ⟨?_, ?_⟩, trest⟩, hcounters, hparams⟩
  · rcases tPut_mem Crew.slot hk with rfl | hk
    · exact ⟨Nat.zero_le _, Nat.le_refl _, Nat.le_of_ble_eq_true rfl⟩
    · exact hcrews k hk
  · exact tcrews.put (Nat.le_of_lt_succ hslot)
  · exact tworkers.put (a := s.newWorker (be16 bh bl) slot) (show 1 ≤ be16 bh bl ∧ be16 bh bl ≤ 65534 by omega)
  · exact (tPut_length_le Worker.badge _ _).trans (by omega)

theorem askAddMember_sound (params : List Byte) {s : State} (h : s.Sound) : (askAddMember params s).1.Sound := by
  unfold askAddMember
  split
  case h_2 => exact h
  case h_1 b hb lb =>
  refine State.onCrew_of h fun k hk => ?_
  split
  case isTrue => exact h
  case isFalse hrange =>
  split
  case isTrue => exact h
  case isFalse =>
  split
  case isTrue => exact h
  case isFalse hfull =>
  rw [State.workersFull_iff] at hfull
  have hle := be16_le hb lb
  obtain ⟨hbounded, ⟨hcrews, hdevices⟩, htables, hcounters, hparams⟩ := State.sound_iff.1 h
  obtain ⟨tcrews, ⟨tworkers, hworkers⟩, trest⟩ := State.tablesRight_iff.1 htables
  have hkslot : k.slot = b.toNat := (tFind_some Crew.slot hk).1
  refine State.sound_iff.2 ⟨hbounded, ⟨fun k' hk' => ?_, hdevices⟩, State.tablesRight_iff.2 ⟨?_, ⟨?_, ?_⟩, trest⟩, hcounters, hparams⟩
  · obtain ⟨k₀, hk₀, rfl⟩ := List.mem_map.1 hk'
    obtain ⟨hqueue, hone, hsix⟩ := hcrews k₀ hk₀
    dsimp only
    split
    next hslot =>
      have : k₀ = k := State.crew?_unique htables hk hk₀ (hslot.trans hkslot)
      subst this
      exact ⟨hqueue, by simp, by simp; omega⟩
    next => exact ⟨hqueue, hone, hsix⟩
  · exact tcrews.mod fun _ => rfl
  · exact tworkers.put (a := s.newWorker (be16 hb lb) k.slot) (show 1 ≤ be16 hb lb ∧ be16 hb lb ≤ 65534 by omega)
  · exact (tPut_length_le Worker.badge _ _).trans (by omega)

/-- A state has come from another by a change of its channels and of the space signals owed, and of nothing else. -/
def OnlyChans (s t : State) : Prop := t = { s with chans := t.chans, signals := t.signals }

theorem OnlyChans.refl (s : State) : OnlyChans s s := rfl

theorem OnlyChans.trans {s t u : State} (h : OnlyChans s t) (h' : OnlyChans t u) : OnlyChans s u := by
  unfold OnlyChans at *
  rw [h', h]

theorem State.modChan_onlyChans (s : State) (c : Chan) (f : Channel → Channel) : OnlyChans s (s.modChan c f) := rfl

theorem State.signal_onlyChans (s : State) (c : Chan) : OnlyChans s (s.signal c) := by
  unfold State.signal; split <;> rfl

theorem State.flowEval_onlyChans (s : State) (c : Chan) : OnlyChans s (s.flowEval c) := by
  unfold State.flowEval
  split
  · rfl
  · split
    · exact (s.modChan_onlyChans c _).trans (State.signal_onlyChans _ c)
    · rfl

theorem State.withdrawOn_onlyChans (s : State) (c : Chan) (p : Entry → Bool) : OnlyChans s (s.withdrawOn c p) := by
  unfold State.withdrawOn
  split
  · exact ((s.modChan_onlyChans c _).trans (State.flowEval_onlyChans _ c)).trans (State.signal_onlyChans _ c)
  · rfl

theorem OnlyChans.foldl {α : Type} {f : State → α → State} (hf : ∀ t a, OnlyChans t (f t a)) (l : List α) (s : State) :
    OnlyChans s (l.foldl f s) := by
  induction l generalizing s with
  | nil => exact .refl s
  | cons a l ih => exact (hf s a).trans (ih _)

theorem State.withdraw_onlyChans (s : State) (p : Entry → Bool) : OnlyChans s (s.withdraw p) :=
  OnlyChans.foldl (fun t c => t.withdrawOn_onlyChans c p) allChans s

theorem State.strike_crews (s : State) (slot badge : Nat) : (s.strike slot badge).crews = s.crews := by
  unfold State.strike
  split
  · exact (congrArg State.crews (State.withdraw_onlyChans
      (s.modEntries (fun e => e.openPrompt slot) fun e => { e with body := e.body.withoutBadge badge }) _) :)
  · rfl

/-- A worker leaves a crew of more members than one, and its record is freed. -/
theorem State.dropMember_sound {s : State} {w : Worker} (h : s.Sound)
    (hmore : 1 < ((s.crew? w.crew).map (·.members.length)).getD 0) : (s.dropMember w).Sound := by
  have hkept : Keeps s ((if w.watch = .off then s else s.post (.watchState w.badge w.crew w.watch .off .member)).strike
      w.crew w.badge) := .strike (.ite (.post (.refl s)) (.refl s))
  have hcrewsEq : ((if w.watch = .off then s else s.post (.watchState w.badge w.crew w.watch .off .member)).strike
      w.crew w.badge).crews = s.crews := by
    rw [State.strike_crews]; split <;> simp
  unfold State.dropMember
  dsimp only
  generalize (if w.watch = .off then s else s.post (.watchState w.badge w.crew w.watch .off .member)).strike
    w.crew w.badge = t at hkept hcrewsEq
  obtain ⟨hbounded, ⟨hcrews, hdevices⟩, htables, hcounters, hparams⟩ := State.sound_iff.1 (hkept.sound h)
  obtain ⟨tcrews, ⟨tworkers, hworkers⟩, trest⟩ := State.tablesRight_iff.1 htables
  refine State.sound_iff.2 ⟨hbounded, ⟨fun k' hk' => ?_, hdevices⟩,
    State.tablesRight_iff.2 ⟨tcrews.mod fun _ => rfl, ⟨tworkers.filter, (List.length_filter_le _ _).trans hworkers⟩, trest⟩,
    hcounters, hparams⟩
  obtain ⟨k, hk, rfl⟩ := List.mem_map.1 hk'
  obtain ⟨hqueue, hone, hsix⟩ := hcrews k hk
  split
  next hslot =>
    have hfound : s.crew? w.crew = some k := by
      have := tFind_of_mem (State.sound_iff.1 h).2.2.1.1.1 (hcrewsEq ▸ hk)
      rwa [hslot] at this
    simp only [hfound, Option.map_some, Option.getD_some] at hmore
    have hlength := List.length_erase (a := w.badge) (l := k.members)
    refine ⟨hqueue, ?_, ?_⟩ <;> dsimp only <;> split at hlength <;> omega
  next => exact ⟨hqueue, hone, hsix⟩

theorem askRemoveMember_sound (params : List Byte) {s : State} (h : s.Sound) : (askRemoveMember params s).1.Sound := by
  unfold askRemoveMember
  split
  · refine State.onWorker_of h fun w _ => ?_
    dsimp only
    split
    · exact h
    · exact State.dropMember_sound h (by omega)
  · exact h

theorem askCreateOrder_sound (params : List Byte) {s : State} (h : s.Sound) : (askCreateOrder params s).1.Sound := by
  unfold askCreateOrder
  split
  case h_2 => exact h
  case h_1 nh nl p sh sl text =>
  split
  case h_1 => exact h
  case h_2 priority _ =>
  split
  case isTrue => exact h
  case isFalse hzero =>
  split
  case isTrue => exact h
  case isFalse =>
  split
  case isTrue => exact h
  case isFalse =>
  split
  case isTrue => exact h
  case isFalse hfull =>
  have hle := be16_le nh nl
  obtain ⟨hbounded, hlists, htables, hcounters, hparams⟩ := State.sound_iff.1 h
  obtain ⟨tcrews, tworkers, ⟨torders, horders⟩, trest⟩ := State.tablesRight_iff.1 htables
  refine State.sound_iff.2 ⟨hbounded, hlists, State.tablesRight_iff.2 ⟨tcrews, tworkers, ⟨?_, ?_⟩, trest⟩, hcounters, hparams⟩
  · exact torders.put (a := s.newOrder (be16 nh nl) priority (be16 sh sl) text)
      (show 1 ≤ be16 nh nl ∧ be16 nh nl ≤ 65535 by omega)
  · exact (tPut_length_le Order.number _ _).trans (by omega)

theorem askRetireOrder_sound (params : List Byte) {s : State} (h : s.Sound) : (askRetireOrder params s).1.Sound := by
  unfold askRetireOrder
  split
  case h_2 => exact h
  case h_1 hb lb =>
  refine State.onOrder_of h fun o _ => ?_
  split
  case isTrue => exact h
  case isFalse =>
  split
  case isTrue => exact h
  case isFalse =>
  obtain ⟨hbounded, hlists, htables, hcounters, hparams⟩ := State.sound_iff.1 h
  obtain ⟨tcrews, tworkers, ⟨torders, horders⟩, trest⟩ := State.tablesRight_iff.1 htables
  exact State.sound_iff.2 ⟨hbounded, hlists, State.tablesRight_iff.2
    ⟨tcrews, tworkers, ⟨torders.filter, (List.length_filter_le _ _).trans horders⟩, trest⟩, hcounters, hparams⟩

theorem askLoadDevice_sound (params : List Byte) {s : State} (h : s.Sound) : (askLoadDevice params s).1.Sound := by
  unfold askLoadDevice
  split
  case h_2 => exact h
  case h_1 hb lb kb pb =>
  split
  case h_2 => exact h
  case h_1 kind position _ _ =>
  split
  case isTrue => exact h
  case isFalse hnumber =>
  split
  case isTrue => exact h
  case isFalse =>
  obtain ⟨hbounded, ⟨hcrews, hdevices⟩, htables, hcounters, hparams⟩ := State.sound_iff.1 h
  obtain ⟨tcrews, tworkers, torders, tdevices, tpermits⟩ := State.tablesRight_iff.1 htables
  refine State.sound_iff.2 ⟨hbounded, ⟨hcrews, fun d hd => ?_⟩,
    State.tablesRight_iff.2 ⟨tcrews, tworkers, torders, tdevices.put ?_, tpermits⟩, hcounters, hparams⟩
  · rcases tPut_mem Device.number hd with rfl | hd
    · exact ⟨Nat.zero_le _, nofun⟩
    · exact hdevices d hd
  · exact Nat.not_lt.1 hnumber

theorem askUnloadDevice_sound (params : List Byte) {s : State} (h : s.Sound) : (askUnloadDevice params s).1.Sound := by
  unfold askUnloadDevice
  split
  case h_2 => exact h
  case h_1 hb lb =>
  refine State.onDevice_of h fun d _ => ?_
  split
  case isTrue => exact h
  case isFalse =>
  obtain ⟨hbounded, ⟨hcrews, hdevices⟩, htables, hcounters, hparams⟩ := State.sound_iff.1 h
  obtain ⟨tcrews, tworkers, torders, tdevices, tpermits⟩ := State.tablesRight_iff.1 htables
  exact State.sound_iff.2 ⟨hbounded, ⟨hcrews, fun d hd => hdevices d (List.mem_of_mem_filter hd)⟩,
    State.tablesRight_iff.2 ⟨tcrews, tworkers, torders, tdevices.filter, tpermits⟩, hcounters, hparams⟩

theorem freeSerial_range (used : List Nat) (fuel : Nat) {v : Nat} (h : 1 ≤ v ∧ v ≤ 65535) :
    1 ≤ freeSerial used fuel v ∧ freeSerial used fuel v ≤ 65535 := by
  induction fuel generalizing v with
  | zero => exact h
  | succ fuel ih =>
    unfold freeSerial
    split
    · exact ih (by omega)
    · exact h

theorem askDraftPermit_sound (params : List Byte) {s : State} (h : s.Sound) : (askDraftPermit params s).1.Sound := by
  unfold askDraftPermit
  split
  case h_2 => exact h
  case h_1 hb q n rest =>
  split
  case h_1 => exact h
  case h_2 steps _ =>
  split
  case isTrue => exact h
  case isFalse =>
  split
  case h_1 => exact h
  case h_2 k _ =>
  split
  case isTrue => exact h
  case isFalse =>
  split
  case isTrue => exact h
  case isFalse =>
  split
  case isTrue => exact h
  case isFalse =>
  split
  case isTrue => exact h
  case isFalse hfull =>
  obtain ⟨hbounded, hlists, htables, ⟨htext, hserial⟩, hparams⟩ := State.sound_iff.1 h
  obtain ⟨tcrews, tworkers, torders, tdevices, tpermits, hpermits⟩ := State.tablesRight_iff.1 htables
  have hnext := freeSerial_range (s.permits.map (·.serial)) 33 hserial
  refine State.sound_iff.2 ⟨hbounded, hlists, State.tablesRight_iff.2 ⟨tcrews, tworkers, torders, tdevices, ?_, ?_⟩,
    ⟨htext, ?_⟩, hparams⟩
  · exact tpermits.put (a := s.newPermit s.nextSerial hb.toNat q.toNat steps) hnext
  · exact (tPut_length_le Permit.serial _ _).trans (by omega)
  · exact ⟨Nat.succ_pos _, Nat.succ_le_of_lt (Nat.mod_lt _ (by omega))⟩

theorem askRetirePermit_sound (params : List Byte) {s : State} (h : s.Sound) : (askRetirePermit params s).1.Sound := by
  unfold askRetirePermit
  split
  case h_2 => exact h
  case h_1 hb lb =>
  refine State.onPermit_of h fun p _ => ?_
  split
  case isTrue => exact h
  case isFalse =>
  split
  case isTrue => exact h
  case isFalse =>
  obtain ⟨hbounded, hlists, htables, hcounters, hparams⟩ := State.sound_iff.1 h
  obtain ⟨tcrews, tworkers, torders, tdevices, tpermits, hpermits⟩ := State.tablesRight_iff.1 htables
  exact State.sound_iff.2 ⟨hbounded, hlists, State.tablesRight_iff.2
    ⟨tcrews, tworkers, torders, tdevices, tpermits.filter, (List.length_filter_le _ _).trans hpermits⟩, hcounters, hparams⟩

/-! ### SIGN_OFF -/

/-- The orders of a crew that signs off lose their crew; their numbers stay. -/
theorem State.offOrders_keeps (s : State) (k : Crew) : Keeps s (s.offOrders k) := by
  have hqueue : Keeps s (k.queue.foldl (fun t n =>
      (t.modOrder n fun o => o.signedOff true).post (.orderState n none .assigned .opened none)) s) :=
    .foldl (.refl s) fun u n => .post (.modOrder (.refl u) (by intro; rfl))
  unfold State.offOrders
  dsimp only
  refine Keeps.modCrew (hqueue.trans ?_) (fun _ => rfl) fun k hk => ⟨Nat.zero_le _, hk.2⟩
  refine ⟨?_, id, id⟩
  unfold State.shape
  simp only [List.map_map, Shape.mk.injEq, true_and, and_true]
  exact List.map_congr_left fun o _ => by dsimp only [Function.comp]; split <;> rfl

theorem State.offDeferrals_keeps (s : State) (k : Crew) : Keeps s (s.offDeferrals k) := by
  refine ⟨?_, State.modChans_bounded (s := { s with permits := _ }) _ (fun _ => Nat.le_refl _) (fun _ => Nat.le_refl _), id⟩
  unfold State.offDeferrals State.shape
  simp only [State.modChans, List.map_map, Shape.mk.injEq, true_and, and_true]
  exact List.map_congr_left fun p _ => by dsimp only [Function.comp]; split <;> rfl

theorem Keeps.withdrawOn {s t : State} {c : Chan} {p : Entry → Bool} (h : Keeps s t) : Keeps s (t.withdrawOn c p) :=
  h.trans ⟨State.withdrawOn_shape _ _ _, State.withdrawOn_bounded _ _, State.withdrawOn_lists _ _⟩

theorem Keeps.textResult {s t : State} {c : Chan} {e : Entry} {r : TextOutcome} (h : Keeps s t) :
    Keeps s (t.textResult c e r) :=
  h.trans ⟨State.textResult_shape _ _ _ _, State.textResult_bounded _ _ _, State.textResult_lists _ _ _⟩

theorem Keeps.modEntries {s t : State} {p : Entry → Bool} {f : Entry → Entry} (h : Keeps s t) : Keeps s (t.modEntries p f) :=
  h.trans ⟨rfl, State.modEntries_bounded _ _, State.modEntries_lists _ _⟩

theorem State.offEntries_keeps (s : State) (k : Crew) : Keeps s (s.offEntries k) :=
  .modEntries (.foldl (.withdrawOn (.refl s)) fun u _ => .textResult (.refl u))

theorem State.offWatches_keeps (s : State) (k : Crew) : Keeps s (s.offWatches k) := by
  unfold State.offWatches
  dsimp only
  refine .foldl (.modCrew (.foldl (.refl s) fun u badge => ?_) (by intro; rfl) (by intro _ h; exact h)) fun u _ => .leaveSets (.refl u)
  split
  · exact .refl u
  · split
    · exact .refl u
    · exact .post (.modWorker (.refl u) (by intro; rfl))

theorem State.signOffCrew_sound {s : State} (k : Crew) (h : s.Sound) : (s.signOffCrew k).Sound := by
  have hkept := (((s.offOrders_keeps k).trans (State.offDeferrals_keeps _ k)).trans (State.offEntries_keeps _ k)).trans
    (State.offWatches_keeps _ k)
  obtain ⟨hbounded, ⟨hcrews, hdevices⟩, htables, hcounters, hparams⟩ := State.sound_iff.1 (hkept.sound h)
  obtain ⟨tcrews, ⟨tworkers, hworkers⟩, trest⟩ := State.tablesRight_iff.1 htables
  exact State.sound_iff.2 ⟨hbounded, ⟨fun k' hk' => hcrews k' (List.mem_of_mem_filter hk'), hdevices⟩,
    State.tablesRight_iff.2 ⟨tcrews.filter, ⟨tworkers.filter, (List.length_filter_le _ _).trans hworkers⟩, trest⟩,
    hcounters, hparams⟩

theorem askSignOff_sound (params : List Byte) {s : State} (h : s.Sound) : (askSignOff params s).1.Sound := by
  unfold askSignOff
  split
  · refine State.onCrew_of h fun k _ => ?_
    split
    · exact h
    · exact State.signOffCrew_sound k h
  · exact h

/-! ### ASSIGN_ORDER -/

theorem State.assign_sound {s : State} {o : Order} {k : Crew} {slot : Nat} (h : s.Sound) (hk : s.crew? slot = some k)
    (hroom : k.queue.length < 8) : (s.assign o k.slot).Sound := by
  have hkept : Keeps s ((s.modOrder o.number fun o =>
      { o with
        crew := some k.slot, state := .assigned, asgSeq := s.assignments, deferral := none, returned := none
        unanswered := false, followUp := none }).post (.orderState o.number (some k.slot) o.state .assigned none)) :=
    .post (.modOrder (.refl s) (by intro; rfl))
  have hslot : k.slot = slot := (tFind_some Crew.slot hk).1
  unfold State.assign
  dsimp only
  generalize hu : (State.post _ _) = u at hkept ⊢
  have hcrews : u.crews = s.crews := by rw [← hu]; simp
  obtain ⟨hbounded, hlists, hright⟩ := State.sound_iff.1 (hkept.sound h)
  have hcounted : ({ u with assignments := s.assignments + 1 } : State).Sound := State.sound_iff.2 ⟨hbounded, hlists, hright⟩
  refine ⟨State.check_bounded _ (State.placeOrder_bounded _ _ hcounted.bounded), State.check_lists _ ?_, ?_⟩
  · refine State.placeOrder_lists _ _ (fun k' hk' hs => ?_) hcounted.lists
    have hsame : k' = k := State.crew?_unique (State.sound_iff.1 h).2.2.1 hk (hcrews ▸ hk') (hs.trans hslot)
    exact hsame ▸ hroom
  · rw [State.check_shape, State.placeOrder_shape]
    exact hcounted.shape

theorem askAssignOrder_sound (params : List Byte) {s : State} (h : s.Sound) : (askAssignOrder params s).1.Sound := by
  unfold askAssignOrder
  split
  case h_2 => exact h
  case h_1 hb lb b =>
  refine State.onOrder_of h fun o _ => State.onCrew_of h fun k hk => ?_
  split
  case isTrue => exact h
  case isFalse =>
  split
  case isTrue => exact h
  case isFalse =>
  split
  case isTrue => exact h
  case isFalse hfull =>
  have hassign : (s.assign o k.slot).Sound := State.assign_sound h hk (Nat.not_le.1 hfull)
  dsimp only
  split <;> exact hassign

/-! ### Counters and parameters -/

theorem askSetClock_sound (params : List Byte) {s : State} (h : s.Sound) : (askSetClock params s).1.Sound := by
  unfold askSetClock
  split
  · obtain ⟨hbounded, hlists, htables, hcounters, hparams⟩ := State.sound_iff.1 h
    exact State.sound_iff.2 ⟨hbounded, hlists, htables, hcounters, hparams⟩
  · exact h

theorem clamp_mem {lo hi v : Nat} (h : lo ≤ hi) : lo ≤ clamp lo hi v ∧ clamp lo hi v ≤ hi := by
  unfold clamp; omega

/-- The ranges of R199, parameter by parameter. -/
theorem Params.inRange_iff {p : Params} : p.inRange ↔
    (1 ≤ p.attemptLimit ∧ p.attemptLimit ≤ 5) ∧ (1 ≤ p.retryHoldOff ∧ p.retryHoldOff ≤ 60) ∧ (100 ≤ p.replyWindow ∧ p.replyWindow ≤ 3000)
      ∧ (100 ≤ p.repeatWait ∧ p.repeatWait ≤ 3000) ∧ (0 ≤ p.blockAllowance ∧ p.blockAllowance ≤ 4) ∧ (2 ≤ p.reachThreshold ∧ p.reachThreshold ≤ 8)
      ∧ (10 ≤ p.failoverTime ∧ p.failoverTime ≤ 600) ∧ (8 ≤ p.highMark ∧ p.highMark ≤ 24) ∧ (0 ≤ p.lowMark ∧ p.lowMark ≤ p.highMark - 1)
      ∧ (1 ≤ p.alarmRepeats ∧ p.alarmRepeats ≤ 3) ∧ (5 ≤ p.alarmRepeatInterval ∧ p.alarmRepeatInterval ≤ 60) ∧ (30 ≤ p.escalationTime ∧ p.escalationTime ≤ 600)
      ∧ (60 ≤ p.highRiskCap ∧ p.highRiskCap ≤ 1800) ∧ (0 ≤ p.promptLead ∧ p.promptLead ≤ 300) ∧ (60 ≤ p.defaultInterval ∧ p.defaultInterval ≤ 3600)
      ∧ (30 ≤ p.defaultGrace ∧ p.defaultGrace ≤ 900) ∧ (300 ≤ p.restLimit ∧ p.restLimit ≤ 14400) ∧ (60 ≤ p.acceptanceTimeout ∧ p.acceptanceTimeout ≤ 1800)
      ∧ (1 ≤ p.issueLimit ∧ p.issueLimit ≤ 3) ∧ (30 ≤ p.readbackWait ∧ p.readbackWait ≤ 600) := by
  constructor
  · intro h
    exact ⟨h 1 _ rfl, h 2 _ rfl, h 3 _ rfl, h 4 _ rfl, h 5 _ rfl, h 6 _ rfl, h 7 _ rfl, h 8 _ rfl, h 9 _ rfl, h 10 _ rfl, h 11 _ rfl, h 12 _ rfl, h 13 _ rfl, h 14 _ rfl, h 15 _ rfl, h 16 _ rfl, h 17 _ rfl, h 18 _ rfl, h 19 _ rfl, h 20 _ rfl⟩
  · intro h n v hv
    unfold Params.get? at hv
    unfold Params.range
    split at hv <;> cases hv <;> simp [h]

theorem Params.range_le (p : Params) (n : Nat) : (p.range n).1 ≤ (p.range n).2 := by
  unfold Params.range
  split <;> simp

/-- A value in the range of its parameter, once stored, leaves every parameter in range: a new high mark at or below the low mark
lowers that (R200). -/
theorem Params.put_inRange {p : Params} (h : p.inRange) {n v : Nat} (hv : (p.range n).1 ≤ v ∧ v ≤ (p.range n).2) :
    (p.put n v).inRange := by
  rw [Params.inRange_iff] at h ⊢
  unfold Params.range at hv
  unfold Params.put
  split at hv
  case h_8 => dsimp only at hv ⊢; split <;> omega
  all_goals dsimp only at hv ⊢; omega

theorem State.afterParam_keeps (s : State) (n old new : Nat) : Keeps s (s.afterParam n old new) := by
  unfold State.afterParam
  split
  · exact .foldl (.refl s) fun u _ => .flowEval (.refl u)
  · split
    · exact .inOpenOrder (.refl s) fun u _ => .cutMember (.refl u)
    · exact .refl s

theorem askSetParam_sound (params : List Byte) {s : State} (h : s.Sound) : (askSetParam params s).1.Sound := by
  unfold askSetParam
  split
  case h_2 => exact h
  case h_1 n hb lb =>
  split
  case h_1 => exact h
  case h_2 old _ =>
  obtain ⟨hbounded, hlists, htables, hcounters, hparams⟩ := State.sound_iff.1 h
  refine (State.afterParam_keeps _ _ _ _).sound (State.sound_iff.2 ⟨hbounded, hlists, htables, hcounters, ?_⟩)
  exact Params.put_inRange hparams (clamp_mem (Params.range_le _ _))

/-! ### SEND_TEXT -/

theorem State.admitText_sound {s : State} (c : Chan) (addr : Addr) (text last : List Byte) (h : s.Sound) :
    (s.admitText c addr text last).1.Sound := by
  unfold State.admitText
  split
  · exact h
  split
  · exact h
  obtain ⟨hbounded, hlists, htables, ⟨htext, hserial⟩, hparams⟩ := State.sound_iff.1 h
  have hcounted : ({ s with textCounter := s.textCounter % 65535 + 1 } : State).Sound :=
    State.sound_iff.2 ⟨hbounded, hlists, htables,
      ⟨⟨Nat.succ_pos _, Nat.succ_le_of_lt (Nat.mod_lt _ (by omega))⟩, hserial⟩, hparams⟩
  refine Keeps.sound ⟨?_, ?_, ?_⟩ hcounted
  · exact State.shape_of_frame (State.offer_frame _ _ _ _ _ _ (fun _ => rfl) fun _ _ => rfl)
  · exact State.offer_bounded _ _ _ _ _ (fun _ => id) fun _ _ => id
  · exact State.listsRight_of_frame (State.offer_frame _ _ _ _ _ _ (fun _ => rfl) fun _ _ => rfl)

theorem askSendText_sound (params : List Byte) {s : State} (h : s.Sound) : (askSendText params s).1.Sound := by
  unfold askSendText
  split
  case h_2 => exact h
  case h_1 t b rest =>
  split
  case isTrue =>
    refine State.onCrew_of h fun k _ => ?_
    split
    · exact h
    · exact State.admitText_sound _ _ _ _ h
  case isFalse =>
  split
  case isFalse => exact h
  case isTrue =>
  split
  case h_2 => exact h
  case h_1 =>
  split
  case isTrue => exact h
  case isFalse =>
  split
  case isTrue => exact h
  case isFalse => exact State.admitText_sound _ _ _ _ h

/-! ### The tick and the expiries -/

theorem State.countDown_sound {s : State} (h : s.Sound) : s.countDown.Sound := by
  obtain ⟨⟨hnotices, hchans⟩, hlists, htables, hcounters, hparams⟩ := State.sound_iff.1 h
  have hkeys : s.countDown.shape = { s.shape with clock := s.clock + 1 } := by
    simp [State.countDown, State.shape, Function.comp_def, Worker.ticked]
  refine ⟨⟨hnotices, fun c => ?_⟩, ⟨fun k hk => ?_, hlists.2⟩, ?_⟩
  · have := hchans c
    simpa [State.countDown, State.chan, Channel.bounded, Channel.ticked] using this
  · obtain ⟨k₀, hk₀, rfl⟩ := List.mem_map.1 hk
    exact hlists.1 k₀ hk₀
  · rw [hkeys]
    obtain ⟨h1, h2, h3, h4, h5, h6, h7, h8⟩ := h.shape
    exact ⟨h1, h2, h3, h4, h5, h6, h7, h8⟩

theorem State.tick_sound {s : State} (h : s.Sound) : (s.countDown.inOpenOrder s.countDown.leadsDue State.leadPrompt).Sound :=
  ((Keeps.refl s.countDown).inOpenOrder fun u _ => .leadPrompt (.refl u)).sound (State.countDown_sound h)

theorem State.expireAcceptance_keeps (s : State) (n : Nat) : Keeps s (s.expireAcceptance n) := by
  unfold State.expireAcceptance
  split
  · exact .refl s
  · split
    · exact .post (.modOrder (.refl s) (by intro; rfl))
    · exact .refl s

theorem State.expireReadback_keeps (s : State) (serial : Nat) : Keeps s (s.expireReadback serial) := by
  unfold State.expireReadback
  split
  · exact .refl s
  · split
    · dsimp only
      split
      · exact .callIssue (.modPermit (.refl s) (by intro; rfl))
      · exact .stall (.modPermit (.refl s) (by intro; rfl))
    · exact .refl s

theorem State.expireRemaining_keeps (s : State) (badge : Nat) (watch : WatchState) : Keeps s (s.expireRemaining badge watch) := by
  unfold State.expireRemaining
  split
  · exact .refl s
  · exact Keeps.ite (.refl s) (.post (.offerPrompt (.modWorker (.refl s) (by intro; rfl))))

theorem State.expireGrace_keeps (s : State) (badge : Nat) : Keeps s (s.expireGrace badge) := by
  unfold State.expireGrace
  split
  · exact .refl s
  · exact Keeps.ite (.refl s) (.workerAlarm (.modWorker (.refl s) (by intro; rfl)))

theorem State.expireEscalation_keeps (s : State) (a : AlarmRef) : Keeps s (s.expireEscalation a) := by
  cases a <;> unfold State.expireEscalation <;> dsimp only
  case worker =>
    split
    · exact .refl s
    · exact Keeps.ite (.refl s) (.widen (.post (.modWorker (.refl s) (by intro; rfl))))
  case crew =>
    split
    · exact .refl s
    · exact Keeps.ite (.refl s) (.widen (.post (.modCrew (.refl s) (by intro; rfl) (by intro _ h; exact h))))

theorem State.expireFailover_keeps (s : State) (c : Chan) : Keeps s (s.expireFailover c) :=
  Keeps.ite (.refl s) (.moveOff (.modChan (.refl s) (by intro; exact Nat.le_refl _) (by intro; exact Nat.le_refl _)))

theorem State.expireFailback_keeps (s : State) (c : Chan) : Keeps s (s.expireFailback c) :=
  Keeps.ite (.refl s) (.moveHome (.modChan (.refl s) (by intro; exact Nat.le_refl _) (by intro; exact Nat.le_refl _)))

/-! ### The radio events -/

theorem State.readyUp_keeps (s : State) (c : Chan) : Keeps s (s.readyUp c) :=
  Keeps.ite (.modChan (.refl s) (by intro; exact Nat.le_refl _) (by intro; exact Nat.le_refl _)) (.enterIdleFromDown (.modChan (.refl s) (by intro; exact Nat.le_refl _) (by intro; exact Nat.le_refl _)))

theorem State.readyDown_keeps (s : State) (c : Chan) : Keeps s (s.readyDown c) :=
  Keeps.ite (.modChan (.refl s) (by intro; exact Nat.le_refl _) (by intro; exact Nat.le_refl _)) (.endAttempt (.post (.enterDown (.modChan (.modChan (.refl s) (by intro; exact Nat.le_refl _) (by intro; exact Nat.le_refl _)) (by intro; exact Nat.le_refl _) (by intro; exact Nat.le_refl _)))))

/-- A channel whose CARRIER changes keeps its queue and its mailbox. -/
theorem Channel.carrierUp_stored (ch : Channel) : ch.carrierUp.queue = ch.queue ∧ ch.carrierUp.mailbox = ch.mailbox := by
  unfold Channel.carrierUp; dsimp only; split <;> exact ⟨rfl, rfl⟩

theorem Keeps.carrierUpOn {s t : State} {c : Chan} (h : Keeps s t) : Keeps s (t.modChan c Channel.carrierUp) :=
  .modChan h (fun ch => Nat.le_of_eq (congrArg _ ch.carrierUp_stored.1)) fun ch => Nat.le_of_eq (congrArg _ ch.carrierUp_stored.2)

theorem State.carrierUp_keeps (s : State) (c : Chan) : Keeps s (s.carrierUp c) := by
  have hchoice : Keeps s { s with choices := s.choices + 1 } := ⟨rfl, id, id⟩
  unfold State.carrierUp
  split
  · exact .refl s
  · split
    · split
      · exact hchoice.carrierUpOn
      · exact .modChan hchoice (by intro; exact Nat.le_refl _) (by intro; exact Nat.le_refl _)
    · exact .carrierUpOn (.refl s)

theorem Keeps.idleByExpiry {s t : State} {c : Chan} (h : Keeps s t) : Keeps s (t.idleByExpiry c) := .modChan (.enterIdle h) (by intro; exact Nat.le_refl _) (by intro; exact Nat.le_refl _)

theorem State.frameReceived_keeps (s : State) (c : Chan) (bytes : List Byte) : Keeps s (s.frameReceived c bytes) := by
  unfold State.frameReceived
  dsimp only
  split
  · split
    · exact .enterAwaitRepeat (.endReception (.refl s))
    · exact .enterIdle (.endReception (.refl s))
    · exact .receive (.endReception (.refl s))
  · exact .refl s

theorem Keeps.acked {s t : State} {c : Chan} {e : Entry} {a : Attempt} {m : Nat} (h : Keeps s t) : Keeps s (t.acked c e a m) := by
  unfold State.acked
  dsimp only
  split
  · exact h.endAttempt.enterIdle
  · split
    · exact .modChan (.modFlying h) (by intro; exact Nat.le_refl _) (by intro; exact Nat.le_refl _)
    · exact h.endAttempt.enterIdle

theorem Keeps.answered {s t : State} {c : Chan} {e : Entry} {a : Attempt} {code m : Nat} (h : Keeps s t) :
    Keeps s (t.answered c e a code m) :=
  Keeps.ite (.ite h.endAttempt.enterIdle h.endAttempt.enterIdle) h.acked

theorem State.replyReceived_keeps (s : State) (c : Chan) (bytes : List Byte) : Keeps s (s.replyReceived c bytes) := by
  unfold State.replyReceived
  dsimp only
  split
  · split
    · split
      · exact .enterIdle (.endAttempt (.endReception (.refl s)))
      · split
        · exact .answered (.endReception (.refl s))
        · exact .receive (.endAttempt (.endReception (.refl s)))
    · exact .refl s
  · exact .refl s

theorem State.startAttempt_keeps (s : State) (c : Chan) : Keeps s (s.startAttempt c) := by
  unfold State.startAttempt
  split
  · exact .refl s
  · exact Keeps.ite (.refl s) (.beginAttempt (.refl s))

theorem State.sent_keeps (s : State) (c : Chan) : Keeps s (s.sent c) := by
  unfold State.sent
  split
  · exact .refl s
  · split
    · split
      · exact .modChan (.refl s) (by intro; exact Nat.le_refl _) (by intro; exact Nat.le_refl _)
      · exact .enterIdle (.endAttempt (.refl s))
    · exact .refl s

theorem State.answerGone_keeps (s : State) (c : Chan) : Keeps s (s.answerGone c) := by
  unfold State.answerGone
  split
  · split
    · exact .enterAwaitRepeat (.refl s)
    · exact .enterIdle (.refl s)
  · exact .refl s

/-! ### Reset -/

theorem Params.reset_inRange : Params.reset.inRange := by
  rw [Params.inRange_iff]; decide

/-- The part as POWER_ON_RESET leaves it meets the invariant, whatever the levels of its inputs and the commands that wait. -/
theorem execPowerOnReset_inv {s t : State} (h : execPowerOnReset s = .next t) : t.Inv := by
  cases h
  refine ⟨⟨Nat.zero_le _, fun c => ?_⟩, ?_, ⟨nofun, nofun⟩, ?_, Params.reset_inRange, ⟨rfl, fun c => ?_⟩, rfl⟩
  · simp [State.chan, Channel.bounded, Channel.reset]
  · simp [State.tablesRight, State.reset, rising]
  · simp [State.countersRight, State.reset]
  · simp [State.chan, Channel.reset, ChState.keyed]

/-! ### Every command -/

theorem State.readTransfer_sound {s : State} (clocks : Nat) (h : s.Sound) : (s.readTransfer clocks).Sound :=
  h.of_link .rfl .rfl (by simp only [State.shape_right_iff]; exact .rfl)

/-- Every command keeps the invariant. -/
theorem exec_inv {i : Instr} {s t : State} (h : s.Inv) (ht : exec i s = .next t) : t.Inv := by
  cases i
  case powerOnReset => exact execPowerOnReset_inv ht
  case readTransfer clocks => cases ht; exact State.event_inv (fun _ => State.readTransfer_sound clocks) h
  case frameError => cases ht; exact State.console_inv_of_keeps (fun t => .refl t) h
  case unknownRequest => cases ht; exact State.console_inv_of_keeps (fun t => .refl t) h
  case identify _ params => cases ht; exact State.console_inv_of_keeps (askIdentify_keeps params) h
  case readNotices _ params => cases ht; exact State.console_inv_of_keeps (askReadNotices_keeps params) h
  case readClock _ params => cases ht; exact State.console_inv_of_keeps (askReadClock_keeps params) h
  case setClock _ params => cases ht; exact State.console_inv (fun _ => askSetClock_sound params) h
  case readParam _ params => cases ht; exact State.console_inv_of_keeps (askReadParam_keeps params) h
  case setParam _ params => cases ht; exact State.console_inv (fun _ => askSetParam_sound params) h
  case queryChannel _ params => cases ht; exact State.console_inv_of_keeps (askQueryChannel_keeps params) h
  case signOn _ params => cases ht; exact State.console_inv (fun _ => askSignOn_sound params) h
  case signOff _ params => cases ht; exact State.console_inv (fun _ => askSignOff_sound params) h
  case addMember _ params => cases ht; exact State.console_inv (fun _ => askAddMember_sound params) h
  case removeMember _ params => cases ht; exact State.console_inv (fun _ => askRemoveMember_sound params) h
  case setChannels _ params => cases ht; exact State.console_inv_of_keeps (askSetChannels_keeps params) h
  case queryCrew _ params => cases ht; exact State.console_inv_of_keeps (askQueryCrew_keeps params) h
  case queryWorker _ params => cases ht; exact State.console_inv_of_keeps (askQueryWorker_keeps params) h
  case createOrder _ params => cases ht; exact State.console_inv (fun _ => askCreateOrder_sound params) h
  case assignOrder _ params => cases ht; exact State.console_inv (fun _ => askAssignOrder_sound params) h
  case unassignOrder _ params => cases ht; exact State.console_inv_of_keeps (askUnassignOrder_keeps params) h
  case cancelOrder _ params => cases ht; exact State.console_inv_of_keeps (askCancelOrder_keeps params) h
  case bindPermit _ params => cases ht; exact State.console_inv_of_keeps (askBindPermit_keeps params) h
  case retireOrder _ params => cases ht; exact State.console_inv (fun _ => askRetireOrder_sound params) h
  case queryOrder _ params => cases ht; exact State.console_inv_of_keeps (askQueryOrder_keeps params) h
  case listQueue _ params => cases ht; exact State.console_inv_of_keeps (askListQueue_keeps params) h
  case loadDevice _ params => cases ht; exact State.console_inv (fun _ => askLoadDevice_sound params) h
  case setPosition _ params => cases ht; exact State.console_inv_of_keeps (askSetPosition_keeps params) h
  case unloadDevice _ params => cases ht; exact State.console_inv (fun _ => askUnloadDevice_sound params) h
  case queryDevice _ params => cases ht; exact State.console_inv_of_keeps (askQueryDevice_keeps params) h
  case draftPermit _ params => cases ht; exact State.console_inv (fun _ => askDraftPermit_sound params) h
  case startSwitching _ params => cases ht; exact State.console_inv_of_keeps (askStartSwitching_keeps params) h
  case grantSurrender _ params => cases ht; exact State.console_inv_of_keeps (askGrantSurrender_keeps params) h
  case denySurrender _ params => cases ht; exact State.console_inv_of_keeps (askDenySurrender_keeps params) h
  case retryPermit _ params => cases ht; exact State.console_inv_of_keeps (askRetryPermit_keeps params) h
  case reassignHolder _ params => cases ht; exact State.console_inv_of_keeps (askReassignHolder_keeps params) h
  case cancelPermit _ params => cases ht; exact State.console_inv_of_keeps (askCancelPermit_keeps params) h
  case retirePermit _ params => cases ht; exact State.console_inv (fun _ => askRetirePermit_sound params) h
  case queryPermit _ params => cases ht; exact State.console_inv_of_keeps (askQueryPermit_keeps params) h
  case startWatch _ params => cases ht; exact State.console_inv_of_keeps (askStartWatch_keeps params) h
  case stopWatch _ params => cases ht; exact State.console_inv_of_keeps (askStopWatch_keeps params) h
  case ackAlarm _ params => cases ht; exact State.console_inv_of_keeps (askAckAlarm_keeps params) h
  case clearAlarm _ params => cases ht; exact State.console_inv_of_keeps (askClearAlarm_keeps params) h
  case reviewWorker _ params => cases ht; exact State.console_inv_of_keeps (askReviewWorker_keeps params) h
  case enableChannel _ params => cases ht; exact State.console_inv_of_keeps (askEnableChannel_keeps params) h
  case disableChannel _ params => cases ht; exact State.console_inv_of_keeps (askDisableChannel_keeps params) h
  case restartChannel _ params => cases ht; exact State.console_inv_of_keeps (askRestartChannel_keeps params) h
  case sendText _ params => cases ht; exact State.console_inv (fun _ => askSendText_sound params) h
  case readMessage _ params => cases ht; exact State.console_inv_of_keeps (askReadMessage_keeps params) h
  case tick => cases ht; exact State.event_inv (fun _ => State.tick_sound) h
  case acceptanceExpiry order => cases ht; exact State.event_inv_of_keeps (fun t => t.expireAcceptance_keeps order) h
  case readbackExpiry serial => cases ht; exact State.event_inv_of_keeps (fun t => t.expireReadback_keeps serial) h
  case intervalExpiry badge => cases ht; exact State.event_inv_of_keeps (fun t => t.expireRemaining_keeps badge _) h
  case restExpiry badge => cases ht; exact State.event_inv_of_keeps (fun t => t.expireRemaining_keeps badge _) h
  case graceExpiry badge => cases ht; exact State.event_inv_of_keeps (fun t => t.expireGrace_keeps badge) h
  case escalationExpiry alarm => cases ht; exact State.event_inv_of_keeps (fun t => t.expireEscalation_keeps alarm) h
  case failoverExpiry c => cases ht; exact State.event_inv_of_keeps (fun t => t.expireFailover_keeps c) h
  case failbackExpiry c => cases ht; exact State.event_inv_of_keeps (fun t => t.expireFailback_keeps c) h
  case holdOffExpiry => cases ht; exact State.event_inv_of_keeps .refl h
  case replyWindowExpiry => cases ht; exact State.event_inv_of_keeps (fun t => Keeps.ite (.refl t) (.idleByExpiry (.endAttempt (.refl t)))) h
  case repeatWaitExpiry => cases ht; exact State.event_inv_of_keeps (fun t => Keeps.ite (.refl t) (.idleByExpiry (.modChan (.refl t) (by intro; exact Nat.le_refl _) (by intro; exact Nat.le_refl _)))) h
  case readyActive c => cases ht; exact State.event_inv_of_keeps (fun t => t.readyUp_keeps c) h
  case readyInactive c => cases ht; exact State.event_inv_of_keeps (fun t => t.readyDown_keeps c) h
  case carrierActive c => cases ht; exact State.event_inv_of_keeps (fun t => t.carrierUp_keeps c) h
  case carrierInactive => cases ht; exact State.event_inv_of_keeps (fun t => .modChan (.refl t) (by intro; exact Nat.le_refl _) (by intro; exact Nat.le_refl _)) h
  case frameReceived c bytes => cases ht; exact State.event_inv_of_keeps (fun t => t.frameReceived_keeps c bytes) h
  case replyFrameReceived c bytes => cases ht; exact State.event_inv_of_keeps (fun t => t.replyReceived_keeps c bytes) h
  case attemptStart c => cases ht; exact State.event_inv_of_keeps (fun t => t.startAttempt_keeps c) h
  case sendComplete c => cases ht; exact State.event_inv_of_keeps (fun t => t.sent_keeps c) h
  case answerSent c => cases ht; exact State.event_inv_of_keeps (fun t => t.answerGone_keeps c) h

/-- Settles O3: the command at the front of the queue keeps the invariant, which does not speak of the commands that wait. -/
theorem stepKeepsInvariant : Obligations.StepKeepsInvariant := by
  intro s t h ht
  unfold step at ht
  split at ht
  next => cases ht; exact h
  next i rest _ =>
    obtain ⟨hbounded, htables, hlists, hcounters, hparams, houtputs, hsettled⟩ := h
    exact exec_inv (s := { s with pending := rest }) ⟨hbounded, htables, hlists, hcounters, hparams, houtputs, hsettled⟩ ht

end Sys2Proof.Machine
end

section
/-! The machine as a whole, reset, and the requests of the console link (Chapter 10). -/

namespace Sys2Proof.Machine

/-! ### Steps and reset -/

/-- Settles O1: both clauses unfold one step. -/
theorem stepTakesFrontCommand : Obligations.StepTakesFrontCommand := ⟨fun _ _ _ => rfl, fun _ => rfl⟩

/-- Every arm of exec answers a next state. -/
theorem exec_goesOn (i : Instr) (s : State) : ∃ t, exec i s = .next t := by
  cases i <;> exact ⟨_, rfl⟩

/-- Settles O2: with a command waiting by `exec_goesOn`, and with none the state itself. -/
theorem everyStepGoesOn : Obligations.EveryStepGoesOn := by
  intro s
  unfold State.goesOn step
  split
  · exact ⟨s, rfl⟩
  · exact exec_goesOn _ _

/-- Settles O4: the part after reset is what POWER_ON_RESET leaves of it. -/
theorem resetMeetsInvariant : Obligations.ResetMeetsInvariant := execPowerOnReset_inv (s := State.reset) rfl

/-- Settles O5: what execPowerOnReset writes, field by field. -/
theorem resetCommandResets : Obligations.ResetCommandResets := by
  intro s
  refine ⟨_, rfl, rfl, rfl, rfl, rfl, rfl, rfl, rfl, rfl, rfl, rfl, rfl, rfl, rfl, rfl, rfl, rfl, rfl, fun c => ?_, rfl, rfl, rfl, rfl⟩
  exact Four.get_map _ _ c

end Sys2Proof.Machine
end

section
/-!
The console link (Chapter 10): the checks every request makes first, and the requests of the link itself.
-/

namespace Sys2Proof.Machine

/-! ### Faulty requests (R1, R2, R21, R47, R62, R195) -/

section
variable {s : State} {h l b : Byte}

theorem State.onCrew_of_range (work : Crew → Reply) (hb : 63 < b.toNat) : s.onCrew b work = s.refuse .badValue := if_pos hb

theorem State.onCrew_of_free (work : Crew → Reply) (hb : b.toNat ≤ 63) (hfree : s.crew? b.toNat = none) :
    s.onCrew b work = s.refuse .notFound := by
  rw [State.onCrew, if_neg (Nat.not_lt.2 hb), hfree]

theorem State.onWorker_of_range (work : Worker → Reply) (hb : be16 h l = 0 ∨ be16 h l = 65535) :
    s.onWorker h l work = s.refuse .badValue := if_pos hb

theorem State.onWorker_of_free (work : Worker → Reply) (h1 : 1 ≤ be16 h l) (h2 : be16 h l ≤ 65534)
    (hfree : s.worker? (be16 h l) = none) : s.onWorker h l work = s.refuse .notFound := by
  rw [State.onWorker, if_neg (by omega), hfree]

theorem State.onOrder_of_range (work : Order → Reply) (hb : be16 h l = 0) : s.onOrder h l work = s.refuse .badValue := if_pos hb

theorem State.onOrder_of_free (work : Order → Reply) (h1 : 1 ≤ be16 h l) (hfree : s.order? (be16 h l) = none) :
    s.onOrder h l work = s.refuse .notFound := by
  rw [State.onOrder, if_neg (by omega), hfree]

theorem State.onDevice_of_range (work : Device → Reply) (hb : 511 < be16 h l) : s.onDevice h l work = s.refuse .badValue := if_pos hb

theorem State.onDevice_of_free (work : Device → Reply) (h1 : be16 h l ≤ 511) (hfree : s.device? (be16 h l) = none) :
    s.onDevice h l work = s.refuse .notFound := by
  rw [State.onDevice, if_neg (by omega), hfree]

theorem State.onPermit_of_range (work : Permit → Reply) (hb : be16 h l = 0) : s.onPermit h l work = s.refuse .badValue := if_pos hb

theorem State.onPermit_of_free (work : Permit → Reply) (h1 : 1 ≤ be16 h l) (hfree : s.permit? (be16 h l) = none) :
    s.onPermit h l work = s.refuse .notFound := by
  rw [State.onPermit, if_neg (by omega), hfree]

theorem State.onChannel_of_range (work : Chan → Reply) (hb : 3 < b.toNat) : s.onChannel b work = s.refuse .badValue := by
  rw [State.onChannel, chanOf_eq_none_iff.2 hb]

theorem State.onWorker_of_worker? {w : Worker} (work : Worker → Reply) (hb : be16 h l ≠ 0 ∧ be16 h l ≠ 65535)
    (hw : s.worker? (be16 h l) = some w) : s.onWorker h l work = work w := by
  rw [State.onWorker, if_neg (by omega), hw]

theorem State.onOrder_of_order? {o : Order} (work : Order → Reply) (h1 : 1 ≤ be16 h l) (ho : s.order? (be16 h l) = some o) :
    s.onOrder h l work = work o := by
  rw [State.onOrder, if_neg (by omega), ho]

theorem State.onDevice_of_device? {d : Device} (work : Device → Reply) (h1 : be16 h l ≤ 511)
    (hd : s.device? (be16 h l) = some d) : s.onDevice h l work = work d := by
  rw [State.onDevice, if_neg (by omega), hd]

theorem State.onPermit_of_permit? {p : Permit} (work : Permit → Reply) (h1 : 1 ≤ be16 h l)
    (hp : s.permit? (be16 h l) = some p) : s.onPermit h l work = work p := by
  rw [State.onPermit, if_neg (by omega), hp]

end

theorem Params.get?_eq_none_iff {p : Params} {n : Nat} : p.get? n = none ↔ n = 0 ∨ 20 < n := by
  unfold Params.get?
  split <;> simp
  grind

/-- A request of a fixed size is refused BAD_VALUE when its parameters have another. -/
theorem refuses_of_size (x : Xfer) (s : State) (params : List Byte) :
    ∀ r ∈ [(Instr.identify x, 0), (.readNotices x, 1), (.readClock x, 0), (.setClock x, 4), (.readParam x, 1), (.setParam x, 3),
        (.queryChannel x, 2), (.signOn x, 7), (.signOff x, 1), (.addMember x, 3), (.removeMember x, 2), (.setChannels x, 3),
        (.queryCrew x, 1), (.queryWorker x, 2), (.assignOrder x, 3), (.unassignOrder x, 2), (.cancelOrder x, 2),
        (.bindPermit x, 4), (.retireOrder x, 2), (.queryOrder x, 2), (.listQueue x, 1), (.loadDevice x, 4),
        (.setPosition x, 3), (.unloadDevice x, 2), (.queryDevice x, 2), (.startSwitching x, 2), (.grantSurrender x, 2),
        (.denySurrender x, 2), (.retryPermit x, 2), (.reassignHolder x, 3), (.cancelPermit x, 2), (.retirePermit x, 2),
        (.queryPermit x, 2), (.startWatch x, 6), (.stopWatch x, 2), (.reviewWorker x, 2), (.enableChannel x, 1),
        (.disableChannel x, 1), (.restartChannel x, 1), (.readMessage x, 1)],
      params.length ≠ r.2 → Refuses (r.1 params) s x .badValue := by
  simp only [List.forall_mem_cons, List.not_mem_nil, false_imp_iff, implies_true, and_true]
  refine ⟨?_, ?_, ?_, ?_, ?_, ?_, ?_, ?_, ?_, ?_, ?_, ?_, ?_, ?_, ?_, ?_, ?_, ?_, ?_, ?_, ?_, ?_, ?_, ?_, ?_, ?_, ?_, ?_, ?_, ?_,
    ?_, ?_, ?_, ?_, ?_, ?_, ?_, ?_, ?_, ?_⟩
  all_goals
    intro hsize
    refine refuses_of_refuse rfl ?_
    simp only [askIdentify, askReadNotices, askReadClock, askSetClock, askReadParam, askSetParam, askQueryChannel, askSignOn, askSignOff,
      askAddMember, askRemoveMember, askSetChannels, askQueryCrew, askQueryWorker, askAssignOrder, askUnassignOrder, askCancelOrder,
      askBindPermit, askRetireOrder, askQueryOrder, askListQueue, askLoadDevice, askSetPosition, askUnloadDevice, askQueryDevice,
      askStartSwitching, askGrantSurrender, askDenySurrender, askRetryPermit, askReassignHolder, askCancelPermit, askRetirePermit,
      askQueryPermit, askStartWatch, askStopWatch, askReviewWorker, askEnableChannel, askDisableChannel, askRestartChannel,
      askReadMessage]
    split
    · exact absurd rfl hsize
    · rfl

/-! What SEND_TEXT, ACK_ALARM and CLEAR_ALARM are for the target they name (R116, R117, R172). -/

section
variable {s : State} {t h l b : Byte} {rest : List Byte}

theorem askSendText_crew (ht : t.toNat = 1) : askSendText (t :: b :: rest) s = s.onCrew b fun k =>
    if rest.isEmpty then s.refuse .badValue else s.admitText k.current k.addr rest (u8 k.outSeq.toNat) := by
  simp only [askSendText]
  rw [if_pos ht]

theorem askSendText_group {sh sl mh ml : Byte} {c : Chan} (ht : t.toNat = 2) (hc : chanOf b.toNat = some c) :
    askSendText (t :: b :: sh :: sl :: mh :: ml :: rest) s =
      if 8191 < be16 sh sl ∨ 8191 < be16 mh ml ∨ rest.isEmpty then s.refuse .badValue
      else if s.reach c (be16 sh sl) (be16 mh ml) = 0 then s.refuse .notFound
      else s.admitText c (.group (be16 sh sl) (be16 mh ml)) rest (u8 (s.reach c (be16 sh sl) (be16 mh ml))) := by
  simp only [askSendText]
  rw [if_neg (by omega), if_pos ht, hc]

theorem askSendText_short (ht : t.toNat = 2) (hrest : rest.length < 4) : askSendText (t :: b :: rest) s = s.refuse .badValue := by
  simp only [askSendText]
  rw [if_neg (by omega), if_pos ht]
  split
  · simp only [List.length_cons] at hrest; omega
  · rfl

theorem askAckAlarm_worker (ht : t.toNat = 1) : askAckAlarm [t, h, l] s = s.onWorker h l fun w =>
    if w.watch ≠ .alarm then s.refuse .badState else (s.ackWorker w, .ok, []) := if_pos ht

theorem askAckAlarm_crew (ht : t.toNat = 2) : askAckAlarm [t, b] s = s.onCrew b fun k =>
    if k.alarm ≠ .raised then s.refuse .badState else (s.ackCrew k, .ok, []) := if_pos ht

theorem askClearAlarm_worker (ht : t.toNat = 1) : askClearAlarm [t, h, l] s = s.onWorker h l fun w =>
    if !w.watch.inAlarm then s.refuse .badState else (s.clearWorker w, .ok, []) := if_pos ht

theorem askClearAlarm_crew (ht : t.toNat = 2) : askClearAlarm [t, b] s = s.onCrew b fun k =>
    if k.alarm = .none then s.refuse .badState else (s.clearCrew k, .ok, []) := if_pos ht

end

/-- SEND_TEXT to a group is refused BAD_VALUE when its channel, selector, mask or text does not fit (R172). -/
theorem askSendText_of_badGroup {s : State} {t b a1 a2 m1 m2 : Byte} {text : List Byte} (ht : t.toNat = 2)
    (hbad : 3 < b.toNat ∨ 8191 < be16 a1 a2 ∨ 8191 < be16 m1 m2 ∨ text = []) :
    askSendText (t :: b :: a1 :: a2 :: m1 :: m2 :: text) s = s.refuse .badValue := by
  cases hc : chanOf b.toNat with
  | none =>
    simp only [askSendText]
    rw [if_neg (by omega), if_pos ht, hc]
  | some c =>
    have hb : ¬ 3 < b.toNat := by rw [← chanOf_eq_none_iff, hc]; nofun
    rw [askSendText_group ht hc]
    exact if_pos (by simpa [hb] using hbad)

/-- Settles O7: the size checks by `refuses_of_size`, and each named thing by the check of the request that names it. -/
theorem faultyRequestsAreAnswered : Obligations.FaultyRequestsAreAnswered := by
  have hone : (1 : Byte).toNat = 1 := by decide
  have htwo : (2 : Byte).toNat = 2 := by decide
  refine ⟨fun _ _ => refuses_of_refuse rfl rfl, fun _ _ _ _ => refuses_of_refuse rfl rfl, fun x s params => ?_,
    fun x h l a b c d text s => ?_⟩
  · refine ⟨refuses_of_size x s params, ?_, ?_, ?_, ?_⟩
    · simp only [List.forall_mem_cons, List.not_mem_nil, false_imp_iff, implies_true, and_true]
      constructor
      all_goals
        intro htwo hthree
        refine refuses_of_refuse rfl ?_
        simp only [askAckAlarm, askClearAlarm]
        split
        · exact absurd rfl hthree
        · exact absurd rfl htwo
        · rfl
    all_goals
      intro hsize
      refine refuses_of_refuse rfl ?_
      simp only [askCreateOrder, askDraftPermit, askSendText]
      split
      · simp only [List.length_cons] at hsize; omega
      · rfl
  · simp only [List.forall_mem_cons, List.not_mem_nil, false_imp_iff, implies_true, and_true]
    refine ⟨⟨?_, ?_, ?_, ?_, ?_, ?_⟩, ⟨?_, ?_, ?_, ?_, ?_, ?_⟩, ⟨?_, ?_, ?_, ?_, ?_⟩, ⟨?_, ?_⟩, ⟨?_, ?_, ?_, ?_, ?_, ?_, ?_, ?_⟩,
      ⟨?_, ?_, ?_, ?_⟩, ?_, ?_, ?_, ?_, ?_, ?_, ?_, ?_, ?_⟩
    -- the crew a slot names
    iterate 3 exact ⟨fun hb => refuses_of_refuse rfl (State.onCrew_of_range _ hb),
      fun hb hfree => refuses_of_refuse rfl (State.onCrew_of_free _ hb hfree)⟩
    · exact ⟨fun hb => refuses_of_refuse rfl ((askSendText_crew hone).trans (State.onCrew_of_range _ hb)),
        fun hb hfree => refuses_of_refuse rfl ((askSendText_crew hone).trans (State.onCrew_of_free _ hb hfree))⟩
    · exact ⟨fun hb => refuses_of_refuse rfl ((askAckAlarm_crew htwo).trans (State.onCrew_of_range _ hb)),
        fun hb hfree => refuses_of_refuse rfl ((askAckAlarm_crew htwo).trans (State.onCrew_of_free _ hb hfree))⟩
    · exact ⟨fun hb => refuses_of_refuse rfl ((askClearAlarm_crew htwo).trans (State.onCrew_of_range _ hb)),
        fun hb hfree => refuses_of_refuse rfl ((askClearAlarm_crew htwo).trans (State.onCrew_of_free _ hb hfree))⟩
    -- the worker a badge names
    iterate 4 exact ⟨fun hb => refuses_of_refuse rfl (State.onWorker_of_range _ hb),
      fun h1 h2 hfree => refuses_of_refuse rfl (State.onWorker_of_free _ h1 h2 hfree)⟩
    · exact ⟨fun hb => refuses_of_refuse rfl ((askAckAlarm_worker hone).trans (State.onWorker_of_range _ hb)),
        fun h1 h2 hfree => refuses_of_refuse rfl ((askAckAlarm_worker hone).trans (State.onWorker_of_free _ h1 h2 hfree))⟩
    · exact ⟨fun hb => refuses_of_refuse rfl ((askClearAlarm_worker hone).trans (State.onWorker_of_range _ hb)),
        fun h1 h2 hfree => refuses_of_refuse rfl ((askClearAlarm_worker hone).trans (State.onWorker_of_free _ h1 h2 hfree))⟩
    -- the order a number names
    iterate 5 exact ⟨fun hb => refuses_of_refuse rfl (State.onOrder_of_range _ hb),
      fun h1 hfree => refuses_of_refuse rfl (State.onOrder_of_free _ h1 hfree)⟩
    -- the device a number names
    iterate 2 exact ⟨fun hb => refuses_of_refuse rfl (State.onDevice_of_range _ hb),
      fun h1 hfree => refuses_of_refuse rfl (State.onDevice_of_free _ h1 hfree)⟩
    -- the permit a serial names
    iterate 8 exact ⟨fun hb => refuses_of_refuse rfl (State.onPermit_of_range _ hb),
      fun h1 hfree => refuses_of_refuse rfl (State.onPermit_of_free _ h1 hfree)⟩
    -- the channel a number names
    iterate 4 exact fun hb => refuses_of_refuse rfl (State.onChannel_of_range _ hb)
    · intro h1 ho
      obtain ⟨o, ho⟩ := Option.isSome_iff_exists.1 ho
      exact ⟨fun hb => refuses_of_refuse rfl ((State.onOrder_of_order? (s := s.atRequest x) _ h1 ho).trans (State.onCrew_of_range _ hb)),
        fun hb hfree => refuses_of_refuse rfl ((State.onOrder_of_order? (s := s.atRequest x) _ h1 ho).trans (State.onCrew_of_free _ hb hfree))⟩
    · intro h1 hp
      obtain ⟨p, hp⟩ := Option.isSome_iff_exists.1 hp
      exact ⟨fun hb => refuses_of_refuse rfl ((State.onPermit_of_permit? (s := s.atRequest x) _ h1 hp).trans (State.onCrew_of_range _ hb)),
        fun hb hfree => refuses_of_refuse rfl ((State.onPermit_of_permit? (s := s.atRequest x) _ h1 hp).trans (State.onCrew_of_free _ hb hfree))⟩
    · intro hb hk hbad
      obtain ⟨k, hk⟩ := Option.isSome_iff_exists.1 hk
      refine refuses_of_refuse rfl ((State.onCrew_of_crew? (s := s.atRequest x) _ hb hk).trans ?_)
      split
      next home alt hhome halt =>
        have hh : ¬ 3 < a.toNat := by rw [← chanOf_eq_none_iff, hhome]; nofun
        have ha : ¬ (3 < b.toNat ∧ b.toNat ≠ 255) := by rw [← altOf_eq_none_iff, halt]; nofun
        exact absurd hbad (not_or.2 ⟨hh, ha⟩)
      next => rfl
    · intro hb hk
      obtain ⟨k, hk⟩ := Option.isSome_iff_exists.1 hk
      exact refuses_of_refuse rfl ((askSendText_crew hone).trans (State.onCrew_of_crew? _ hb hk))
    · exact fun h1 h2 => refuses_of_refuse rfl ((if_neg h1).trans (if_neg h2))
    · exact fun hshort => refuses_of_refuse rfl (askSendText_short htwo hshort)
    · exact fun hbad => refuses_of_refuse rfl (askSendText_of_badGroup htwo hbad)
    · intro hn
      refine refuses_of_refuse rfl ?_
      simp only [askSetParam]
      rw [Params.get?_eq_none_iff.2 hn]
    · constructor
      all_goals exact ⟨fun ht => refuses_of_refuse rfl (if_neg ht), fun ht => refuses_of_refuse rfl (if_neg ht)⟩

/-! ### Transfers and the link's own requests (R191, R197 to R203) -/

/-- A transfer shifts out one byte for each clock. -/
theorem State.shifted_length (s : State) (clocks : Nat) : (s.shifted clocks).length = clocks := by
  simp only [State.shifted, List.length_append, List.length_take, List.length_replicate]
  omega

/-- Settles O6: the transfer is an event whose whole work is `State.readTransfer`, and it owes no space signal. -/
theorem readTransferShiftsOut : Obligations.ReadTransferShiftsOut := by
  intro clocks s
  have hsignals : (s.atEvent.readTransfer clocks).signals = [] := rfl
  refine ⟨_, rfl, ?_⟩
  change _ ∧ _ ∧ _
  rw [State.event_eq, State.giveSignals_none hsignals]
  exact ⟨rfl, s.shifted_length clocks, rfl, rfl, rfl, State.settle_outputsRight _, State.settle_bare _⟩

/-- Settles O8: each query's work is what it answers with. -/
theorem linkQueriesAnswer : Obligations.LinkQueriesAnswer := by
  intro x s
  refine ⟨runs_console_answers rfl rfl (.inl rfl) rfl rfl rfl rfl rfl, fun b bs => refuses_of_refuse rfl rfl,
    runs_console_answers rfl rfl (.inl rfl) rfl rfl rfl rfl rfl, fun b bs => refuses_of_refuse rfl rfl, ?_, ?_, ?_, ?_⟩
  · intro n v d hv hd
    refine runs_console_answers (t := s.atRequest x) rfl ?_ (.inl rfl) rfl rfl rfl rfl rfl
    have hv' : (s.atRequest x).params.get? n.toNat = some v := hv
    have hn : u8 n.toNat = [n] := by simp [u8]
    simp only [askReadParam, hv', hd, hn]
    rfl
  · intro n hn
    refine refuses_of_refuse rfl ?_
    simp only [askReadParam]
    rw [Params.get?_eq_none_iff.2 hn]
  · intro b first h
    have hc : chanOf b.toNat = some ⟨b.toNat, h⟩ := by simp [chanOf, h]
    refine runs_console_answers (t := s.atRequest x) rfl ?_ (.inl rfl) rfl rfl rfl rfl rfl
    simp only [askQueryChannel, State.onChannel, hc]
    rfl
  · exact fun b first hb => refuses_of_refuse rfl (State.onChannel_of_range _ hb)

/-- A byte appended stands below the bytes before it. -/
theorem toNat_append_byte {n : Nat} (v : BitVec n) (b : Byte) : (v ++ b).toNat = v.toNat * 256 + b.toNat := by
  rw [BitVec.toNat_append, ← Nat.shiftLeft_add_eq_or_of_lt b.isLt, Nat.shiftLeft_eq]

/-- The four bytes of a field are its value, most significant first. -/
theorem be32_eq_append (a b c d : Byte) : be32 a b c d = a ++ b ++ c ++ d := by
  apply BitVec.eq_of_toNat_eq
  have ha := a.isLt
  have hb := b.isLt
  have hc := c.isLt
  have hd := d.isLt
  rw [toNat_append_byte, toNat_append_byte, toNat_append_byte]
  simp only [be32, be16, BitVec.toNat_ofNat]
  omega

/-- Settles O9. -/
theorem setClockStores : Obligations.SetClockStores := by
  intro x a b c d s
  refine runs_console_answers (t := { s.atRequest x with clock := be32 a b c d }) rfl rfl (.inl rfl) rfl rfl rfl rfl ?_
  rw [be32_eq_append]
  rfl

theorem adjusted_carries (b : Bool) : (adjusted b).carries = true := by cases b <;> rfl

/-- A value is ADJUSTED when it is not the one asked for. -/
theorem adjusted_bne (v n : Nat) : adjusted (v != n) = if v = n then .ok else .adjusted := by
  by_cases h : v = n <;> simp [adjusted, h]

/-- Settles O11. -/
theorem readingTakesTheOldest : Obligations.ReadingTakesTheOldest := by
  refine ⟨fun x n s => ?_, fun x b c m rest s hb hmail => ?_, fun x b c s hb hmail => ?_⟩
  · intro count
    rw [← adjusted_bne]
    exact runs_console_answers rfl rfl (.inl (adjusted_carries _)) rfl rfl rfl rfl rfl
  · have hc : chanOf b.toNat = some c := by simp [chanOf, hb]
    refine runs_console_answers (t := (s.atRequest x).modChan c fun ch => { ch with mailbox := rest }) rfl ?_ (.inl rfl) rfl rfl rfl rfl rfl
    have hmail' : ((s.atRequest x).chan c).mailbox = m :: rest := hmail
    simp only [askReadMessage, State.onChannel, hc, hmail']
  · have hc : chanOf b.toNat = some c := by simp [chanOf, hb]
    refine refuses_of_refuse rfl ?_
    have hmail' : ((s.atRequest x).chan c).mailbox = [] := hmail
    simp only [askReadMessage, State.onChannel, hc, hmail']

/-- A fact about the state before holds beside what a command does. -/
theorem Runs.and {i : Instr} {s : State} {holds : State → Prop} {fact : Prop} (h : Runs i s holds) (hfact : fact) :
    Runs i s fun t => holds t ∧ fact :=
  h.imp fun _ ht => ⟨ht.1, ht.2, hfact⟩

/-! ### SIGN_ON accepted (R4) -/

/-- Every slot below the lowest free one is taken (R1). -/
theorem State.crew?_isSome_of_lt_free {s : State} {slot j : Nat} {more : List Nat} (h : s.freeSlots = slot :: more) (hj : j < slot) :
    (s.crew? j).isSome := by
  have hsorted : (slot :: more).Pairwise (· < ·) := h ▸ List.pairwise_lt_range.filter _
  have hslot : slot ∈ s.freeSlots := h ▸ List.mem_cons_self
  have hrange : slot < 64 := by simpa [State.freeSlots] using (List.mem_filter.1 hslot).1
  by_contra hnone
  have hfree : j ∈ s.freeSlots := List.mem_filter.2 ⟨List.mem_range.2 (by omega), by simpa using hnone⟩
  rw [h] at hfree
  rcases List.mem_cons.1 hfree with rfl | hmore
  · omega
  · exact absurd ((List.pairwise_cons.1 hsorted).1 j hmore) (by omega)

/-- Settles O13: past its checks SIGN_ON answers with the crew and the worker entered. -/
theorem signOnEntersTheCrew : Obligations.SignOnEntersTheCrew := by
  intro x uh ul q hb a bh bl home alt slot more s hhome halt h1 h2 hq h3 h4 hunit hbadge hfree hroom
  have hlow : ∀ j, j < slot → (s.crew? j).isSome := fun j => State.crew?_isSome_of_lt_free hfree
  have hwork : askSignOn [uh, ul, q, hb, a, bh, bl] (s.atRequest x)
      = ((s.atRequest x).enterCrew (newCrew slot (be16 uh ul) q.toNat home alt (be16 bh bl)) (be16 bh bl), .ok, u8 slot) := by
    have hunit' : (s.atRequest x).crewOfUnit? (be16 uh ul) = none := hunit
    have hbadge' : (s.atRequest x).worker? (be16 bh bl) = none := hbadge
    have hfree' : (s.atRequest x).freeSlots = slot :: more := hfree
    simp only [askSignOn, hhome, halt, hfree']
    rw [if_neg (by omega), if_neg (by simp [hunit', hbadge']),
      if_neg (by rw [State.workersFull_iff]; exact Nat.not_le.2 hroom)]
  exact Runs.and (runs_console_answers rfl hwork (.inl rfl) rfl rfl rfl rfl rfl) hlow

/-! ### Transfers read back (R191, R192, R195) -/

/-- A code that is not in the table is read as an unknown request (R195). -/
theorem requestOf_of_unknown {x : Xfer} {code : Byte} {params : List Byte} (h : code.toNat ∉ knownCodes) :
    requestOf x code params = .unknownRequest x code params := by
  unfold requestOf
  split
  case h_46 => rfl
  all_goals
    next hcode => rw [hcode] at h; exact absurd (by decide) h

/-- A request that can be given fits its transfer, and its code names it. -/
theorem requestOf_of_request? {i : Instr} {code : Byte} {x : Xfer} {params : List Byte} (h : i.request? = some (code, x, params))
    (hi : i.wellFormed = true) : requestFits x params = true ∧ requestOf x code params = i := by
  cases i
  case unknownRequest =>
    cases h
    simp only [Instr.wellFormed, Bool.and_eq_true, Bool.not_eq_true', List.contains_eq_mem, decide_eq_false_iff_not] at hi
    exact ⟨hi.2, requestOf_of_unknown hi.1⟩
  all_goals first | (cases h; exact ⟨hi, rfl⟩) | cases h

/-- The body of a request frame is read back, whatever follows it (R192). -/
theorem readFrameBody_frame (code tag : Byte) {params : List Byte} (rest : List Byte) (h : params.length ≤ 120) :
    readFrameBody ((u8 (params.length + 2) ++ [code, tag] ++ params) ++ checkBytes (u8 (params.length + 2) ++ [code, tag] ++ params)
      ++ rest) = some (code, tag, params) := by
  have hn : (BitVec.ofNat 8 (params.length + 2)).toNat = params.length + 2 := by
    rw [BitVec.toNat_ofNat]; exact Nat.mod_eq_of_lt (by omega)
  have hcheck : ∀ bs, (checkBytes bs).length = 2 := fun _ => rfl
  simp only [u8, List.cons_append, List.nil_append, List.append_assoc, readFrameBody]
  have htake : ∀ tail, (params ++ tail).take ((BitVec.ofNat 8 (params.length + 2)).toNat - 2) = params := by
    intro tail; rw [hn]; exact List.take_left' rfl
  have hdrop : ∀ tail, (params ++ tail).drop ((BitVec.ofNat 8 (params.length + 2)).toNat - 2) = tail := by
    intro tail; rw [hn]; exact List.drop_left' rfl
  rw [htake, hdrop, List.take_left' (hcheck _), if_pos ⟨by omega, by omega, by simp [hn, hcheck], rfl⟩]

/-- A request frame followed by bytes of 0 is read back. -/
theorem readRequest_requestTransfer (code : Byte) (x : Xfer) {params : List Byte} (h : params.length ≤ 120) :
    readRequest (requestTransfer code x params) = some (code, x.tag, params) := by
  have hbytes : requestTransfer code x params = 0xA5 :: ((u8 (params.length + 2) ++ [code, x.tag] ++ params)
      ++ checkBytes (u8 (params.length + 2) ++ [code, x.tag] ++ params)
      ++ List.replicate (x.clocks - (requestFrame code x.tag params).length) 0) := by
    simp [requestTransfer, requestFrame]
  have hstart : ((0xA5 : Byte) == 0) = false := by decide
  rw [hbytes]
  simp only [readRequest, List.dropWhile_cons, hstart, Bool.false_eq_true, if_false, if_true]
  exact readFrameBody_frame code x.tag _ h

/-- The transfer of a request is as long as it says. -/
theorem requestTransfer_length (code : Byte) {x : Xfer} {params : List Byte} (h : params.length + 6 ≤ x.clocks) :
    (requestTransfer code x params).length = x.clocks := by
  have hframe : (requestFrame code x.tag params).length = params.length + 6 := by
    simp [requestFrame, u8, checkBytes]
  simp only [requestTransfer, List.length_append, List.length_replicate, hframe]
  omega

/-- The transfer of a request carries a byte that is not 0: its start byte. -/
theorem requestTransfer_not_zero (code : Byte) (x : Xfer) (params : List Byte) :
    (requestTransfer code x params).all (· == 0) = false := by
  have hstart : ((0xA5 : Byte) == 0) = false := by decide
  simp only [requestTransfer, requestFrame, List.cons_append, List.nil_append, List.all_cons, hstart, Bool.false_and]

/-- The transfer of a request that can be given is read as that request. -/
theorem decodeTransfer_of_request {i : Instr} {code : Byte} {x : Xfer} {params : List Byte}
    (h : i.request? = some (code, x, params)) (hi : i.wellFormed = true) :
    decodeTransfer (requestTransfer code x params) = i := by
  obtain ⟨hfits, hrequest⟩ := requestOf_of_request? h hi
  simp only [requestFits, Bool.and_eq_true, decide_eq_true_eq] at hfits
  obtain ⟨hparams, hclocks⟩ := hfits
  simp only [decodeTransfer, requestTransfer_not_zero, Bool.false_eq_true, if_false, readRequest_requestTransfer code x hparams,
    requestTransfer_length code hclocks]
  exact hrequest

/-- Settles O12: a read transfer is all 0, a frame in error is not and holds no frame, and a request's frame is read back. -/
theorem transferRoundTrip : Obligations.TransferRoundTrip := by
  intro i bytes hi hbytes
  cases hr : i.request? with
  | some r =>
    obtain ⟨code, x, params⟩ := r
    have henc : encodeTransfer i = some (requestTransfer code x params) := by
      unfold encodeTransfer
      split
      · cases hr
      · cases hr
      · rw [hr]; rfl
    rw [henc] at hbytes
    cases hbytes
    exact decodeTransfer_of_request hr hi
  | none =>
    unfold encodeTransfer at hbytes
    split at hbytes
    next clocks =>
      cases hbytes
      simp [decodeTransfer]
    next bytes' =>
      cases hbytes
      simp only [Instr.wellFormed, frameInError, Bool.and_eq_true, Bool.not_eq_true', Option.isNone_iff_eq_none] at hi
      simp only [decodeTransfer, hi.1, hi.2, Bool.false_eq_true, if_false]
    next => rw [hr] at hbytes; cases hbytes

end Sys2Proof.Machine
end

section
/-!
The requests that read or change one record and give no telegram: queries, orders entered, bound and retired, switching points,
and a new holder.
-/

namespace Sys2Proof.Machine

/-! ### The key of a record found -/

section
variable {s : State} {n : Nat}

theorem State.slot_of_crew? {k : Crew} (h : s.crew? n = some k) : k.slot = n := (tFind_some Crew.slot h).1
theorem State.badge_of_worker? {w : Worker} (h : s.worker? n = some w) : w.badge = n := (tFind_some Worker.badge h).1
theorem State.number_of_order? {o : Order} (h : s.order? n = some o) : o.number = n := (tFind_some Order.number h).1
theorem State.number_of_device? {d : Device} (h : s.device? n = some d) : d.number = n := (tFind_some Device.number h).1
theorem State.serial_of_permit? {p : Permit} (h : s.permit? n = some p) : p.serial = n := (tFind_some Permit.serial h).1

theorem State.order?_isSome_iff : (s.order? n).isSome ↔ ∃ o ∈ s.orders, o.number = n := by
  simp [State.order?, tFind]

theorem State.permit?_isNone_iff : (s.permit? n).isNone ↔ ∀ p ∈ s.permits, p.serial ≠ n := by
  simp [State.permit?, tFind]

end

/-! ### Answers whose effect is a change of the state before the transfer -/

/-- A notice is posted after the transfer as before it. -/
theorem State.atRequest_post (s : State) (x : Xfer) (n : Subject) : (s.atRequest x).post n = (s.post n).atRequest x := by
  have hnotices : (s.atRequest x).notices = s.notices := rfl
  simp only [State.post, hnotices]
  split
  · rfl
  · split
    · cases dropOldestOrdinary s.notices <;> rfl
    · rfl

/-- A console request answers with an effect that leaves the link and the waiting commands alone. -/
theorem runs_console_effect {i : Instr} {x : Xfer} {s effect : State} {work : State → Reply} {status : Status}
    {results : List Byte} (hi : exec i s = .next (s.console x work))
    (hw : work (s.atRequest x) = (effect.atRequest x, status, results)) (hcarry : status.carries = true ∨ results = [])
    (hheld : effect.held = s.held) (hlost : effect.responseLost = s.responseLost) (hpending : effect.pending = s.pending) :
    Runs i s (Answers s x effect status results) := by
  refine runs_console_answers hi hw hcarry hpending ?_ ?_ rfl rfl
  · simp only [State.atRequest, State.withSignals_linkOut, State.requestTransfer, State.shifted, hheld]
  · simp only [State.atRequest, State.withSignals_responseLost, State.requestTransfer, State.readOut, hheld, hlost]

/-! ### Queries (R20, R45, R46, R51, R96) -/

/-- Settles O19: a query answers with its fields, once what it names is in range and there. -/
theorem rosterAndOrderQueries : Obligations.RosterAndOrderQueries := by
  intro x s
  refine ⟨fun b k hb hk => ⟨?_, ?_⟩, fun b hb => ⟨?_, ?_⟩, fun b hb hk => ⟨?_, ?_⟩, fun h l w h1 h2 hw => ?_, fun h l hb => ?_,
    fun h l h1 h2 hw => ?_, fun h l o h1 ho => ?_, fun h l hb => ?_, fun h l h1 ho => ?_⟩
  · exact runs_console_answers rfl (State.onCrew_of_crew? (s := s.atRequest x) _ hb hk) (.inl rfl) rfl rfl rfl rfl rfl
  · exact runs_console_answers rfl (State.onCrew_of_crew? (s := s.atRequest x) _ hb hk) (.inl rfl) rfl rfl rfl rfl rfl
  · exact refuses_of_refuse rfl (State.onCrew_of_range _ hb)
  · exact refuses_of_refuse rfl (State.onCrew_of_range _ hb)
  · exact refuses_of_refuse rfl (State.onCrew_of_free _ hb hk)
  · exact refuses_of_refuse rfl (State.onCrew_of_free _ hb hk)
  · exact runs_console_answers rfl (State.onWorker_of_worker? (s := s.atRequest x) _ (by omega) hw) (.inl rfl) rfl rfl rfl rfl rfl
  · exact refuses_of_refuse rfl (State.onWorker_of_range _ hb)
  · exact refuses_of_refuse rfl (State.onWorker_of_free _ h1 h2 hw)
  · exact runs_console_answers rfl (State.onOrder_of_order? (s := s.atRequest x) _ h1 ho) (.inl rfl) rfl rfl rfl rfl rfl
  · exact refuses_of_refuse rfl (State.onOrder_of_range _ hb)
  · exact refuses_of_refuse rfl (State.onOrder_of_free _ h1 ho)

/-! ### Orders: entering, binding and retiring (R22, R42, R45) -/

theorem priorityOf_eq_none_iff {n : Nat} : priorityOf n = none ↔ n = 0 ∨ 4 < n := by
  unfold priorityOf
  split <;> simp
  grind

theorem OrderState.bindable_iff {st : OrderState} :
    st.bindable = true ↔ st = .opened ∨ st = .assigned ∨ st = .sent ∨ st = .delivered ∨ st = .accepted := by
  cases st <;> simp [OrderState.bindable]

theorem OrderState.retirable_iff {st : OrderState} :
    st.retirable = true ↔ st = .opened ∨ st = .complete ∨ st = .returned ∨ st = .undelivered ∨ st = .cancelled := by
  cases st <;> simp [OrderState.retirable]

theorem FollowStatus.isOpen_iff {st : FollowStatus} : st.isOpen = true ↔ st = .owed ∨ st = .queued ∨ st = .inFlight := by
  cases st <;> simp [FollowStatus.isOpen]

theorem TgStatus.isOpen_iff {st : TgStatus} : st.isOpen = true ↔ st = .deferred ∨ st = .queued ∨ st = .inFlight := by
  cases st <;> simp [TgStatus.isOpen]

/-- A telegram of the order or its follow-up is under way (R26, R45). -/
theorem Order.engaged_iff {o : Order} :
    o.engaged = true ↔ o.link ≠ none ∨ ∃ f, o.followUp = some f ∧ (f.2 = .owed ∨ f.2 = .queued ∨ f.2 = .inFlight) := by
  simp only [Order.engaged, Bool.or_eq_true, Option.isSome_iff_ne_none, Option.any_eq_true, FollowStatus.isOpen_iff]

/-- Settles O20: each row of R22 is a check of CREATE_ORDER. -/
theorem createOrderTakesARecord : Obligations.CreateOrderTakesARecord := by
  intro x nh nl p sh sl text s row1 row2 row3 cmd
  have htaken : ((s.atRequest x).order? (be16 nh nl)).isSome ↔ row2 := State.order?_isSome_iff (s := s)
  have hbound : (be16 sh sl ≠ 0 ∧ ((s.atRequest x).permit? (be16 sh sl)).isNone) ↔ row3 :=
    and_congr_right fun _ => State.permit?_isNone_iff (s := s)
  have hpriority : ¬ row1 → ∃ priority, priorityOf p.toNat = some priority := fun hrow1 =>
    Option.ne_none_iff_exists'.1 fun hnone => hrow1 (by have := priorityOf_eq_none_iff.1 hnone; omega)
  have hnumber : ¬ row1 → be16 nh nl ≠ 0 := fun hrow1 h0 => hrow1 (.inl h0)
  refine ⟨fun hrow1 => refuses_of_refuse rfl ?_, fun hrow1 hrow2 => refuses_of_refuse rfl ?_,
    fun hrow1 hrow2 hrow3 => refuses_of_refuse rfl ?_, fun hrow1 hrow2 hrow3 hfull => refuses_of_refuse rfl ?_,
    fun priority hp hrow1 hrow2 hrow3 hroom => ?_⟩
  · simp only [askCreateOrder]
    cases hp : priorityOf p.toNat with
    | none => rfl
    | some priority =>
      refine if_pos (hrow1.resolve_right fun hrange => ?_)
      rw [priorityOf_eq_none_iff.2 hrange] at hp
      cases hp
  · obtain ⟨priority, hp⟩ := hpriority hrow1
    simp only [askCreateOrder, hp]
    rw [if_neg (hnumber hrow1), if_pos (htaken.2 hrow2)]
  · obtain ⟨priority, hp⟩ := hpriority hrow1
    simp only [askCreateOrder, hp]
    rw [if_neg (hnumber hrow1), if_neg (mt htaken.1 hrow2), if_pos (hbound.2 hrow3)]
  · obtain ⟨priority, hp⟩ := hpriority hrow1
    simp only [askCreateOrder, hp]
    rw [if_neg (hnumber hrow1), if_neg (mt htaken.1 hrow2), if_neg (mt hbound.1 hrow3)]
    exact if_pos hfull
  · have hstatus : adjusted (decide (64 < text.length)) = if 64 < text.length then .adjusted else .ok := by
      by_cases hlong : 64 < text.length <;> simp [adjusted, hlong]
    rw [← hstatus]
    refine runs_console_effect rfl ?_ (.inl (adjusted_carries _)) rfl rfl rfl
    simp only [askCreateOrder, hp]
    rw [if_neg (hnumber hrow1), if_neg (mt htaken.1 hrow2), if_neg (mt hbound.1 hrow3)]
    exact if_neg (Nat.not_le.2 hroom)

/-- Settles O25. -/
theorem bindPermitBinds : Obligations.BindPermitBinds := by
  intro x h l sh sl o s h1 ho open_
  have hask := State.onOrder_of_order? (s := s.atRequest x) (h := h) (l := l) (o := o)
  have hopen : o.state.bindable = true ↔ open_ := OrderState.bindable_iff
  refine ⟨fun hclosed => refuses_of_refuse rfl ((hask _ h1 ho).trans ?_),
    fun hstate hserial hnone => refuses_of_refuse rfl ((hask _ h1 ho).trans ?_),
    fun hstate hthere => runs_console_effect rfl ((hask _ h1 ho).trans ?_) (.inl rfl) rfl rfl rfl⟩
  · exact if_pos (by simpa using mt hopen.1 hclosed)
  · have hnone' : ((s.atRequest x).permit? (be16 sh sl)).isNone := by rw [show (s.atRequest x).permit? _ = none from hnone]; rfl
    rw [if_neg (by simpa using hopen.2 hstate), if_pos ⟨hserial, hnone'⟩]
  · have hthere' : ¬ (be16 sh sl ≠ 0 ∧ ((s.atRequest x).permit? (be16 sh sl)).isNone) := fun hno =>
      hthere.elim hno.1 fun hsome => by
        have : (s.permit? (be16 sh sl)).isNone := hno.2
        simp_all
    rw [if_neg (by simpa using hopen.2 hstate), if_neg hthere', State.number_of_order? ho]
    rfl

/-- Settles O26. -/
theorem retiringFreesTheRecord : Obligations.RetiringFreesTheRecord := by
  constructor
  · intro x h l o s h1 ho done busy
    have hask := State.onOrder_of_order? (s := s.atRequest x) (h := h) (l := l) (o := o)
    have hdone : o.state.retirable = true ↔ done := OrderState.retirable_iff
    have hbusy : o.engaged = true ↔ busy := Order.engaged_iff
    refine ⟨fun hstate => refuses_of_refuse rfl ((hask _ h1 ho).trans ?_),
      fun hstate hengaged => refuses_of_refuse rfl ((hask _ h1 ho).trans ?_),
      fun hstate hfree => runs_console_effect rfl ((hask _ h1 ho).trans ?_) (.inl rfl) rfl rfl rfl⟩
    · exact if_pos (by simpa using mt hdone.1 hstate)
    · rw [if_neg (by simpa using hdone.2 hstate), if_pos (hbusy.2 hengaged)]
    · rw [if_neg (by simpa using hdone.2 hstate), if_neg (mt hbusy.1 hfree), State.number_of_order? ho]
      rfl
  · intro x h l p s h1 hp busy
    have hask := State.onPermit_of_permit? (s := s.atRequest x) (h := h) (l := l) (p := p)
    have hbusy : (p.closing.any TgStatus.isOpen = true ∨ (p.answer.any fun a => a.status.isOpen) = true) ↔ busy := by
      simp only [Option.any_eq_true, TgStatus.isOpen_iff]
      rfl
    refine ⟨fun hstate => refuses_of_refuse rfl ((hask _ h1 hp).trans (if_pos hstate)),
      fun hstate hengaged => refuses_of_refuse rfl ((hask _ h1 hp).trans ?_),
      fun hstate hfree => runs_console_effect rfl ((hask _ h1 hp).trans ?_) (.inl rfl) rfl rfl rfl⟩
    · rw [if_neg (not_not.2 hstate), if_pos (hbusy.2 hengaged)]
    · rw [if_neg (not_not.2 hstate), if_neg (mt hbusy.1 hfree), State.serial_of_permit? hp]
      rfl

/-! ### Switching points: position, unloading and queries (R49 to R51) -/

/-- Settles O28. -/
theorem setPositionStores : Obligations.SetPositionStores := by
  intro x h l pb s
  refine ⟨fun hrange => refuses_of_refuse rfl (State.onDevice_of_range _ hrange),
    fun h1 hfree => refuses_of_refuse rfl (State.onDevice_of_free _ h1 hfree), fun d h1 hd => ?_⟩
  have hask := State.onDevice_of_device? (s := s.atRequest x) (h := h) (l := l) (d := d)
  refine ⟨fun hbad => refuses_of_refuse rfl ((hask _ h1 hd).trans ?_),
    fun hlo hhi htaken => refuses_of_refuse rfl ((hask _ h1 hd).trans ?_),
    fun position hposition htags hpending => runs_console_effect rfl ((hask _ h1 hd).trans ?_) (.inl rfl) rfl rfl rfl⟩
  · rw [positionOf_eq_none_iff.2 hbad]
  · obtain ⟨position, hposition⟩ := Option.ne_none_iff_exists'.1 fun hnone : positionOf pb.toNat = none =>
      absurd (positionOf_eq_none_iff.1 hnone) (by omega)
    rw [hposition]
    exact if_pos (by simpa [Option.isSome_iff_ne_none] using htaken)
  · rw [hposition, State.number_of_device? hd]
    exact if_neg (by simp [htags, hpending])

theorem State.permitsNaming_ne_zero_iff {s : State} {n : Nat} :
    s.permitsNaming n ≠ 0 ↔ ∃ p ∈ s.permits, p.state ≠ .closed ∧ ∃ t ∈ p.steps, t.device = n := by
  simp [State.permitsNaming]

/-- Settles O29. -/
theorem unloadAndQueries : Obligations.UnloadAndQueries := by
  intro x h l s
  refine And.intro ?_ fun p h1 hp =>
    runs_console_answers rfl (State.onPermit_of_permit? (s := s.atRequest x) _ h1 hp) (.inl rfl) rfl rfl rfl rfl rfl
  intro d h1 hd named
  have hask := State.onDevice_of_device? (s := s.atRequest x) (h := h) (l := l) (d := d)
  have hnamed : (s.atRequest x).permitsNaming d.number ≠ 0 ↔ named := by
    rw [State.number_of_device? hd]; exact State.permitsNaming_ne_zero_iff (s := s)
  refine ⟨fun hheld => refuses_of_refuse rfl ((hask _ h1 hd).trans (if_pos ?_)),
    fun htags hpending hfree => runs_console_effect rfl ((hask _ h1 hd).trans ?_) (.inl rfl) rfl rfl rfl,
    runs_console_answers rfl (hask _ h1 hd) (.inl rfl) rfl rfl rfl rfl rfl⟩
  · simpa only [hnamed, Bool.not_eq_true', List.isEmpty_eq_false_iff, Option.isSome_iff_ne_none] using hheld
  · rw [if_neg (by simp only [hnamed]; simp [htags, hpending, hfree]), State.number_of_device? hd]
    rfl

/-! ### A new holder (R90) -/

/-- Settles O36. -/
theorem reassignHolderGives : Obligations.ReassignHolderGives := by
  intro x h l b p k s h1 hp hb hk busy
  have hask : askReassignHolder [h, l, b] (s.atRequest x) = _ :=
    (State.onPermit_of_permit? (s := s.atRequest x) _ h1 hp).trans (State.onCrew_of_crew? (s := s.atRequest x) _ hb hk)
  have hbusy : (p.answer.any fun a => a.status.isOpen) = true ↔ busy := by
    simp only [Option.any_eq_true, TgStatus.isOpen_iff]
    rfl
  refine ⟨fun hstate => refuses_of_refuse rfl (hask.trans (if_pos hstate)),
    fun hstate hno => refuses_of_refuse rfl (hask.trans ?_), fun hstate hqual hfree => ?_⟩
  · rw [if_neg (not_not.2 hstate), if_pos (by rwa [hbusy])]
  · rw [if_neg (not_not.2 hstate), if_neg (by rw [hbusy]; exact not_or.2 ⟨Nat.not_lt.2 hqual, hfree⟩),
      State.serial_of_permit? hp, State.slot_of_crew? hk] at hask
    have hgiven := (s.modPermit (be16 h l) fun p => { p with holder := b.toNat, hold := s.inAlarm b.toNat }).atRequest_post x
      (.permitState (be16 h l) b.toNat .stalled .stalled .holder)
    exact runs_console_effect rfl (hask.trans (congrArg (·, Status.ok, []) hgiven)) (.inl rfl) (State.post_held _ _)
      (State.post_responseLost _ _) (State.post_pending _ _)

end Sys2Proof.Machine
end

section
/-!
Rules of the records: claims on devices, the pair sum, the effective interval, and the queue's answer to an offer.
-/

namespace Sys2Proof.Machine

/-! ### Claims (R52 to R57) -/

/-- The isolation action: HANG_TAG where the device stands at its isolation position (R55). -/
theorem Device.claim_isolation {d : Device} {serial : Nat} {a : Drafted} (hfree : d.pending = none) (hroom : d.tags.length < 8) :
    d.claim serial (.isolation a) = ({ d with pending := some (serial, d.isolationAction a), waits := d.waits.erase serial },
      .granted (d.isolationAction a)) := by
  simp [Device.claim, hfree, Nat.not_le.2 hroom]

theorem Device.claim_restoration {d : Device} {serial : Nat} (hfree : d.pending = none) :
    d.claim serial .restoration = ({ d with pending := some (serial, d.restorationAction serial), waits := d.waits.erase serial },
      .granted (d.restorationAction serial)) := by
  simp [Device.claim, hfree]

theorem Device.claim_wait {d : Device} {serial : Nat} {p : Nat × Action} (what : ClaimFor) (hheld : d.pending = some p) :
    d.claim serial what = ({ d with waits := if d.waits.contains serial then d.waits else d.waits ++ [serial] }, .wait) := by
  simp [Device.claim, hheld]

theorem Device.claim_tagLimit {d : Device} {serial : Nat} {a : Drafted} (hfree : d.pending = none) (hfull : 8 ≤ d.tags.length) :
    d.claim serial (.isolation a) = (d, .tagLimit) := by
  simp [Device.claim, hfree, hfull]

/-- The restoration action: REMOVE_TAG while another permit's tag hangs or the device is to stay isolated (R56). -/
theorem Device.restorationAction_eq (d : Device) (serial : Nat) : d.restorationAction serial =
    if (∃ t ∈ d.tags, t ≠ serial) ∨ d.restore = some d.isolation then Action.removeTag
    else if d.kind = .ground then Action.removeGround else Action.closeDevice := by
  have hother : (d.tags.any fun t => t != serial) = true ↔ ∃ t ∈ d.tags, t ≠ serial := by simp
  unfold Device.restorationAction
  by_cases h1 : ∃ t ∈ d.tags, t ≠ serial
  · rw [if_pos (hother.2 h1), if_pos (.inl h1)]
  · rw [if_neg (mt hother.1 h1)]
    by_cases h2 : d.restore = some d.isolation
    · rw [if_pos h2, if_pos (.inr h2)]
    · rw [if_neg h2, if_neg (not_or.2 ⟨h1, h2⟩)]

/-- Settles O30. -/
theorem claimIsDecided : Obligations.ClaimIsDecided := by
  intro d serial
  refine ⟨fun p what hheld => ?_, fun a hfree hfull => Device.claim_tagLimit hfree hfull,
    fun a hfree hroom => Device.claim_isolation hfree hroom, fun hfree => ?_⟩
  · rw [Device.claim_wait what hheld]
    simp only [List.contains_eq_mem, decide_eq_true_eq]
  · intro action
    rw [Device.claim_restoration hfree, Device.restorationAction_eq]

/-- A device with tags stands at its isolation position and holds a restore position, and one without holds none (R53). -/
def Device.tagsRight (d : Device) : Prop :=
  d.tags.Nodup ∧ (d.tags ≠ [] → d.position = d.isolation ∧ d.restore.isSome) ∧ (d.tags = [] → d.restore = none)

/-- The DONE report of an isolation hangs the tag at the isolation position (R52, R57). -/
theorem Device.applyDone_isolation {d : Device} {serial : Nat} {drafted : Drafted}
    (hp : d.pending = some (serial, d.isolationAction drafted)) :
    d.applyDone = { d with
      position := d.isolation, tags := d.tags ++ [serial], restore := if d.tags.isEmpty then some d.position else d.restore } := by
  by_cases h : d.position = d.isolation
  · simp [Device.applyDone, hp, Device.isolationAction, h]
  · cases drafted <;> simp [Device.applyDone, hp, Device.isolationAction, h, Drafted.action]

theorem Device.applyDone_isolation_right {d : Device} {serial : Nat} {drafted : Drafted} (h : d.tagsRight) (hnew : serial ∉ d.tags)
    (hp : d.pending = some (serial, d.isolationAction drafted)) :
    d.applyDone.tagsRight ∧ d.applyDone.tags = d.tags ++ [serial] ∧ (d.tags = [] → d.applyDone.restore = some d.position) := by
  obtain ⟨hnodup, htagged, hbare⟩ := h
  rw [Device.applyDone_isolation hp]
  refine ⟨⟨?_, fun _ => ⟨rfl, ?_⟩, fun hempty => absurd hempty (by simp)⟩, rfl, fun hempty => by simp [hempty]⟩
  · exact List.nodup_append.2 ⟨hnodup, List.nodup_singleton _, by rintro a ha b hb rfl; exact hnew (List.mem_singleton.1 hb ▸ ha)⟩
  · by_cases hempty : d.tags = []
    · simp [hempty]
    · simpa [hempty] using (htagged hempty).2

theorem Device.applyDone_restoration_right {d : Device} {serial : Nat} (h : d.tagsRight)
    (hp : d.pending = some (serial, d.restorationAction serial)) :
    d.applyDone.tagsRight ∧ d.applyDone.tags = d.tags.erase serial
      ∧ (d.applyDone.tags = [] → d.tags ≠ [] → d.restore = some d.applyDone.position) := by
  obtain ⟨hnodup, htagged, hbare⟩ := h
  have hne : ∀ {l : List Nat}, l.erase serial ≠ [] → l ≠ [] := fun hl h0 => hl (by rw [h0]; rfl)
  by_cases hstay : (∃ t ∈ d.tags, t ≠ serial) ∨ d.restore = some d.isolation
  · -- the tag is taken and the device stays where it is
    have hdone : d.applyDone = { d with
        tags := d.tags.erase serial, restore := if (d.tags.erase serial).isEmpty then none else d.restore } := by
      rw [Device.restorationAction_eq, if_pos hstay] at hp
      simp [Device.applyDone, hp]
    rw [hdone]
    refine ⟨⟨hnodup.erase _, fun hleft => ?_, fun hleft => ?_⟩, rfl, fun hleft htags => ?_⟩
    · have hleft' : d.tags.erase serial ≠ [] := hleft
      exact ⟨(htagged (hne hleft')).1, by simpa [hleft'] using (htagged (hne hleft')).2⟩
    · have hleft' : d.tags.erase serial = [] := hleft
      simp [hleft']
    · have hnone : ¬ ∃ t ∈ d.tags, t ≠ serial := by
        rintro ⟨t, ht, hne⟩
        have : t ∈ d.tags.erase serial := (List.mem_erase_of_ne hne).2 ht
        rw [show d.tags.erase serial = [] from hleft] at this
        cases this
      exact (hstay.resolve_left hnone).trans (congrArg some (htagged htags).1.symm)
  · -- the last tag goes, and the device returns to its restore position
    have hdone : d.applyDone = { d with position := d.restore.getD d.position, tags := d.tags.erase serial, restore := none } := by
      rw [Device.restorationAction_eq, if_neg hstay] at hp
      by_cases hkind : d.kind = .ground <;> simp [Device.applyDone, hp, hkind]
    have hall : ∀ t ∈ d.tags, t = serial := fun t ht => by_contra fun hne => hstay (.inl ⟨t, ht, hne⟩)
    have hgone : d.tags.erase serial = [] := List.eq_nil_iff_forall_not_mem.2 fun t ht =>
      absurd (hall t (List.mem_of_mem_erase ht)) fun e => hnodup.not_mem_erase (e ▸ ht)
    rw [hdone]
    refine ⟨⟨hnodup.erase _, fun hleft => absurd hgone hleft, fun _ => rfl⟩, rfl, fun _ htags => ?_⟩
    obtain ⟨position, hposition⟩ := Option.isSome_iff_exists.1 (htagged htags).2
    simp [hposition]

/-- Settles O31. -/
theorem taggedDeviceStaysIsolated : Obligations.TaggedDeviceStaysIsolated := by
  intro d serial what a right hright hnew hgranted d'
  have hfree : d.pending = none := by
    by_contra hheld
    obtain ⟨p, hp⟩ := Option.ne_none_iff_exists'.1 hheld
    rw [Device.claim_wait what hp] at hgranted
    cases hgranted
  cases what with
  | isolation drafted =>
    have hroom : d.tags.length < 8 := by
      by_contra hfull
      rw [Device.claim_tagLimit hfree (Nat.not_lt.1 hfull)] at hgranted
      cases hgranted
    have hd' : d' = { d with pending := some (serial, d.isolationAction drafted), waits := d.waits.erase serial }.applyDone :=
      congrArg (fun r => r.1.applyDone) (Device.claim_isolation hfree hroom)
    obtain ⟨hr, htags, hrestore⟩ := Device.applyDone_isolation_right (drafted := drafted)
      (d := { d with pending := some (serial, d.isolationAction drafted), waits := d.waits.erase serial }) hright (hnew nofun) rfl
    rw [hd']
    exact ⟨hr, fun _ => ⟨htags, hrestore⟩, nofun⟩
  | restoration =>
    have hd' : d' = { d with pending := some (serial, d.restorationAction serial), waits := d.waits.erase serial }.applyDone :=
      congrArg (fun r => r.1.applyDone) (Device.claim_restoration hfree)
    obtain ⟨hr, htags, hrestore⟩ := Device.applyDone_restoration_right
      (d := { d with pending := some (serial, d.restorationAction serial), waits := d.waits.erase serial }) hright rfl
    rw [hd']
    exact ⟨hr, fun hno => absurd rfl hno, fun _ => ⟨htags, hrestore⟩⟩

/-! ### The pair sum (R125, R79) -/

/-- The first accumulator is the sum of the bytes (R125). -/
theorem pairStep_foldl_fst (bs : List Byte) (ab : Nat × Nat) :
    (bs.foldl pairStep ab).1 % 251 = (ab.1 + (bs.map (·.toNat)).sum) % 251 := by
  induction bs generalizing ab with
  | nil => simp
  | cons b bs ih =>
    rw [List.foldl_cons, ih, List.map_cons, List.sum_cons, pairStep]
    omega

theorem pairStep_foldl_lt (bs : List Byte) {ab : Nat × Nat} (h : ab.1 < 251 ∧ ab.2 < 251) :
    (bs.foldl pairStep ab).1 < 251 ∧ (bs.foldl pairStep ab).2 < 251 := by
  induction bs generalizing ab with
  | nil => exact h
  | cons b bs ih => exact ih ⟨Nat.mod_lt _ (by omega), Nat.mod_lt _ (by omega)⟩

theorem pairAcc_lt (bs : List Byte) : (pairAcc bs).1 < 251 ∧ (pairAcc bs).2 < 251 := pairStep_foldl_lt bs ⟨by simp, by simp⟩

theorem pairAcc_fst (bs : List Byte) : (pairAcc bs).1 = (bs.map (·.toNat)).sum % 251 := by
  have hsum := pairStep_foldl_fst bs (0, 0)
  rw [Nat.zero_add] at hsum
  rw [← hsum]
  exact (Nat.mod_eq_of_lt (pairAcc_lt bs).1).symm

/-- One byte changed by no multiple of 251 changes the first accumulator. -/
theorem pairAcc_fst_ne {front back : List Byte} {a b : Byte} (h : a.toNat % 251 ≠ b.toNat % 251) :
    (pairAcc (front ++ a :: back)).1 ≠ (pairAcc (front ++ b :: back)).1 := by
  simp only [pairAcc_fst, List.map_append, List.map_cons, List.sum_append, List.sum_cons]
  omega

theorem pairSum_ne_of_fst {xs ys : List Byte} (h : (pairAcc xs).1 ≠ (pairAcc ys).1) : pairSum xs ≠ pairSum ys := by
  have hx := pairAcc_lt xs
  have hy := pairAcc_lt ys
  unfold pairSum
  omega

theorem pairSum_le (bs : List Byte) : pairSum bs ≤ 64250 := by
  have hlt := pairAcc_lt bs
  unfold pairSum
  omega

theorem checkBytes_ne_of_fst {xs ys : List Byte} (h : (pairAcc xs).1 ≠ (pairAcc ys).1) : checkBytes xs ≠ checkBytes ys := by
  intro heq
  simp only [checkBytes, u8, List.cons_append, List.nil_append, List.cons.injEq, and_true] at heq
  have hval := congrArg BitVec.toNat heq.2
  simp only [BitVec.toNat_ofNat] at hval
  rw [Nat.mod_eq_of_lt (by have := (pairAcc_lt xs).1; omega), Nat.mod_eq_of_lt (by have := (pairAcc_lt ys).1; omega)] at hval
  exact h hval

/-- A header whose check is not that of its eleven bytes is malformed (R125, R127). -/
theorem readHeader_of_badCheck {hd check rest : List Byte} (hlen : hd.length = 11) (hcheck : check.length = 2)
    (hbad : checkBytes hd ≠ check) : readHeader (hd ++ check ++ rest) = none := by
  match hd, hlen, check, hcheck with
  | [k, f, d1, d0, m1, m0, s1, s0, q, n, bm], _, [cb, ca], _ => exact if_neg fun h => hbad h.1

/-- Settles O38. -/
theorem pairSumDetectsOneByte : Obligations.PairSumDetectsOneByte := by
  refine ⟨fun bs => ⟨Nat.le_of_lt_succ (pairAcc_lt bs).1, Nat.le_of_lt_succ (pairAcc_lt bs).2, pairSum_le bs⟩,
    fun p unit => pairSum_le _, fun front back a b h => ⟨pairSum_ne_of_fst (pairAcc_fst_ne h), ?_, fun rest hlen => ?_⟩⟩
  · intro listed p q unit unit' hp hq
    have hdigest : ∀ (p : Permit) (unit : Nat), digestOf p unit = pairSum (listed p unit) := fun _ _ => rfl
    rw [hdigest, hdigest, hp, hq]
    exact pairSum_ne_of_fst (pairAcc_fst_ne h)
  · exact readHeader_of_badCheck (by simpa using hlen) rfl (checkBytes_ne_of_fst (pairAcc_fst_ne (Ne.symm h)))

/-! ### The effective interval (R100) -/

/-- Settles O39: the three stages of R100 by cases on the mark and on the missed count. -/
theorem effectiveIntervalBounds : Obligations.EffectiveIntervalBounds := by
  intro interval missed cap lead highRisk h1 h2 h3 h4 e first
  have hfirst : stageOne interval highRisk cap = first := rfl
  have hrange : 60 ≤ first ∧ first ≤ interval ∧ (highRisk = true → first ≤ cap) := by
    cases highRisk <;> simp only [first] <;> simp <;> omega
  have he : e = if missed < 2 then first else max 60 (first / 2) := rfl
  have hnext : effectiveInterval interval (missed + 1) highRisk cap = if missed + 1 < 2 then first else max 60 (first / 2) := rfl
  rw [hnext]
  refine ⟨he, rfl, ?_, ?_, ?_, fun hrisk => ?_, ?_, Nat.min_le_right _ _, Nat.min_le_left _ _⟩
  · rw [he]; split <;> omega
  · rw [he]; split <;> omega
  · rw [he]; split <;> omega
  · have := hrange.2.2 hrisk; rw [he]; split <;> omega
  · rw [he]; split <;> split <;> omega

/-! ### Admission and its victims (R163 to R166) -/

/-- The newest entry of a kind is the last such that waits (R163, R166). -/
theorem newest_eq_some {p : Entry → Bool} {q : List Entry} {v : Entry} (h : newest p q = some v) :
    ∃ front back, q = front ++ v :: back ∧ v.inFlight = false ∧ p v = true ∧ ∀ e ∈ back, e.inFlight = false → p e = false := by
  unfold newest at h
  induction q with
  | nil => cases h
  | cons x xs ih =>
    cases hrest : (xs.filter fun e => !e.inFlight && p e).getLast? with
    | some w =>
      have hw : w = v := by
        rw [List.filter_cons] at h
        split at h
        · rw [List.getLast?_cons, hrest] at h
          exact Option.some.inj h
        · rw [hrest] at h
          exact Option.some.inj h
      obtain ⟨front, back, rfl, hv⟩ := ih (hw ▸ hrest)
      exact ⟨x :: front, back, rfl, hv⟩
    | none =>
      have hnone : (xs.filter fun e => !e.inFlight && p e) = [] := List.getLast?_eq_none_iff.1 hrest
      rw [List.filter_cons, hnone] at h
      split at h
      next hx =>
        cases h
        simp only [Bool.and_eq_true, Bool.not_eq_true'] at hx
        refine ⟨[], xs, rfl, hx.1, hx.2, fun e he hwait => ?_⟩
        simpa [hwait] using List.filter_eq_nil_iff.1 hnone e he
      next => cases h

theorem newest_eq_none_iff {p : Entry → Bool} {q : List Entry} :
    newest p q = none ↔ ∀ e ∈ q, e.inFlight = false → p e = false := by
  simp [newest]

/-- The entries of a queue that wait and have a property. -/
def Channel.waits (ch : Channel) (p : Entry → Prop) : Prop := ∃ e ∈ ch.queue, e.inFlight = false ∧ p e

/-- An offer is admitted over the newest waiting entry of a kind. -/
def Channel.admitsOver (ch : Channel) (cls : TgClass) (kind : TgKind) (p : Entry → Prop) : Prop :=
  ∃ front v back, ch.queue = front ++ v :: back ∧ verdict ch cls kind = .ok (some v) ∧ v.inFlight = false ∧ p v
    ∧ ∀ e ∈ back, e.inFlight = false → ¬ p e

section
variable {ch : Channel} {cls : TgClass} {kind : TgKind} {p : Entry → Bool} {P : Entry → Prop}

theorem newest_of_waits (hp : ∀ e, p e = true ↔ P e) (h : ch.waits P) : ∃ v, newest p ch.queue = some v := by
  obtain ⟨e, he, hwait, hP⟩ := h
  exact Option.ne_none_iff_exists'.1 fun hnone => by simpa [(hp e).2 hP] using newest_eq_none_iff.1 hnone e he hwait

theorem newest_of_not_waits (hp : ∀ e, p e = true ↔ P e) (h : ¬ ch.waits P) : newest p ch.queue = none :=
  newest_eq_none_iff.2 fun e he hwait => Bool.eq_false_iff.2 fun hpe => h ⟨e, he, hwait, (hp e).1 hpe⟩

/-- A full queue admits over a victim, and not without one (R165). -/
theorem verdict_of_victim {v : Entry} (hfull : 24 ≤ ch.queue.length) (hv : victim ch.queue cls kind = some v) :
    verdict ch cls kind = .ok (some v) := by
  unfold verdict
  rw [if_neg (Nat.not_lt.2 hfull), hv]

theorem verdict_of_no_victim (hfull : 24 ≤ ch.queue.length) (hv : victim ch.queue cls kind = none) :
    verdict ch cls kind = .error .full := by
  unfold verdict
  rw [if_neg (Nat.not_lt.2 hfull), hv]

theorem victim_of_verdict {v : Entry} (hfull : 24 ≤ ch.queue.length) (h : verdict ch cls kind = .ok (some v)) :
    victim ch.queue cls kind = some v := by
  cases hv : victim ch.queue cls kind with
  | some w => rw [verdict_of_victim hfull hv] at h; cases h; rfl
  | none => rw [verdict_of_no_victim hfull hv] at h; cases h

theorem admitsOver_of_victim {v : Entry} (hp : ∀ e, p e = true ↔ P e) (hfull : 24 ≤ ch.queue.length)
    (hv : victim ch.queue cls kind = some v) (hnew : newest p ch.queue = some v) : ch.admitsOver cls kind P := by
  obtain ⟨front, back, hq, hwait, hpv, hback⟩ := newest_eq_some hnew
  refine ⟨front, v, back, hq, ?_, hwait, (hp v).1 hpv, fun e he hw hP => ?_⟩
  · exact verdict_of_victim hfull hv
  · rw [← hp e, hback e he hw] at hP
    cases hP

end

/-! The victims of R166, each as a property of the entry. -/

theorem notEmergency_iff (e : Entry) : (e.cls != .emergency) = true ↔ e.cls ≠ .emergency := by simp
theorem isText_iff (e : Entry) : (e.cls == .text) = true ↔ e.cls = .text := by simp
theorem isOrder_iff (e : Entry) : (e.cls == .order) = true ↔ e.cls = .order := by simp
theorem isCheckPrompt_iff (e : Entry) : (e.kind == .checkPrompt) = true ↔ e.kind = .checkPrompt := by simp

/-- A victim for an EMERGENCY offer is of the lowest class that waits, in a queue in order of class. -/
theorem victim_lowest {q : List Entry} {kind : TgKind} {v e : Entry} (hq : (q.map (·.cls.code)).Pairwise (· ≤ ·))
    (hv : victim q .emergency kind = some v) (he : e ∈ q) (hwait : e.inFlight = false) : e.cls.code ≤ v.cls.code := by
  obtain ⟨front, back, rfl, -, -, hback⟩ := newest_eq_some hv
  simp only [List.map_append, List.map_cons, List.pairwise_append, List.mem_map, List.mem_cons, forall_exists_index, and_imp,
    forall_apply_eq_imp_iff₂, forall_eq_or_imp] at hq
  rcases List.mem_append.1 he with hfront | hrest
  · exact (hq.2.2 e hfront).1
  · rcases List.mem_cons.1 hrest with rfl | hmem
    · exact Nat.le_refl _
    · have hclass : e.cls = .emergency := by simpa using hback e hmem hwait
      rw [hclass]
      cases v.cls <;> decide

/-- Settles O48: what `verdict` is with room, and for each class the victim it names in a full queue. -/
theorem offersAreDecided : Obligations.OffersAreDecided := by
  intro ch cls kind waits newestOf
  refine ⟨fun hroom hcls => ?_, fun hroom hcls => ?_, fun hfull hcls => ?_, fun hfull hcls hw => ?_,
    fun hfull hcls hq v hv e he hwait => ?_, fun hfull hcls hw => ?_, fun hfull hcls hw => ?_, fun hfull hcls hw hw' => ?_,
    fun hfull hcls hw hw' hkind hw'' => ?_, fun hfull hcls hw hw' hno => ?_⟩
  · rcases hcls with rfl | rfl <;> exact if_pos hroom
  · rcases hcls with rfl | rfl <;> exact if_pos hroom
  · rcases hcls with rfl | rfl <;> exact verdict_of_no_victim hfull rfl
  · subst hcls
    obtain ⟨v, hv⟩ := newest_of_waits notEmergency_iff hw
    exact admitsOver_of_victim notEmergency_iff hfull hv hv
  · subst hcls
    exact victim_lowest hq (victim_of_verdict hfull hv) he hwait
  · subst hcls
    exact verdict_of_no_victim hfull (newest_of_not_waits notEmergency_iff hw)
  · subst hcls
    obtain ⟨v, hv⟩ := newest_of_waits isText_iff hw
    exact admitsOver_of_victim isText_iff hfull (by simp [victim, hv]) hv
  · subst hcls
    obtain ⟨v, hv⟩ := newest_of_waits isOrder_iff hw'
    exact admitsOver_of_victim isOrder_iff hfull (by simp [victim, newest_of_not_waits isText_iff hw, hv]) hv
  · subst hcls
    obtain ⟨v, hv⟩ := newest_of_waits isCheckPrompt_iff hw''
    exact admitsOver_of_victim isCheckPrompt_iff hfull
      (by simp [victim, newest_of_not_waits isText_iff hw, newest_of_not_waits isOrder_iff hw', hkind, hv]) hv
  · subst hcls
    refine verdict_of_no_victim hfull ?_
    simp only [victim, newest_of_not_waits isText_iff hw, newest_of_not_waits isOrder_iff hw', Option.none_or]
    split
    · rfl
    next hkind => exact newest_of_not_waits isCheckPrompt_iff (hno.resolve_left hkind)

/-- Where an admitted entry goes in: behind its own and higher classes, before lower ones (R163). -/
theorem insertEntry_place (e : Entry) {q : List Entry} (hq : (q.map (·.cls.code)).Pairwise (· ≤ ·)) :
    ∃ front back, q = front ++ back ∧ insertEntry e q = front ++ e :: back
      ∧ (∀ x ∈ front, x.cls.code ≤ e.cls.code) ∧ ∀ x ∈ back, e.cls.code < x.cls.code := by
  induction q with
  | nil => exact ⟨[], [], rfl, rfl, by simp, by simp⟩
  | cons x xs ih =>
    rw [List.map_cons, List.pairwise_cons] at hq
    by_cases hx : e.cls.code < x.cls.code
    · refine ⟨[], x :: xs, rfl, by simp [insertEntry, hx], by simp, fun y hy => ?_⟩
      rcases List.mem_cons.1 hy with rfl | hy
      · exact hx
      · exact lt_of_lt_of_le hx (hq.1 _ (List.mem_map_of_mem hy))
    · obtain ⟨front, back, rfl, hins, hfront, hback⟩ := ih hq.2
      refine ⟨x :: front, back, rfl, by simp [insertEntry, hx, hins], fun y hy => ?_, hback⟩
      rcases List.mem_cons.1 hy with rfl | hy
      · exact Nat.not_lt.1 hx
      · exact hfront y hy

/-- Settles O49. -/
theorem admissionKeepsOrder : Obligations.AdmissionKeepsOrder := by
  intro e q hq
  obtain ⟨front, back, rfl, hins, hfront, hback⟩ := insertEntry_place e hq
  refine ⟨?_, front, back, rfl, hins, hfront, hback⟩
  rw [hins]
  simp only [List.map_append, List.map_cons, List.pairwise_append, List.pairwise_cons, List.mem_map, forall_exists_index, and_imp,
    forall_apply_eq_imp_iff₂, List.mem_cons, forall_eq_or_imp] at hq ⊢
  exact ⟨hq.1, ⟨fun x hx => (hback x hx).le, hq.2.1⟩, fun x hx => ⟨hfront x hx, fun y hy => hq.2.2 x hx y hy⟩⟩

end Sys2Proof.Machine
end

section
/-!
Admission to a queue with room, SEND_TEXT, and DRAFT_PERMIT with its search for a free serial.
-/

namespace Sys2Proof.Machine

/-! ### Changes to one channel -/

theorem Four.set_set {α : Type} (v : Four α) (c : Chan) (a b : α) : (v.set c a).set c b = v.set c b := by
  fin_cases c <;> rfl

theorem State.modChan_modChan (s : State) (c : Chan) (f g : Channel → Channel) :
    (s.modChan c f).modChan c g = s.modChan c fun ch => g (f ch) := by
  simp only [State.modChan, Four.get_set_same, Four.set_set]

theorem State.modChan_congr {s : State} {c : Chan} {f g : Channel → Channel} (h : f (s.chan c) = g (s.chan c)) :
    s.modChan c f = s.modChan c g := by
  have h' : f (s.chans.get c) = g (s.chans.get c) := h
  simp only [State.modChan, h']

/-! ### The flow hold and an entry's entry (R162, R168) -/

section
variable (s : State) {c : Chan}

/-- A hold that does not stand is set at the high mark, and no signal is owed (R168). -/
theorem State.flowEval_of_noHold (h : (s.chan c).flowHold = false) :
    s.flowEval c = s.modChan c fun ch => { ch with flowHold := ch.flowHold || decide (s.params.highMark ≤ ch.queue.length) } := by
  unfold State.flowEval
  by_cases hhigh : s.params.highMark ≤ (s.chan c).queue.length
  · rw [if_pos hhigh]
    exact State.modChan_congr (by simp [hhigh])
  · rw [if_neg hhigh, if_neg (by simp [h])]
    have hsame : (fun ch : Channel => { ch with flowHold := ch.flowHold || decide (s.params.highMark ≤ ch.queue.length) })
        (s.chan c) = s.chan c := by simp [hhigh]
    rw [State.modChan_congr (g := fun ch => ch) hsame]
    simp only [State.modChan, Four.set_get]

/-- An entry enters a queue whose hold does not stand (R162, R168). -/
theorem State.enqueue_of_noHold (e : Entry) (h : (s.chan c).flowHold = false) :
    s.enqueue c e = s.modChan c fun ch =>
      { ch with
        queue := insertEntry { e with admission := ch.admissions } ch.queue
        admissions := ch.admissions + 1
        flowHold := ch.flowHold || decide (s.params.highMark ≤ ch.queue.length + 1) } := by
  rw [State.enqueue, State.flowEval_of_noHold _ (by simpa using h), State.modChan_modChan]
  simp only [insertEntry_length, State.modChan_params]

/-- An offer that a queue with room and no hold takes in (R165). -/
theorem State.offerWith_of_room (check : State → Nat → State) (e : Entry) (yes : State → State) (no : State → Deferral → State)
    (hroom : (s.chan c).queue.length < 24) (hhold : (s.chan c).flowHold = false) :
    s.offerWith check c e true yes no = yes ((s.takeSeq e).1.enqueue c (s.takeSeq e).2) := by
  have hverdict : verdict (s.chan c) e.cls e.kind = .ok none := by
    unfold verdict
    rw [if_pos hroom]
    cases e.cls <;> simp [hhold]
  simp only [State.offerWith, State.tryAdmit, hverdict, if_true]

/-- A telegram to a crew on the roster takes its outbound sequence (R17). -/
theorem State.takeSeq_crew {e : Entry} {slot unit : Nat} {k : Crew} (haddr : e.addr = .crew slot unit) (hk : s.crew? slot = some k) :
    s.takeSeq e = (s.modCrew slot fun k => { k with outSeq := k.outSeq + 1 }, { e with seq := some k.outSeq }) := by
  simp only [State.takeSeq, haddr, hk]

theorem State.takeSeq_group {e : Entry} {sel m : Nat} (haddr : e.addr = .group sel m) :
    s.takeSeq e = (s, { e with seq := none }) := by
  simp only [State.takeSeq, haddr]

end

/-! ### Texts from the dispatch computer (R172) -/

section
variable {s : State} {c : Chan} {addr : Addr} {text last : List Byte}

theorem State.admitText_full (h : 24 ≤ (s.chan c).queue.length) : s.admitText c addr text last = s.refuse .full := if_pos h

theorem State.admitText_held (hroom : (s.chan c).queue.length < 24) (hhold : (s.chan c).flowHold = true) :
    s.admitText c addr text last = s.refuse .held := by
  unfold State.admitText
  rw [if_neg (Nat.not_le.2 hroom), if_pos hhold]

/-- The entry of a text (R162, R172). -/
def State.textEntry (s : State) (addr : Addr) (text : List Byte) (repeats : Option Nat) : Entry :=
  newEntry (.text s.textCounter) .text .text addr (.bytes (text.take 80)) repeats

/-- A text to a crew admitted (R172). -/
theorem State.admitText_crew {slot unit : Nat} {k : Crew} (hk : s.crew? slot = some k) (hroom : (s.chan c).queue.length < 24)
    (hhold : (s.chan c).flowHold = false) : s.admitText c (.crew slot unit) text last =
      ((({ s with textCounter := s.textCounter % 65535 + 1 } : State).modCrew slot fun k =>
          { k with outSeq := k.outSeq + 1 }).enqueue c { s.textEntry (.crew slot unit) text none with seq := some k.outSeq },
        adjusted (decide (80 < text.length)),
        u16 s.textCounter ++ u8 c.val ++ u8 (min 80 text.length) ++ last) := by
  unfold State.admitText
  rw [if_neg (Nat.not_le.2 hroom), if_neg (by simp [hhold])]
  have hoffer := State.offerWith_of_room (c := c) { s with textCounter := s.textCounter % 65535 + 1 } State.check
    (s.textEntry (.crew slot unit) text none) (fun t => t) (fun t _ => t) hroom hhold
  rw [State.takeSeq_crew { s with textCounter := s.textCounter % 65535 + 1 } rfl hk] at hoffer
  exact congrArg (·, _, _) hoffer

/-- A text to a group admitted (R172). -/
theorem State.admitText_group {sel m : Nat} (hroom : (s.chan c).queue.length < 24)
    (hhold : (s.chan c).flowHold = false) : s.admitText c (.group sel m) text last =
      (({ s with textCounter := s.textCounter % 65535 + 1 } : State).enqueue c (s.textEntry (.group sel m) text (some 1)),
        adjusted (decide (80 < text.length)),
        u16 s.textCounter ++ u8 c.val ++ u8 (min 80 text.length) ++ last) := by
  unfold State.admitText
  rw [if_neg (Nat.not_le.2 hroom), if_neg (by simp [hhold])]
  have hoffer := State.offerWith_of_room (c := c) { s with textCounter := s.textCounter % 65535 + 1 } State.check
    (s.textEntry (.group sel m) text (some 1)) (fun t => t) (fun t _ => t) hroom hhold
  exact congrArg (·, _, _) hoffer

end

theorem adjusted_decide (p : Prop) [Decidable p] : adjusted (decide p) = if p then .adjusted else .ok := by
  by_cases h : p <;> simp [adjusted, h]

/-- Settles O47: the checks of the queue in order, and the entry that goes in. -/
theorem sendTextQueues : Obligations.SendTextQueues := by
  intro x b s
  have hone : (1 : Byte).toNat = 1 := by decide
  have htwo : (2 : Byte).toNat = 2 := by decide
  constructor
  · intro k text hb hk htext
    have hk' : (s.atRequest x).crew? b.toNat = some k := hk
    have hask : askSendText (1 :: b :: text) (s.atRequest x)
        = (s.atRequest x).admitText k.current (.crew b.toNat k.unit) text (u8 k.outSeq.toNat) := by
      rw [askSendText_crew hone, State.onCrew_of_crew? _ hb hk', ← State.slot_of_crew? hk]
      exact if_neg (by simpa using htext)
    refine ⟨fun hfull => refuses_of_refuse rfl (hask.trans (State.admitText_full hfull)),
      fun hroom hhold => refuses_of_refuse rfl (hask.trans (State.admitText_held hroom hhold)), fun hroom hhold => ?_⟩
    rw [← adjusted_decide]
    refine runs_console_effect rfl (hask.trans ((State.admitText_crew hk' hroom hhold).trans ?_)) (.inl (adjusted_carries _)) rfl rfl rfl
    exact congrArg (·, _, _) (State.enqueue_of_noHold _ _ hhold)
  · intro c sh sl mh ml text hb hsel hmask htext reach
    have hc : chanOf b.toNat = some c := by simp [chanOf, hb]
    have hreach : (s.atRequest x).reach c (be16 sh sl) (be16 mh ml) = reach := by
      simp only [State.reach, reaches, reach, Bool.decide_and]
      rfl
    have hask := askSendText_group (s := s.atRequest x) (rest := text) (sh := sh) (sl := sl) (mh := mh) (ml := ml) htwo hc
    rw [if_neg (by simp [htext]; omega), hreach] at hask
    refine ⟨fun hnone => refuses_of_refuse rfl (hask.trans (if_pos hnone)), fun hsome hfull => refuses_of_refuse rfl ?_,
      fun hsome hroom hhold => refuses_of_refuse rfl ?_, fun hsome hroom hhold => ?_⟩
    · exact (hask.trans (if_neg hsome)).trans (State.admitText_full hfull)
    · exact (hask.trans (if_neg hsome)).trans (State.admitText_held hroom hhold)
    · rw [← adjusted_decide]
      refine runs_console_effect rfl ((hask.trans (if_neg hsome)).trans ((State.admitText_group (s := s.atRequest x) hroom hhold).trans ?_))
        (.inl (adjusted_carries _)) rfl rfl rfl
      exact congrArg (·, _, _) (State.enqueue_of_noHold _ _ hhold)

/-! ### DRAFT_PERMIT (R63 to R65) -/

/-- The serials after a value, wrapping from 65535 to 1. -/
def nthSerial (v i : Nat) : Nat := (v - 1 + i) % 65535 + 1

theorem nthSerial_zero {v : Nat} (h : 1 ≤ v ∧ v ≤ 65535) : nthSerial v 0 = v := by
  unfold nthSerial; omega

theorem nthSerial_succ {v : Nat} (h : 1 ≤ v) (i : Nat) : nthSerial v (i + 1) = nthSerial (v % 65535 + 1) i := by
  unfold nthSerial; omega

/-- Serials nearer than a whole round apart are different. -/
theorem nthSerial_inj {v i j : Nat} (hi : i < 65535) (hj : j < 65535) (h : nthSerial v i = nthSerial v j) : i = j := by
  unfold nthSerial at h; omega

/-- The search for a free serial passes the taken ones in turn (R63). -/
theorem freeSerial_search (used : List Nat) (fuel : Nat) {v : Nat} (h : 1 ≤ v ∧ v ≤ 65535) :
    ∃ i ≤ fuel, freeSerial used fuel v = nthSerial v i ∧ (∀ j < i, nthSerial v j ∈ used) ∧ (i < fuel → nthSerial v i ∉ used) := by
  induction fuel generalizing v with
  | zero => exact ⟨0, Nat.le_refl _, (nthSerial_zero h).symm, by simp, by simp⟩
  | succ fuel ih =>
    by_cases hv : v ∈ used
    · obtain ⟨i, hi, heq, hused, hfree⟩ := ih (v := v % 65535 + 1) (by omega)
      refine ⟨i + 1, by omega, ?_, fun j hj => ?_, fun hlt => ?_⟩
      · rw [nthSerial_succ h.1, ← heq]; simp [freeSerial, hv]
      · cases j with
        | zero => rw [nthSerial_zero h]; exact hv
        | succ j => rw [nthSerial_succ h.1]; exact hused j (by omega)
      · rw [nthSerial_succ h.1]; exact hfree (by omega)
    · exact ⟨0, by omega, by simp [freeSerial, hv, nthSerial_zero h], by simp, fun _ => by rwa [nthSerial_zero h]⟩

/-- With fewer records than rounds of the search, the serial found is free. -/
theorem freeSerial_spec {used : List Nat} {fuel : Nat} {v : Nat} (h : 1 ≤ v ∧ v ≤ 65535) (hused : used.length < fuel)
    (hfuel : fuel < 65535) :
    ∃ i, freeSerial used fuel v = nthSerial v i ∧ nthSerial v i ∉ used ∧ ∀ j < i, nthSerial v j ∈ used := by
  obtain ⟨i, hi, heq, htaken, hfree⟩ := freeSerial_search used fuel h
  refine ⟨i, heq, hfree (lt_of_not_ge fun hge => ?_), htaken⟩
  have hnodup : ((List.range fuel).map (nthSerial v)).Nodup :=
    List.Nodup.map_on (fun a ha b hb hab => nthSerial_inj (by have := List.mem_range.1 ha; omega)
      (by have := List.mem_range.1 hb; omega) hab) List.nodup_range
  have hsub : (List.range fuel).map (nthSerial v) ⊆ used := fun n hn => by
    obtain ⟨j, hj, rfl⟩ := List.mem_map.1 hn
    exact htaken j (by have := List.mem_range.1 hj; omega)
  have hlength := (List.subperm_of_subset hnodup hsub).length_le
  simp only [List.length_map, List.length_range] at hlength
  omega

theorem State.permit?_isSome_iff {s : State} {n : Nat} : (s.permit? n).isSome ↔ n ∈ s.permits.map (·.serial) := by
  simp [State.permit?, tFind]

/-- A drafted action suits a kind where APPLY_GROUND goes with a GROUND alone (R64). -/
theorem Drafted.suits_iff {a : Drafted} {k : DeviceKind} : a.suits k = true ↔ (a = .applyGround ↔ k = .ground) := by
  cases a <;> cases k <;> simp [Drafted.suits]

theorem State.stepsSuit_iff {s : State} {steps : List Step} : s.stepsSuit steps = true ↔
    ∀ t ∈ steps, ∀ d, s.device? t.device = some d → (t.action = .applyGround ↔ d.kind = .ground) := by
  simp only [State.stepsSuit, List.all_eq_true, Option.all_eq_true, Drafted.suits_iff]

section
variable {s : State} {hb q n : Byte} {rest : List Byte} {steps : List Step}

/-- R64, row 1, for steps that could be read. -/
def DraftOutOfRange (hb q n : Byte) (steps : List Step) : Prop :=
  63 < hb.toNat ∨ 3 < q.toNat ∨ n.toNat = 0 ∨ 12 < n.toNat ∨ steps.length ≠ n.toNat
    ∨ (steps.any fun t => decide (511 < t.device)) = true ∨ ¬ (steps.map (·.device)).Nodup

variable (hsteps : (readSteps rest).bind draftSteps = some steps)
include hsteps

theorem askDraftPermit_of_outOfRange (h : DraftOutOfRange hb q n steps) : askDraftPermit (hb :: q :: n :: rest) s = s.refuse .badValue := by
  simp only [askDraftPermit, hsteps]
  exact if_pos h

theorem askDraftPermit_of_noCrew (hok : ¬ DraftOutOfRange hb q n steps) (hk : s.crew? hb.toNat = none) :
    askDraftPermit (hb :: q :: n :: rest) s = s.refuse .notFound := by
  simp only [askDraftPermit, hsteps, hk]
  exact if_neg hok

theorem askDraftPermit_of_crew {k : Crew} (hok : ¬ DraftOutOfRange hb q n steps) (hk : s.crew? hb.toNat = some k) :
    askDraftPermit (hb :: q :: n :: rest) s =
      if steps.any fun t => (s.device? t.device).isNone then s.refuse .notFound
      else if !s.stepsSuit steps then s.refuse .badValue
      else if k.qual < q.toNat then s.refuse .conflict
      else if 32 ≤ s.permits.length then s.refuse .full
      else
        ({ s with
            permits := tPut Permit.serial (s.newPermit s.nextSerial hb.toNat q.toNat steps) s.permits
            serialCounter := s.nextSerial % 65535 + 1 },
          .ok, u16 s.nextSerial) := by
  simp only [askDraftPermit, hsteps, hk]
  exact if_neg hok

end

/-- Settles O32: each row of R64 is a check of DRAFT_PERMIT, and the serial is the first free one. -/
theorem draftPermitTakesARecord : Obligations.DraftPermitTakesARecord := by
  intro x hb q n rest s cmd asked row1
  have hrange : ∀ {steps : List Step}, asked = some steps → (row1 ↔ DraftOutOfRange hb q n steps) := by
    intro steps hsteps
    simp [row1, DraftOutOfRange, hsteps]
  constructor
  · intro hrow1
    refine refuses_of_refuse rfl ?_
    cases hsteps : asked with
    | none =>
      have hnone : (readSteps rest).bind draftSteps = none := hsteps
      simp only [askDraftPermit, hnone]
    | some steps => exact askDraftPermit_of_outOfRange hsteps ((hrange hsteps).1 hrow1)
  · intro steps hsteps hrow1
    have hok : ¬ DraftOutOfRange hb q n steps := mt (hrange hsteps).2 hrow1
    have hloaded : (steps.any fun t => ((s.atRequest x).device? t.device).isNone) = true ↔ ∃ t ∈ steps, s.device? t.device = none := by
      rw [List.any_eq_true]
      exact exists_congr fun t => and_congr_right fun _ => Option.isNone_iff_eq_none
    constructor
    · intro hmissing
      refine refuses_of_refuse rfl ?_
      cases hk : s.crew? hb.toNat with
      | none => exact askDraftPermit_of_noCrew hsteps hok hk
      | some k =>
        refine (askDraftPermit_of_crew hsteps hok (s := s.atRequest x) hk).trans (if_pos (hloaded.2 (hmissing.resolve_left ?_)))
        rw [hk]
        nofun
    · intro k hk hdevices suited
      have hask := askDraftPermit_of_crew hsteps hok (s := s.atRequest x) hk
      have hall : ¬ (steps.any fun t => ((s.atRequest x).device? t.device).isNone) = true := fun hany => by
        obtain ⟨t, ht, hnone⟩ := hloaded.1 hany
        simpa [hnone] using hdevices t ht
      have hsuit : (s.atRequest x).stepsSuit steps = true ↔ suited := State.stepsSuit_iff (s := s)
      rw [if_neg hall] at hask
      refine ⟨fun hno => refuses_of_refuse rfl (hask.trans (if_pos ?_)), fun hyes hqual => refuses_of_refuse rfl ?_,
        fun hyes hqual hfull => refuses_of_refuse rfl ?_, ?_⟩
      · simpa using mt hsuit.1 hno
      · rw [hask, if_neg (by simpa using hsuit.2 hyes), if_pos hqual]
      · rw [hask, if_neg (by simpa using hsuit.2 hyes), if_neg (Nat.not_lt.2 hqual)]
        exact if_pos hfull
      · intro hyes hqual hroom h1 h2 nth
        rw [if_neg (by simpa using hsuit.2 hyes), if_neg (Nat.not_lt.2 hqual)] at hask
        obtain ⟨i, hserial, hfree, htaken⟩ := freeSerial_spec (used := s.permits.map (·.serial)) (fuel := 33) (v := s.serialCounter)
          ⟨h1, h2⟩ (by rw [List.length_map]; omega) (by omega)
        have hnext : (s.atRequest x).nextSerial = nth i := hserial
        have hcounter : nth i % 65535 + 1 = if nth i = 65535 then 1 else nth i + 1 := by
          have hle : nth i ≤ 65535 := Nat.succ_le_of_lt (Nat.mod_lt _ (by omega))
          split <;> omega
        have hnone : s.permit? (nth i) = none := by
          by_contra hsome
          exact hfree (State.permit?_isSome_iff.1 (Option.isSome_iff_ne_none.2 hsome))
        rw [hnext, hcounter] at hask
        obtain ⟨t, ht, hanswers⟩ := runs_console_effect (i := cmd) (s := s) (effect :=
            { s with
              permits := tPut Permit.serial (s.newPermit (nth i) hb.toNat q.toNat steps) s.permits
              serialCounter := if nth i = 65535 then 1 else nth i + 1 }) rfl
          (hask.trans (if_neg (Nat.not_le.2 hroom))) (.inl rfl) rfl rfl rfl
        exact ⟨t, ht, i, hnone, fun j hj => State.permit?_isSome_iff.2 (htaken j hj), hanswers⟩

end Sys2Proof.Machine
end

section
/-!
What a command leaves of a state, up to the traffic of telegrams: changes after states of one frame, and the ends of requests and
events.
-/

namespace Sys2Proof.Machine

/-! ### A change after states that differ only by traffic -/

section
variable {α : Type} {key : α → Nat} {fr f : α → α}

/-- A change that does not look at what a frame hides respects it. -/
theorem tMod_map_congr (hkey : ∀ a, key (fr a) = key a) (hf : ∀ a, fr (f a) = fr (f (fr a))) (n : Nat) {l m : List α}
    (h : l.map fr = m.map fr) : (tMod key n f l).map fr = (tMod key n f m).map fr := by
  have hone : ∀ a, fr (if key a = n then f a else a) = if key (fr a) = n then fr (f (fr a)) else fr a := fun a => by
    rw [hkey]; split
    · exact hf a
    · rfl
  have hall : ∀ l : List α, (tMod key n f l).map fr = (l.map fr).map fun a => if key a = n then fr (f a) else a := fun l => by
    simp only [tMod, List.map_map, Function.comp_def, hone]
  rw [hall, hall, h]

end

section
variable {s t : State} (h : s.frame = t.frame)
include h

theorem State.modCrew_frame_congr (slot : Nat) {f : Crew → Crew} (hf : ∀ k, (f k).frame = (f k.frame).frame) :
    (s.modCrew slot f).frame = (t.modCrew slot f).frame := by
  have hcrews := tMod_map_congr (fr := Crew.frame) (fun _ => Crew.frame_slot _) hf slot (congrArg State.crews h)
  show ({ s.frame with crews := (tMod Crew.slot slot f s.crews).map Crew.frame } : State)
    = { t.frame with crews := (tMod Crew.slot slot f t.crews).map Crew.frame }
  rw [h, hcrews]

theorem State.modWorker_frame_congr (badge : Nat) {f : Worker → Worker} (hf : ∀ w, (f w).frame = (f w.frame).frame) :
    (s.modWorker badge f).frame = (t.modWorker badge f).frame := by
  have hworkers := tMod_map_congr (fr := Worker.frame) (fun _ => Worker.frame_badge _) hf badge (congrArg State.workers h)
  show ({ s.frame with workers := (tMod Worker.badge badge f s.workers).map Worker.frame } : State)
    = { t.frame with workers := (tMod Worker.badge badge f t.workers).map Worker.frame }
  rw [h, hworkers]

theorem State.modOrder_frame_congr (n : Nat) {f : Order → Order} (hf : ∀ o, (f o).frame = (f o.frame).frame) :
    (s.modOrder n f).frame = (t.modOrder n f).frame := by
  have horders := tMod_map_congr (fr := Order.frame) (fun _ => Order.frame_number _) hf n (congrArg State.orders h)
  show ({ s.frame with orders := (tMod Order.number n f s.orders).map Order.frame } : State)
    = { t.frame with orders := (tMod Order.number n f t.orders).map Order.frame }
  rw [h, horders]

theorem State.modPermit_frame_congr (serial : Nat) {f : Permit → Permit} (hf : ∀ p, (f p).frame = (f p.frame).frame) :
    (s.modPermit serial f).frame = (t.modPermit serial f).frame := by
  have hpermits := tMod_map_congr (fr := Permit.frame) (fun _ => Permit.frame_serial _) hf serial (congrArg State.permits h)
  show ({ s.frame with permits := (tMod Permit.serial serial f s.permits).map Permit.frame } : State)
    = { t.frame with permits := (tMod Permit.serial serial f t.permits).map Permit.frame }
  rw [h, hpermits]

theorem State.modDevice_frame_congr (n : Nat) (f : Device → Device) : (s.modDevice n f).frame = (t.modDevice n f).frame := by
  have hdevices : s.frame.devices = t.frame.devices := congrArg State.devices h
  change s.devices = t.devices at hdevices
  show ({ s.frame with devices := tMod Device.number n f s.devices } : State)
    = { t.frame with devices := tMod Device.number n f t.devices }
  rw [h, hdevices]

theorem State.modChan_frame_congr (c : Chan) {f : Channel → Channel} (hf : ∀ ch, (f ch).frame = (f ch.frame).frame) :
    (s.modChan c f).frame = (t.modChan c f).frame := by
  have hchans : s.chans.map Channel.frame = t.chans.map Channel.frame := congrArg State.chans h
  have hone : ∀ u : State, (u.chans.set c (f (u.chans.get c))).map Channel.frame
      = (u.chans.map Channel.frame).set c (f ((u.chans.map Channel.frame).get c)).frame := fun u => by
    rw [Four.map_set, hf, Four.get_map]
  show ({ s.frame with chans := (s.chans.set c (f (s.chans.get c))).map Channel.frame } : State)
    = { t.frame with chans := (t.chans.set c (f (t.chans.get c))).map Channel.frame }
  rw [h, hone, hone, hchans]

theorem State.modChans_frame_congr {f : Channel → Channel} (hf : ∀ ch, (f ch).frame = (f ch.frame).frame) :
    (s.modChans f).frame = (t.modChans f).frame := by
  have hchans : s.chans.map Channel.frame = t.chans.map Channel.frame := congrArg State.chans h
  have hone : ∀ u : State, (u.chans.map f).map Channel.frame = (u.chans.map Channel.frame).map fun ch => (f ch).frame := fun u => by
    rw [Four.map_map, Four.map_map]
    exact congrArg (u.chans.map ·) (funext hf)
  show ({ s.frame with chans := (s.chans.map f).map Channel.frame } : State)
    = { t.frame with chans := (t.chans.map f).map Channel.frame }
  rw [h, hone, hone, hchans]

end

theorem Order.frame_frame (o : Order) : o.frame.frame = o.frame := by
  have hassigned : OrderState.assigned.movable = true := rfl
  by_cases hm : o.state.movable = true <;> simp [Order.frame, hm, hassigned, Function.comp_def]

/-! A change of a record that is exactly as it was. -/

section
variable {s t : State}

theorem State.modOrder_frame_of_orders (h : s.frame = t.frame) (horders : s.orders = t.orders) (n : Nat) (f : Order → Order) :
    (s.modOrder n f).frame = (t.modOrder n f).frame := by
  show ({ s.frame with orders := (tMod Order.number n f s.orders).map Order.frame } : State)
    = { t.frame with orders := (tMod Order.number n f t.orders).map Order.frame }
  rw [h, horders]

theorem State.modOrder_frame_ext (n : Nat) {f g : Order → Order} (hf : ∀ o, (f o).frame = (g o).frame) :
    (s.modOrder n f).frame = (s.modOrder n g).frame := by
  have hone : ∀ o : Order, (if o.number = n then f o else o).frame = (if o.number = n then g o else o).frame := fun o => by
    split
    · exact hf o
    · rfl
  show ({ s.frame with orders := (tMod Order.number n f s.orders).map Order.frame } : State)
    = { s.frame with orders := (tMod Order.number n g s.orders).map Order.frame }
  simp only [tMod, List.map_map, Function.comp_def, hone]

end

/-! The queue of a framed crew is sorted: what sorting does to changes of it. -/

@[simp] theorem sort_sort (q : List Nat) :
    (q.mergeSort fun a b => decide (a ≤ b)).mergeSort (fun a b => decide (a ≤ b)) = q.mergeSort fun a b => decide (a ≤ b) :=
  mergeSort_eq_of_perm (List.mergeSort_perm _ _)

@[simp] theorem sort_erase_sort (q : List Nat) (n : Nat) :
    ((q.mergeSort fun a b => decide (a ≤ b)).erase n).mergeSort (fun a b => decide (a ≤ b))
      = (q.erase n).mergeSort fun a b => decide (a ≤ b) :=
  mergeSort_eq_of_perm ((List.mergeSort_perm _ _).erase n)

@[simp] theorem sort_cons_sort (q : List Nat) (n : Nat) :
    (n :: q.mergeSort fun a b => decide (a ≤ b)).mergeSort (fun a b => decide (a ≤ b))
      = (n :: q).mergeSort fun a b => decide (a ≤ b) :=
  mergeSort_eq_of_perm ((List.mergeSort_perm _ _).cons n)

theorem Crew.frame_frame (k : Crew) : k.frame.frame = k.frame := by
  simp only [Crew.frame, sort_sort]

/-! ### What a change of the channels leaves -/

section
variable {s t : State} (h : OnlyChans s t)
include h

theorem OnlyChans.crews : t.crews = s.crews := by rw [h]
theorem OnlyChans.workers : t.workers = s.workers := by rw [h]
theorem OnlyChans.orders : t.orders = s.orders := by rw [h]
theorem OnlyChans.devices : t.devices = s.devices := by rw [h]
theorem OnlyChans.permits : t.permits = s.permits := by rw [h]

end

/-! ### Two changes of one record -/

theorem State.modOrder_modOrder (s : State) (n : Nat) {f : Order → Order} (g : Order → Order) (hf : ∀ o, (f o).number = o.number) :
    (s.modOrder n f).modOrder n g = s.modOrder n fun o => g (f o) := by
  have htwo : ∀ o : Order, (if (if o.number = n then f o else o).number = n then g (if o.number = n then f o else o)
      else if o.number = n then f o else o) = if o.number = n then g (f o) else o := fun o => by
    by_cases ho : o.number = n <;> simp [ho, hf]
  simp only [State.modOrder, tMod, List.map_map, Function.comp_def, htwo]

/-! ### The end of a request and of an event -/

section
variable {s : State}

/-- The answer of a request whose work is, up to traffic, a change of the state before the transfer. -/
theorem State.console_replied_of_frame {x : Xfer} {work : State → Reply} {t effect : State} {status : Status} {results : List Byte}
    (hw : work (s.atRequest x) = (t, status, results)) (hshape : t.shape = (effect.atRequest x).shape)
    (hcarry : status.carries = true ∨ results = []) (hheld : effect.held = s.held) (hlost : effect.responseLost = s.responseLost)
    (hpending : effect.pending = s.pending) : Replied s x status results (s.console x work) := by
  have hresults : (if status.carries then results else []) = results := by
    rcases hcarry with h | h <;> simp [h]
  have hreplied := s.console_replied x work (by rw [hw, hshape]; exact hpending)
    (by rw [hw, hshape]; simp only [State.shape, State.atRequest, State.withSignals_linkOut, State.requestTransfer, State.shifted, hheld])
    (by rw [hw, hshape]
        simp only [State.shape, State.atRequest, State.withSignals_responseLost, State.requestTransfer, State.readOut, hheld, hlost])
  rw [hw] at hreplied
  exact hresults ▸ hreplied

theorem State.console_alike {x : Xfer} {work : State → Reply} {t effect : State} {r : Status × List Byte}
    (hw : work (s.atRequest x) = (t, r)) (hframe : t.frame = (effect.atRequest x).frame) : Alike (s.console x work) effect := by
  have hbare := s.console_frame x work
  rw [hw, hframe] at hbare
  exact hbare

/-- A request answers, and its effect is a change of the state before the transfer, up to traffic. -/
theorem runs_console_alike {i : Instr} {x : Xfer} {effect t : State} {work : State → Reply} {status : Status} {results : List Byte}
    (hi : exec i s = .next (s.console x work)) (hw : work (s.atRequest x) = (t, status, results))
    (hframe : t.frame = (effect.atRequest x).frame) (hcarry : status.carries = true ∨ results = [])
    (hheld : effect.held = s.held) (hlost : effect.responseLost = s.responseLost) (hpending : effect.pending = s.pending) :
    Runs i s fun t => Replied s x status results t ∧ Alike t effect :=
  ⟨_, hi, State.console_replied_of_frame hw (State.shape_of_frame hframe) hcarry hheld hlost hpending, State.console_alike hw hframe⟩

theorem State.event_alike {work : State → State} {effect : State} (hframe : (work s.atEvent).frame = effect.frame) :
    Alike (s.event work) effect := by
  have hbare := s.event_frame work
  rw [hframe] at hbare
  exact hbare

end

end Sys2Proof.Machine
end

section
/-!
Members and orders that leave, with the queue their crew keeps.
-/

namespace Sys2Proof.Machine

/-! ### Members and orders that leave (R6, R27, R43) -/

/-- A worker's record freed respects frames. -/
theorem State.delWorker_frame_congr {s t : State} (h : s.frame = t.frame) (badge : Nat) :
    ({ s with workers := tDel Worker.badge badge s.workers } : State).frame
      = ({ t with workers := tDel Worker.badge badge t.workers } : State).frame := by
  have hworkers : s.workers.map Worker.frame = t.workers.map Worker.frame := congrArg State.workers h
  have hdel : ∀ l : List Worker, (tDel Worker.badge badge l).map Worker.frame = tDel Worker.badge badge (l.map Worker.frame) :=
    fun l => by simp only [tDel, List.filter_map, Function.comp_def, Worker.frame_badge]
  show ({ s.frame with workers := (tDel Worker.badge badge s.workers).map Worker.frame } : State)
    = { t.frame with workers := (tDel Worker.badge badge t.workers).map Worker.frame }
  rw [h, hdel, hdel, hworkers]

theorem State.dropMember_frame (s : State) (w : Worker) : (s.dropMember w).frame =
    ({ s.modCrew w.crew (fun k => { k with members := k.members.erase w.badge }) with
      workers := tDel Worker.badge w.badge s.workers } : State).frame := by
  have hbefore : ((if w.watch = .off then s else s.post (.watchState w.badge w.crew w.watch .off .member)).strike w.crew
      w.badge).frame = s.frame := by simp
  exact State.delWorker_frame_congr (State.modCrew_frame_congr hbefore _ fun k => by simp only [Crew.frame, sort_sort]) _

theorem WatchState.inAlarm_iff {st : WatchState} : st.inAlarm = true ↔ st = .alarm ∨ st = .acknowledged := by
  cases st <;> simp [WatchState.inAlarm]

/-- Settles O16. -/
theorem removeMemberFrees : Obligations.RemoveMemberFrees := by
  intro x h l w k s h1 h2 hw hk
  have hask := State.onWorker_of_worker? (s := s.atRequest x) (h := h) (l := l) (w := w)
  have hcount : (((s.atRequest x).crew? w.crew).map (·.members.length)).getD 0 = k.members.length := by
    rw [show (s.atRequest x).crew? w.crew = some k from hk]; rfl
  refine ⟨fun hno => refuses_of_refuse rfl ((hask _ (by omega) hw).trans ?_), fun hmany hcalm hcalm' => ?_⟩
  · simp only [hcount, WatchState.inAlarm_iff]
    exact if_pos hno
  · have hyes : ¬ (k.members.length ≤ 1 ∨ w.watch.inAlarm = true) := by
      rw [WatchState.inAlarm_iff]; rintro (hone | hal | hack)
      · omega
      · exact hcalm hal
      · exact hcalm' hack
    have hwork := hask (fun w => let count := (((s.atRequest x).crew? w.crew).map (·.members.length)).getD 0
      if count ≤ 1 ∨ w.watch.inAlarm then (s.atRequest x).refuse .badState
      else ((s.atRequest x).dropMember w, .ok, u8 (count - 1))) (by omega) hw
    simp only [hcount] at hwork
    rw [if_neg hyes] at hwork
    refine runs_console_alike rfl hwork ?_ (.inl rfl) rfl rfl rfl
    rw [State.dropMember_frame, State.badge_of_worker? hw]
    rfl

/-- An order that leaves its crew. -/
theorem State.unassign_frame (s : State) {o : Order} {slot : Nat} (hcrew : o.crew = some slot) : (s.unassign o).frame =
    ((s.modOrder o.number fun o => { o with state := .opened, crew := none, deferral := none }).modCrew slot fun k =>
      { k with queue := k.queue.erase o.number }).frame := by
  simp only [State.unassign, hcrew, State.leaveQueue_frame]
  exact State.modCrew_frame_congr (State.post_frame _ _) _ fun k => by simp only [Crew.frame, sort_erase_sort]

/-- Settles O23. -/
theorem unassignOrderOpens : Obligations.UnassignOrderOpens := by
  intro x h l o s h1 ho
  have hask := State.onOrder_of_order? (s := s.atRequest x) (h := h) (l := l) (o := o)
  refine ⟨fun hno => refuses_of_refuse rfl ((hask _ h1 ho).trans (if_pos hno)), fun slot hstate hcrew => ?_⟩
  refine runs_console_alike rfl ((hask _ h1 ho).trans (if_neg (not_not.2 hstate))) ?_ (.inl rfl) rfl rfl rfl
  rw [State.unassign_frame _ hcrew, State.number_of_order? ho]
  rfl

theorem State.withdrawOrder_frame (s : State) (n : Nat) : (s.withdrawOrder n).frame = s.frame :=
  (State.modOrder_link _ _ _).trans (State.withdraw_frame _ _)

/-- ORDER_CANCEL as the follow-up respects the frame of the order. -/
theorem Order.frame_followed (o : Order) : ({ o with followUp := some (.cancel, .owed) } : Order).frame
    = ({ o.frame with followUp := some (.cancel, .owed) } : Order).frame := by
  have hassigned : OrderState.assigned.movable = true := rfl
  by_cases hm : o.state.movable = true <;> simp [Order.frame, hm, hassigned]

theorem State.followWithCancel_frame (s : State) (n : Nat) : (s.followWithCancel n).frame =
    (s.modOrder n fun o => { o with followUp := some (.cancel, .owed) }).frame := by
  simp only [State.followWithCancel, State.offerFollowUp_frame]
  refine State.modOrder_frame_congr ?_ n fun o => ?_
  · rw [State.owed_frame]
    split <;> simp
  · exact Order.frame_followed o

theorem OrderState.ended_iff {st : OrderState} :
    st.ended = true ↔ st = .complete ∨ st = .returned ∨ st = .undelivered ∨ st = .cancelled := by
  cases st <;> simp [OrderState.ended]

theorem OrderState.inHand_iff {st : OrderState} :
    st.inHand = true ↔ st = .delivered ∨ st = .accepted ∨ st = .blocked ∨ st = .working := by
  cases st <;> simp [OrderState.inHand]

/-- A crew that is not on the roster is not changed. -/
theorem State.modCrew_of_free {s : State} {slot : Nat} (f : Crew → Crew) (h : s.crew? slot = none) : s.modCrew slot f = s := by
  have hsame : tMod Crew.slot slot f s.crews = s.crews := by
    have hall : ∀ k ∈ s.crews, (if k.slot = slot then f k else k) = k := fun k hk => if_neg ((tFind_none Crew.slot).1 h k hk)
    rw [tMod, List.map_congr_left hall, List.map_id']
  simp only [State.modCrew, hsame]

/-- What an accepted cancellation is, up to traffic (R43). -/
theorem State.cancel_frame (s : State) (o : Order) {slot : Nat} (hcrew : o.crew = some slot ∨ (o.crew = none ∧ s.crew? slot = none)) :
    (s.cancel o).frame = ((s.modOrder o.number fun o' =>
        { o' with
          state := .cancelled, acceptance := none, deferral := none
          followUp := if o.state.inHand then some (.cancel, .owed) else o'.followUp }).modCrew slot fun k =>
      { k with queue := k.queue.erase o.number }).frame := by
  have hcancelled : OrderState.cancelled.movable = false := rfl
  have hwithdrawn : ((if o.state = .sent then s.withdrawOrder o.number else s).modOrder o.number fun o =>
      { o with state := .cancelled, acceptance := none, deferral := none }).frame
      = (s.modOrder o.number fun o => { o with state := .cancelled, acceptance := none, deferral := none }).frame := by
    split
    · refine (congrArg State.frame (State.modOrder_modOrder _ o.number _ ?_)).trans ?_
      · intro; rfl
      · refine (State.modOrder_frame_of_orders (State.withdraw_frame s _) (s.withdraw_onlyChans _).orders _ _).trans ?_
        exact State.modOrder_frame_ext _ fun _ => rfl
    · rfl
  have hfollowed : ∀ t : State, t.frame = (s.modOrder o.number fun o =>
        { o with state := .cancelled, acceptance := none, deferral := none }).frame →
      (if o.state.inHand then t.followWithCancel o.number else t).frame = (s.modOrder o.number fun o' =>
        { o' with
          state := .cancelled, acceptance := none, deferral := none
          followUp := if o.state.inHand then some (.cancel, .owed) else o'.followUp }).frame := by
    intro t ht
    cases o.state.inHand with
    | true =>
      rw [if_pos rfl, State.followWithCancel_frame, State.modOrder_frame_congr ht _ fun o => Order.frame_followed o]
      exact congrArg State.frame (State.modOrder_modOrder s o.number _ fun _ => rfl)
    | false => exact ht
  rcases hcrew with hsome | ⟨hnone, hfree⟩
  · simp only [State.cancel, hsome, State.leaveQueue_frame]
    exact State.modCrew_frame_congr (hfollowed _ (by rw [State.post_frame]; exact hwithdrawn)) _ fun k => by
      simp only [Crew.frame, sort_erase_sort]
  · rw [State.modCrew_of_free _ (show (s.modOrder _ _).crew? slot = none from hfree)]
    simp only [State.cancel, hnone]
    exact hfollowed _ (by rw [State.post_frame]; exact hwithdrawn)

/-- Settles O24. -/
theorem cancelOrderCancels : Obligations.CancelOrderCancels := by
  intro x h l o s h1 ho ended inHand
  have hask := State.onOrder_of_order? (s := s.atRequest x) (h := h) (l := l) (o := o)
  have hended : o.state.ended = true ↔ ended := OrderState.ended_iff
  have hinHand : o.state.inHand = true ↔ inHand := OrderState.inHand_iff
  refine ⟨fun hno => refuses_of_refuse rfl ((hask _ h1 ho).trans (if_pos (hended.2 hno))), fun slot hlive hcrew => ?_⟩
  have hmark : mark o.state.inHand = if inHand then [1] else [0] := by
    by_cases hi : inHand
    · rw [if_pos hi, hinHand.2 hi]; rfl
    · rw [if_neg hi, Bool.eq_false_iff.2 (mt hinHand.1 hi)]; rfl
  rw [← hmark]
  refine runs_console_alike rfl ((hask _ h1 ho).trans (if_neg (mt hended.1 hlive))) ?_ (.inl rfl) rfl rfl rfl
  rw [(s.atRequest x).cancel_frame o (slot := slot) hcrew, State.number_of_order? ho]
  simp only [hinHand]
  rfl

end Sys2Proof.Machine
end

section
/-!
Alarms acknowledged, watches stopped and reviewed, and channels enabled.
-/

namespace Sys2Proof.Machine

/-! ### Changes of a record that frames do not tell apart, and the channels of a frame -/

section
variable {s t : State}

theorem State.modWorker_frame_ext (badge : Nat) {f g : Worker → Worker} (hf : ∀ w, (f w).frame = (g w).frame) :
    (s.modWorker badge f).frame = (s.modWorker badge g).frame := by
  have hone : ∀ w : Worker, (if w.badge = badge then f w else w).frame = (if w.badge = badge then g w else w).frame := fun w => by
    split
    · exact hf w
    · rfl
  show ({ s.frame with workers := (tMod Worker.badge badge f s.workers).map Worker.frame } : State)
    = { s.frame with workers := (tMod Worker.badge badge g s.workers).map Worker.frame }
  simp only [tMod, List.map_map, Function.comp_def, hone]

theorem State.modPermit_frame_ext (serial : Nat) {f g : Permit → Permit} (hf : ∀ p, (f p).frame = (g p).frame) :
    (s.modPermit serial f).frame = (s.modPermit serial g).frame := by
  have hone : ∀ p : Permit, (if p.serial = serial then f p else p).frame = (if p.serial = serial then g p else p).frame := fun p => by
    split
    · exact hf p
    · rfl
  show ({ s.frame with permits := (tMod Permit.serial serial f s.permits).map Permit.frame } : State)
    = { s.frame with permits := (tMod Permit.serial serial g s.permits).map Permit.frame }
  simp only [tMod, List.map_map, Function.comp_def, hone]

theorem State.chan_frame_of_frame (h : s.frame = t.frame) (c : Chan) : (s.chan c).frame = (t.chan c).frame := by
  have hchans : s.chans.map Channel.frame = t.chans.map Channel.frame := congrArg State.chans h
  have hget := congrArg (Four.get · c) hchans
  simp only [Four.get_map] at hget
  exact hget

end

/-! ### Alarms acknowledged (R116) -/

theorem State.ackWorker_frame (s : State) (w : Worker) : (s.ackWorker w).frame =
    (s.modWorker w.badge fun w => { w with watch := .acknowledged, escal := none }).frame := by
  simp only [State.ackWorker, State.post_frame]
  exact State.foldl_frame _ (fun t c => t.settleCall_frame c) _ _

theorem State.ackCrew_frame (s : State) (k : Crew) : (s.ackCrew k).frame =
    (s.modCrew k.slot fun k => { k with alarm := .acknowledged, escal := none }).frame :=
  State.foldl_frame _ (fun t c => t.settleCall_frame c) _ _

/-- Settles O42. -/
theorem ackAlarmAcknowledges : Obligations.AckAlarmAcknowledges := by
  intro x h l b s
  have hone : (1 : Byte).toNat = 1 := by decide
  have htwo : (2 : Byte).toNat = 2 := by decide
  refine ⟨fun w h1 h2 hw => ?_, fun k hb hk => ?_, fun hn1 hn2 => ?_⟩
  · have hask := (askAckAlarm_worker (s := s.atRequest x) (h := h) (l := l) hone).trans
      (State.onWorker_of_worker? (s := s.atRequest x) _ (by omega) hw)
    refine ⟨fun hno => refuses_of_refuse rfl (hask.trans (if_pos hno)), fun hyes => ?_⟩
    refine runs_console_alike rfl (hask.trans (if_neg (not_not.2 hyes))) ?_ (.inl rfl) rfl rfl rfl
    rw [State.ackWorker_frame, State.badge_of_worker? hw]
    rfl
  · have hask := (askAckAlarm_crew (s := s.atRequest x) htwo).trans (State.onCrew_of_crew? (s := s.atRequest x) _ hb hk)
    refine ⟨fun hno => refuses_of_refuse rfl (hask.trans (if_pos hno)), fun hyes => ?_⟩
    refine runs_console_alike rfl (hask.trans (if_neg (not_not.2 hyes))) ?_ (.inl rfl) rfl rfl rfl
    rw [State.ackCrew_frame, State.slot_of_crew? hk]
    rfl
  · exact ⟨refuses_of_refuse rfl (if_neg hn2), refuses_of_refuse rfl (if_neg hn1)⟩

/-! ### A watch stopped and a worker reviewed (R106, R107) -/

theorem Worker.stopped_frame (w : Worker) : w.stopped.frame =
    ({ w with watch := .off, remaining := none, graceLeft := none, eff := none, lead := none } : Worker).frame := rfl

/-- Settles O41. -/
theorem stopAndReview : Obligations.StopAndReview := by
  intro x h l w s h1 h2 hw
  have hask := State.onWorker_of_worker? (s := s.atRequest x) (h := h) (l := l) (w := w)
  refine ⟨fun hno => refuses_of_refuse rfl ((hask _ (by omega) hw).trans (if_pos (WatchState.inAlarm_iff.2 hno))),
    fun hoff => ?_, fun hwatched => ?_, ?_⟩
  · refine runs_console_effect rfl ((hask _ (by omega) hw).trans ?_) (.inl rfl) rfl rfl rfl
    rw [if_neg (by simp [hoff, WatchState.inAlarm]), if_pos hoff]
  · have hcalm : ¬ w.watch.inAlarm = true := by
      rw [WatchState.inAlarm_iff]; rcases hwatched with hs | hs | hs <;> simp [hs]
    have hon : w.watch ≠ .off := by rcases hwatched with hs | hs | hs <;> simp [hs]
    refine runs_console_alike rfl ((hask _ (by omega) hw).trans ((if_neg hcalm).trans (if_neg hon))) ?_ (.inl rfl) rfl rfl rfl
    rw [State.post_frame, State.strike_frame, State.badge_of_worker? hw]
    exact State.modWorker_frame_ext _ Worker.stopped_frame
  · refine runs_console_effect rfl ((hask _ (by omega) hw).trans ?_) (.inl rfl) rfl rfl rfl
    rw [State.badge_of_worker? hw]
    rfl

/-! ### A channel enabled (R156) -/

theorem State.enterIdleFromDown_frame (s : State) (c : Chan) : (s.enterIdleFromDown c).frame =
    (s.modChan c fun ch => { ch with state := .idle, failover := none, failback := some s.params.failoverTime, txFrame := [] }).frame := by
  simp only [State.enterIdleFromDown, State.signal_frame, State.ite_frame, State.arm_frame, State.post_frame, ite_self]

theorem State.onChannel_of_chan {s : State} {b : Byte} {c : Chan} (work : Chan → Reply) (hb : b.toNat = c.val) :
    s.onChannel b work = work c := by
  have hc : chanOf b.toNat = some c := by simp [chanOf, hb]
  rw [State.onChannel, hc]

theorem State.comeUp_of_ready {s : State} {c : Chan} (h : (s.chan c).ready = true) : s.comeUp c = s.enterIdleFromDown c := if_pos h

theorem State.comeUp_of_not_ready {s : State} {c : Chan} (h : (s.chan c).ready = false) : s.comeUp c = s :=
  if_neg (by simp [h])

/-- A channel enabled, before READY is looked at (R156). -/
def State.enabled (s : State) (c : Chan) : State := (s.enterDown c).post (.channelState c .off .down .request)

theorem State.enabled_frame (s : State) (c : Chan) : (s.enabled c).frame = (s.enterDown c).frame := State.post_frame _ _

theorem State.enabled_chan (s : State) (c : Chan) : (s.enabled c).chan c =
    { s.chan c with state := .down, failover := some s.params.failoverTime, txFrame := [] } := by
  rw [State.enabled, State.post_chan, State.enterDown, State.modChan_chan_same]

theorem askEnableChannel_of_off {s : State} {b : Byte} {c : Chan} (hb : b.toNat = c.val) (hoff : (s.chan c).state = .off) :
    askEnableChannel [b] s = ((s.enabled c).comeUp c, .ok, ((s.enabled c).comeUp c).channelStateField c) :=
  (State.onChannel_of_chan _ hb).trans (if_neg (not_not.2 hoff))

/-- A channel that comes up from OFF stands as it does from DOWN (R156, R140). -/
theorem State.enabled_up_frame (s : State) (c : Chan) : ((s.enabled c).enterIdleFromDown c).frame = (s.modChan c fun ch =>
    { ch with state := .idle, failover := none, failback := some s.params.failoverTime, txFrame := [] }).frame := by
  have hparams : (s.enabled c).params = s.params := State.post_params _ _
  rw [State.enterIdleFromDown_frame, hparams, State.modChan_frame_congr (s.enabled_frame c) c fun _ => rfl, State.enterDown,
    State.modChan_modChan]

/-- Settles O44. -/
theorem enableChannelEnables : Obligations.EnableChannelEnables := by
  intro x b c s hb
  refine ⟨fun hno => refuses_of_refuse rfl ((State.onChannel_of_chan _ hb).trans (if_pos hno)), fun hoff hdown => ?_, fun hoff hup => ?_⟩
  · have hask := askEnableChannel_of_off (s := s.atRequest x) hb hoff
    have hstate := (s.atRequest x).enabled_chan c
    rw [State.comeUp_of_not_ready (by rw [hstate]; exact hdown), State.channelStateField, hstate] at hask
    refine runs_console_alike rfl hask ?_ (.inl rfl) rfl rfl rfl
    rw [State.enabled_frame]
    rfl
  · have hask := askEnableChannel_of_off (s := s.atRequest x) hb hoff
    have hframe := (s.atRequest x).enabled_up_frame c
    have hstate : (((s.atRequest x).enabled c).enterIdleFromDown c).channelStateField c = [3] := by
      have hchan := (congrArg Channel.state (State.chan_frame_of_frame hframe c)).trans
        (congrArg (fun ch : Channel => ch.frame.state) (State.modChan_chan_same (s.atRequest x) c _))
      exact congrArg (fun st : ChState => u8 st.code) hchan
    rw [State.comeUp_of_ready (by rw [State.enabled_chan]; exact hup), hstate] at hask
    exact runs_console_alike rfl hask hframe (.inl rfl) rfl rfl rfl

end Sys2Proof.Machine
end

section
/-!
The expiries of acceptance, readback and escalation.
-/

namespace Sys2Proof.Machine

/-! ### Expiries of acceptance and readback (R31, R80) -/

/-- A notice is posted by an event as from the state before it. -/
theorem State.atEvent_post (s : State) (n : Subject) : s.atEvent.post n = (s.post n).atEvent := by
  have hnotices : s.atEvent.notices = s.notices := rfl
  simp only [State.post, hnotices]
  split
  · rfl
  · split
    · cases dropOldestOrdinary s.notices <;> rfl
    · rfl

/-- An event whose work is a change of the state before it, with no space signal owed. -/
theorem runs_event_effect {i : Instr} {s effect : State} {work : State → State} (hi : exec i s = .next (s.event work))
    (hw : work s.atEvent = effect.atEvent) (hheld : effect.held = s.held) (hlost : effect.responseLost = s.responseLost)
    (hout : effect.linkOut = s.linkOut) (hpending : effect.pending = s.pending) : Runs i s (Takes s effect) := by
  refine ⟨_, hi, s.event_quiet work ?_ ?_ ?_ ?_, ?_⟩
  · rw [hw]; exact hpending
  · rw [hw]; exact hheld
  · rw [hw]; exact hlost
  · rw [hw]; exact hout
  · have hbare := s.event_bare work (by rw [hw]; rfl)
    rw [hw] at hbare
    exact hbare

/-- An event whose work is, up to traffic, a change of the state before it. -/
theorem runs_event_alike {i : Instr} {s effect : State} {work : State → State} (hi : exec i s = .next (s.event work))
    (hframe : (work s.atEvent).frame = effect.frame) (hshape : effect.shape = s.shape) :
    Runs i s fun t => Quiet s t ∧ Alike t effect :=
  ⟨_, hi, s.event_quiet_of_shape work ((State.shape_of_frame hframe).trans hshape), State.event_alike hframe⟩

theorem State.expireAcceptance_of_zero {s : State} {n : Nat} {o : Order} (ho : s.order? n = some o) (h : o.acceptance = some 0) :
    s.expireAcceptance n = (s.modOrder n fun o => { o with acceptance := none, unanswered := true }).post
      (.orderUnanswered n o.crew (o.deliveredAt.getD 0)) := by
  simp only [State.expireAcceptance, ho, h, if_true]

theorem State.expireAcceptance_of_not {s : State} {n : Nat} (h : ∀ o, s.order? n = some o → o.acceptance ≠ some 0) :
    s.expireAcceptance n = s := by
  unfold State.expireAcceptance
  split
  · rfl
  next o ho => exact if_neg (h o ho)

theorem State.expireReadback_of_not {s : State} {n : Nat} (h : ∀ p, s.permit? n = some p → p.state ≠ .issuing ∨ p.readback ≠ some 0) :
    s.expireReadback n = s := by
  unfold State.expireReadback
  split
  · rfl
  next p hp => exact if_neg fun ⟨hr, hs⟩ => (h p hp).elim (· hs) (· hr)

theorem State.expireReadback_of_zero {s : State} {n : Nat} {p : Permit} (hp : s.permit? n = some p) (hs : p.state = .issuing)
    (hr : p.readback = some 0) : s.expireReadback n =
      if p.issueCount < s.params.issueLimit then (s.modPermit n fun p => { p with readback := none }).callIssue n
      else (s.modPermit n fun p => { p with readback := none }).stall n .issuing .readback := by
  simp only [State.expireReadback, hp, hs, hr, and_self, if_true]

theorem State.permit?_modPermit {s : State} {n : Nat} {f : Permit → Permit} {p : Permit} (hf : ∀ p, (f p).serial = p.serial)
    (hp : s.permit? n = some p) : (s.modPermit n f).permit? n = some (f p) :=
  (tFind_tMod_same Permit.serial n f s.permits hf).trans (congrArg (Option.map f) hp)

theorem State.modPermit_modPermit (s : State) (n : Nat) {f : Permit → Permit} (g : Permit → Permit) (hf : ∀ p, (f p).serial = p.serial) :
    (s.modPermit n f).modPermit n g = s.modPermit n fun p => g (f p) := by
  have htwo : ∀ p : Permit, (if (if p.serial = n then f p else p).serial = n then g (if p.serial = n then f p else p)
      else if p.serial = n then f p else p) = if p.serial = n then g (f p) else p := fun p => by
    by_cases hp : p.serial = n <;> simp [hp, hf]
  simp only [State.modPermit, tMod, List.map_map, Function.comp_def, htwo]

/-- A permit issues, up to traffic (R78). -/
theorem State.issuePermit_frame (s : State) (n : Nat) : (s.issuePermit n).frame =
    (s.modPermit n fun p =>
      { p with digest := some (s.digest p), issueCount := p.issueCount + 1, issueOwed := false, readback := none }).frame :=
  State.offerPermit_frame _ _ _

theorem State.callIssue_of_hold {s : State} {n : Nat} {p : Permit} (hp : s.permit? n = some p) (h : p.hold = true) :
    s.callIssue n = s.modPermit n fun p => { p with issueOwed := true, readback := none } := by
  simp [State.callIssue, hp, h]

theorem State.callIssue_of_free {s : State} {n : Nat} {p : Permit} (hp : s.permit? n = some p) (h : p.hold = false) :
    s.callIssue n = s.issuePermit n := by
  simp [State.callIssue, hp, h]

/-- A crew does not become high-risk by a permit that goes to a state that is not so (R104). -/
theorem State.highRisk_of_inactive {s : State} {n slot : Nat} {new : PermitState} (hnew : new.active = false)
    (h : (s.modPermit n fun p => { p with state := new }).highRisk slot = true) : s.highRisk slot = true := by
  simp only [State.highRisk, State.modPermit_permits, tMod, List.any_map, List.any_eq_true, Function.comp_apply, Bool.and_eq_true,
    beq_iff_eq] at h ⊢
  obtain ⟨p, hp, hholder, hactive⟩ := h
  by_cases hn : p.serial = n
  · simp only [hn, if_true] at hactive
    rw [hnew] at hactive
    cases hactive
  · simp only [hn, if_false] at hholder hactive
    exact ⟨p, hp, hholder, hactive⟩

/-- A change to a state that makes no crew high-risk: the record and its notice alone (R66). -/
theorem State.setPermitState_of_inactive {s : State} {n : Nat} {p : Permit} {new : PermitState} (cause : PermitCause)
    (hp : s.permit? n = some p) (hnew : new.active = false) : s.setPermitState n new cause =
      (s.modPermit n fun p => { p with state := new }).post (.permitState n p.holder p.state new cause) := by
  simp only [State.setPermitState, hp]
  refine if_neg fun hrisk => ?_
  simp only [Bool.and_eq_true, Bool.not_eq_true'] at hrisk
  have hbefore := State.highRisk_of_inactive (n := n) hnew
    (show (s.modPermit n fun p => { p with state := new }).highRisk p.holder = true by
      have hpost := hrisk.2
      simp only [State.highRisk, State.post_permits] at hpost
      exact hpost)
  rw [hbefore] at hrisk
  cases hrisk.1

/-- A permit stalled (R88). -/
theorem State.stall_eq {s : State} {n : Nat} {p : Permit} (phase : Phase) (cause : StallCause) (hp : s.permit? n = some p) :
    s.stall n phase cause = ((s.leaveWaits n).modPermit n fun p =>
      { p with
        stall := some (phase, cause), waiting := false, readback := none, issueOwed := false, state := .stalled }).post
      (.permitState n p.holder p.state .stalled (.stalled cause)) := by
  have hp' : ((s.leaveWaits n).modPermit n fun p =>
      { p with stall := some (phase, cause), waiting := false, readback := none, issueOwed := false }).permit? n
      = some { p with stall := some (phase, cause), waiting := false, readback := none, issueOwed := false } :=
    State.permit?_modPermit (fun _ => rfl) (show (s.leaveWaits n).permit? n = some p from hp)
  refine (State.setPermitState_of_inactive _ hp' rfl).trans (congrArg (State.post · _) ?_)
  exact State.modPermit_modPermit _ _ _ fun _ => rfl

/-- Settles O51. -/
theorem acceptanceAndReadbackExpire : Obligations.AcceptanceAndReadbackExpire := by
  constructor
  · intro n s
    refine ⟨fun o ho hzero => runs_event_effect rfl ?_ (State.post_held _ _) (State.post_responseLost _ _) (State.post_linkOut _ _)
      (State.post_pending _ _), fun hno => runs_event_effect rfl (State.expireAcceptance_of_not hno) rfl rfl rfl rfl⟩
    rw [State.expireAcceptance_of_zero (s := s.atEvent) ho hzero]
    exact (s.modOrder n fun o => { o with acceptance := none, unanswered := true }).atEvent_post _
  · intro n s
    refine ⟨fun p hp hs hr => ?_, fun hno => runs_event_effect rfl (State.expireReadback_of_not hno) rfl rfl rfl rfl⟩
    have hwork := State.expireReadback_of_zero (s := s.atEvent) hp hs hr
    have hp' : (s.atEvent.modPermit n fun p => { p with readback := none }).permit? n = some { p with readback := none } :=
      State.permit?_modPermit (fun _ => rfl) (show s.atEvent.permit? n = some p from hp)
    refine ⟨fun hlimit hhold => ?_, fun hlimit hhold => ?_, fun hlimit => ?_⟩
    · refine runs_event_alike (work := fun t => t.expireReadback n) rfl ?_ (State.modPermit_shape_of _ _ _ fun _ => rfl)
      rw [hwork.trans (if_pos hlimit), State.callIssue_of_free hp' hhold, State.issuePermit_frame]
      refine (congrArg State.frame (State.modPermit_modPermit s.atEvent n _ ?_)).trans ?_
      · intro; rfl
      · rfl
    · refine runs_event_effect rfl ((hwork.trans (if_pos hlimit)).trans ?_) rfl rfl rfl rfl
      rw [State.callIssue_of_hold hp' hhold]
      exact State.modPermit_modPermit s.atEvent n _ fun _ => rfl
    · refine runs_event_effect rfl ((hwork.trans (if_neg (Nat.not_lt.2 hlimit))).trans ?_) (State.post_held _ _)
        (State.post_responseLost _ _) (State.post_linkOut _ _) (State.post_pending _ _)
      rw [State.stall_eq _ _ hp', hs, ← State.atEvent_post]
      exact congrArg (State.post · _) (State.modPermit_modPermit (s.atEvent.leaveWaits n) n _ fun _ => rfl)

/-! ### Changes of several channels -/

section
variable {g : Chan → Channel → Channel}

/-- Channels changed in turn: each that is listed once is changed, and nothing else is. -/
theorem State.foldl_modChan_chan {l : List Chan} (hl : l.Nodup) (s : State) (d : Chan) :
    (l.foldl (fun t c => t.modChan c (g c)) s).chan d = if d ∈ l then g d (s.chan d) else s.chan d := by
  induction l generalizing s with
  | nil => simp
  | cons c l ih =>
    rw [List.nodup_cons] at hl
    rw [List.foldl_cons, ih hl.2, State.modChan_chan]
    by_cases hc : c = d
    · subst hc
      simp [hl.1]
    · have hd : d ≠ c := fun e => hc e.symm
      simp [hc, hd]

theorem State.foldl_modChan_onlyChans (l : List Chan) (s : State) : OnlyChans s (l.foldl (fun t c => t.modChan c (g c)) s) :=
  OnlyChans.foldl (fun t c => t.modChan_onlyChans c _) l s

end

theorem allChans_nodup : allChans.Nodup := by decide

theorem mem_allChans (c : Chan) : c ∈ allChans := by fin_cases c <;> decide

/-- Two states that differ in nothing but their channels, and in those not at all. -/
theorem OnlyChans.eq_of_chans {s t u : State} (ht : OnlyChans s t) (hu : OnlyChans s u) (hchan : ∀ c, t.chan c = u.chan c)
    (hsignals : t.signals = u.signals) : t = u := by
  have hchans : t.chans = u.chans := Four.ext_get hchan
  rw [ht, hu, hchans, hsignals]

theorem State.foldl_modChan_signals {g : Chan → Channel → Channel} (l : List Chan) (s : State) :
    (l.foldl (fun t c => t.modChan c (g c)) s).signals = s.signals := by
  induction l generalizing s with
  | nil => rfl
  | cons c l ih => exact ih _

/-! ### The escalation of an alarm (R115) -/

/-- What an alarm's widening makes of a channel. -/
def Channel.widened (ch : Channel) (order : List AlarmRef) (a : AlarmRef) : Channel :=
  if ch.state ≠ .off ∧ a ∉ ch.alarmSet then { ch with alarmSet := order.filter fun x => x == a || ch.alarmSet.contains x } else ch

theorem Channel.widened_frame (order : List AlarmRef) (a : AlarmRef) (ch : Channel) :
    (ch.widened order a).frame = (ch.frame.widened order a).frame := by
  have hstate : ch.frame.state = ch.state := rfl
  have hset : ch.frame.alarmSet = ch.alarmSet := rfl
  by_cases h : ch.state ≠ .off ∧ a ∉ ch.alarmSet
  · rw [Channel.widened, if_pos h, Channel.widened, if_pos (by rwa [hstate, hset])]
    rfl
  · rw [Channel.widened, if_neg h, Channel.widened, if_neg (by rwa [hstate, hset])]
    rfl

/-- The sets that an alarm joins (R115). -/
theorem State.joinSets_eq (s : State) (a : AlarmRef) :
    (allChans.filter fun c => (s.chan c).state != .off && !(s.chan c).alarmSet.contains a).foldl (fun t c => t.joinSet a c) s
      = s.modChans fun ch => ch.widened s.alarmOrder a := by
  have hfold : ∀ (l : List Chan) (t : State), t.alarmOrder = s.alarmOrder → l.foldl (fun t c => t.joinSet a c) t
      = l.foldl (fun t c => t.modChan c fun ch =>
          { ch with alarmSet := s.alarmOrder.filter fun x => x == a || ch.alarmSet.contains x }) t := by
    intro l
    induction l with
    | nil => intro t _; rfl
    | cons c l ih => intro t ht; rw [List.foldl_cons, List.foldl_cons, ih (t.joinSet a c) ht, State.joinSet, ht]
  rw [hfold _ _ rfl]
  refine OnlyChans.eq_of_chans (State.foldl_modChan_onlyChans (g := fun _ ch => _) _ s) rfl (fun c => ?_)
    (State.foldl_modChan_signals (g := fun _ ch => _) _ s)
  rw [State.foldl_modChan_chan (g := fun _ ch => _) (allChans_nodup.filter _), State.modChans_chan]
  exact if_congr (by simp [mem_allChans]) rfl rfl

theorem State.widen_frame (s : State) (a : AlarmRef) : (s.widen a).frame =
    (s.modChans fun ch => ch.widened s.alarmOrder a).frame := by
  rw [← State.joinSets_eq]
  exact State.armAll_frame _ _

/-- Settles O54. -/
theorem escalationWidens : Obligations.EscalationWidens := by
  intro s widened
  refine ⟨fun badge w hw halarm hzero => ?_, fun slot k hk halarm hzero => ?_, fun badge hno => ?_, fun slot hno => ?_⟩
  · have hwork : s.atEvent.expireEscalation (.worker badge)
        = ((s.atEvent.modWorker badge fun w => { w with escal := none, escalated := true }).post
            (.alarmEscalated badge w.crew (((s.crew? w.crew).map (·.unit)).getD 0) w.cause)).widen (.worker badge) := by
      have hw' : s.atEvent.worker? badge = some w := hw
      simp only [State.expireEscalation, hw', halarm, hzero, and_self, if_true]
      rfl
    refine runs_event_alike (work := fun t => t.expireEscalation (.worker badge)) rfl ?_
      ((State.modChans_shape _ _).trans (State.modWorker_shape_of _ _ _ fun _ => rfl))
    rw [hwork, State.widen_frame, State.post_alarmOrder]
    exact State.modChans_frame_congr (State.post_frame _ _) (Channel.widened_frame _ _)
  · have hwork : s.atEvent.expireEscalation (.crew slot)
        = ((s.atEvent.modCrew slot fun k => { k with escal := none, escalated := true }).post
            (.alarmEscalated 0 slot k.unit k.alarmCause)).widen (.crew slot) := by
      have hk' : s.atEvent.crew? slot = some k := hk
      simp only [State.expireEscalation, hk', halarm, hzero, and_self, if_true]
    refine runs_event_alike (work := fun t => t.expireEscalation (.crew slot)) rfl ?_
      ((State.modChans_shape _ _).trans (State.modCrew_shape_of _ _ _ fun _ => rfl))
    rw [hwork, State.widen_frame, State.post_alarmOrder]
    exact State.modChans_frame_congr (State.post_frame _ _) (Channel.widened_frame _ _)
  · refine runs_event_effect rfl ?_ rfl rfl rfl rfl
    cases hw : s.worker? badge with
    | none =>
      have hw' : s.atEvent.worker? badge = none := hw
      simp only [State.expireEscalation, hw']
    | some w =>
      have hw' : s.atEvent.worker? badge = some w := hw
      simp only [State.expireEscalation, hw']
      exact if_neg fun ⟨ha, he⟩ => (hno w hw).elim (· ha) (· he)
  · refine runs_event_effect rfl ?_ rfl rfl rfl rfl
    cases hk : s.crew? slot with
    | none =>
      have hk' : s.atEvent.crew? slot = none := hk
      simp only [State.expireEscalation, hk']
    | some k =>
      have hk' : s.atEvent.crew? slot = some k := hk
      simp only [State.expireEscalation, hk']
      exact if_neg fun ⟨ha, he⟩ => (hno k hk).elim (· ha) (· he)

end Sys2Proof.Machine
end

section
/-! Alarms that enter: the worker's and the crew's alarm up to traffic, and the expiry of the grace. -/

namespace Sys2Proof.Machine

/-! ### An alarm enters (R114, R118, R119) -/

/-- A channel after an alarm of a crew that stands on a channel has entered (R119). -/
def Channel.entered (ch : Channel) (a : AlarmRef) (current c : Chan) : Channel :=
  if c = current ∨ a ∈ ch.alarmSet then { ch with alarmSet := ch.alarmSet.erase a ++ [a] } else ch

/-- The sets after an alarm has entered (R119), without its calls. -/
def State.enteredSets (s : State) (a : AlarmRef) (current : Chan) : State :=
  { s with
    alarmOrder := s.alarmOrder.erase a ++ [a]
    chans := ⟨(s.chan 0).entered a current 0, (s.chan 1).entered a current 1, (s.chan 2).entered a current 2,
      (s.chan 3).entered a current 3⟩ }

/-- A crew's permits that are not CLOSED after the crew's condition was reported, where an alarm of it stands (R93, R118). -/
def State.heldPermits (s : State) (slot : Nat) (was : Bool) : State :=
  { s with permits := s.permits.map fun p => if p.holder = slot ∧ p.state ≠ .closed then { p with hold := p.hold || !was } else p }

theorem State.enterSets_frame (s : State) (a : AlarmRef) (current : Chan) :
    (s.enterSets a current).frame = (s.enteredSets a current).frame := by
  have hsets : (allChans.filter fun c => c == current || (s.chan c).alarmSet.contains a).foldl
      (fun t c => t.modChan c fun ch => { ch with alarmSet := ch.alarmSet.erase a ++ [a] })
      (s.withAlarmOrder (s.alarmOrder.erase a ++ [a])) = s.enteredSets a current := by
    refine OnlyChans.eq_of_chans (s := s.withAlarmOrder (s.alarmOrder.erase a ++ [a]))
      (State.foldl_modChan_onlyChans (g := fun _ ch => _) _ _) rfl (fun c => ?_) (State.foldl_modChan_signals (g := fun _ ch => _) _ _)
    rw [State.foldl_modChan_chan (g := fun _ ch => _) (allChans_nodup.filter _)]
    have hget : (s.enteredSets a current).chan c = (s.chan c).entered a current c := by fin_cases c <;> rfl
    rw [hget]
    exact if_congr (by simp [mem_allChans]) rfl rfl
  refine (State.armAll_frame _ _).trans (congrArg State.frame hsets)

/-- Permits of one serial are one permit, where the serials rise. -/
theorem State.permit_unique {s : State} (h : rising (s.permits.map (·.serial))) {p q : Permit} (hp : p ∈ s.permits) (hq : q ∈ s.permits)
    (hserial : p.serial = q.serial) : p = q :=
  List.inj_on_of_nodup_map (h.imp fun hlt => Nat.ne_of_lt hlt) hp hq hserial

theorem State.worker_unique {s : State} (h : rising (s.workers.map (·.badge))) {w v : Worker} (hw : w ∈ s.workers) (hv : v ∈ s.workers)
    (hbadge : w.badge = v.badge) : w = v :=
  List.inj_on_of_nodup_map (h.imp fun hlt => Nat.ne_of_lt hlt) hw hv hbadge

/-- The permits of a crew that enters the alarm condition (R93). -/
theorem State.holdPermits_eq {s : State} (h : rising (s.permits.map (·.serial))) (slot : Nat) :
    s.holdPermits slot = s.heldPermits slot false := by
  have hfold : ∀ (l : List Nat) (t : State), l.foldl (fun t serial => t.modPermit serial fun p => { p with hold := true }) t
      = { t with permits := t.permits.map fun p => if p.serial ∈ l then { p with hold := true } else p } := by
    intro l
    induction l with
    | nil => intro t; simp
    | cons n l ih =>
      intro t
      rw [List.foldl_cons, ih]
      have hone : ∀ p : Permit, (if (if p.serial = n then { p with hold := true } else p).serial ∈ l then
            { (if p.serial = n then { p with hold := true } else p : Permit) with hold := true }
          else if p.serial = n then { p with hold := true } else p) = if p.serial ∈ n :: l then { p with hold := true } else p := by
        intro p
        by_cases hn : p.serial = n <;> by_cases hl : p.serial ∈ l <;> simp [hn, hl]
      simp only [State.modPermit, tMod, List.map_map, Function.comp_def, hone]
  rw [State.holdPermits, hfold, State.heldPermits]
  have hmap : ∀ p ∈ s.permits, (if p.serial ∈ s.heldBy slot then { p with hold := true } else p)
      = if p.holder = slot ∧ p.state ≠ .closed then { p with hold := p.hold || !false } else p := by
    intro p hp
    have hmem : p.serial ∈ s.heldBy slot ↔ p.holder = slot ∧ p.state ≠ .closed := by
      simp only [State.heldBy, List.mem_map, List.mem_filter, Bool.and_eq_true, beq_iff_eq, bne_iff_ne]
      constructor
      · rintro ⟨q, ⟨hq, hheld⟩, hserial⟩
        rwa [State.permit_unique h hq hp hserial] at hheld
      · exact fun hheld => ⟨p, ⟨hp, hheld⟩, rfl⟩
    simp only [hmem, Bool.not_false, Bool.or_true]
  rw [List.map_congr_left hmap]

theorem State.heldPermits_true (s : State) (slot : Nat) : s.heldPermits slot true = s := by
  simp [State.heldPermits]

/-- Whether an alarm of a crew stands does not depend on the traffic. -/
theorem State.inAlarm_of_frame {s t : State} (h : s.frame = t.frame) (slot : Nat) : s.inAlarm slot = t.inAlarm slot := by
  have hworkers : s.workers.map Worker.frame = t.workers.map Worker.frame := congrArg State.workers h
  have hcrews : s.crews.map Crew.frame = t.crews.map Crew.frame := congrArg State.crews h
  have hw : ∀ u : State, (u.workers.any fun w => w.crew == slot && w.watch.inAlarm)
      = (u.workers.map Worker.frame).any fun w => w.crew == slot && w.watch.inAlarm := fun u => by
    rw [List.any_map]; rfl
  have hk : ∀ u : State, ((u.crew? slot).any fun k => k.alarm != .none)
      = (tFind Crew.slot slot (u.crews.map Crew.frame)).any fun k => k.alarm != .none := fun u => by
    rw [tFind_map_of Crew.slot slot Crew.frame _ Crew.frame_slot, Option.any_map]; rfl
  rw [State.inAlarm, State.inAlarm, hw, hk, hworkers, hcrews, ← hk, ← hw]

/-- The holds respect frames. -/
theorem State.heldPermits_frame_congr {s t : State} (h : s.frame = t.frame) (slot : Nat) (was : Bool) :
    (s.heldPermits slot was).frame = (t.heldPermits slot was).frame := by
  have hpermits : s.permits.map Permit.frame = t.permits.map Permit.frame := congrArg State.permits h
  have hone : ∀ u : State, (u.permits.map fun p =>
        if p.holder = slot ∧ p.state ≠ .closed then { p with hold := p.hold || !was } else p).map Permit.frame
      = (u.permits.map Permit.frame).map fun p =>
        if p.holder = slot ∧ p.state ≠ .closed then { p with hold := p.hold || !was } else p := fun u => by
    rw [List.map_map, List.map_map]
    refine List.map_congr_left fun p _ => ?_
    simp only [Function.comp_apply, apply_ite Permit.frame]
    rfl
  have hheld : ∀ u : State, (u.heldPermits slot was).frame = { u.frame with permits := (u.permits.map Permit.frame).map fun p =>
      if p.holder = slot ∧ p.state ≠ .closed then { p with hold := p.hold || !was } else p } := fun u => by
    rw [← hone u]; rfl
  rw [hheld, hheld, hpermits, h]

/-- A crew's condition reported while an alarm of it stands (R118). -/
theorem State.reportCondition_frame {s : State} (h : rising (s.permits.map (·.serial))) {slot : Nat} (was : Bool)
    (halarm : s.inAlarm slot = true) : (s.reportCondition slot was).frame = (s.heldPermits slot was).frame := by
  cases was with
  | true => simp only [State.reportCondition, halarm, State.heldPermits_true]
  | false => simp only [State.reportCondition, halarm, State.holdPermits_eq h]

theorem Channel.entered_frame (ch : Channel) (a : AlarmRef) (current c : Chan) :
    (ch.entered a current c).frame = ch.frame.entered a current c := by
  rw [Channel.entered, apply_ite Channel.frame]
  rfl

/-- The sets respect frames. -/
theorem State.enteredSets_frame_congr {s t : State} (h : s.frame = t.frame) (a : AlarmRef) (current : Chan) :
    (s.enteredSets a current).frame = (t.enteredSets a current).frame := by
  have hentered : ∀ u : State, (u.enteredSets a current).frame =
      { u.frame with
        alarmOrder := u.frame.alarmOrder.erase a ++ [a]
        chans := ⟨(u.chan 0).frame.entered a current 0, (u.chan 1).frame.entered a current 1, (u.chan 2).frame.entered a current 2,
          (u.chan 3).frame.entered a current 3⟩ } := fun u => by
    simp only [← Channel.entered_frame]; rfl
  rw [hentered, hentered]
  simp only [State.chan_frame_of_frame h, h]

/-- The serials do not depend on the traffic. -/
theorem State.serials_of_frame {s t : State} (h : s.frame = t.frame) : s.permits.map (·.serial) = t.permits.map (·.serial) :=
  congrArg Shape.serials (State.shape_of_frame h)

/-- What an alarm makes of a worker (R114). -/
def Worker.alarmed (w : Worker) (cause : AlarmCause) (escal : Nat) : Worker :=
  { w with
    watch := .alarm, cause := some cause, escal := some escal, escalated := false, remaining := none, graceLeft := none }

/-- What an alarm makes of a crew (R114). -/
def Crew.alarmed (k : Crew) (cause : AlarmCause) (escal : Nat) : Crew :=
  { k with alarm := .raised, alarmCause := some cause, escal := some escal, escalated := false }

theorem State.worker?_modWorker {s : State} {n : Nat} {f : Worker → Worker} {w : Worker} (hf : ∀ w, (f w).badge = w.badge)
    (hw : s.worker? n = some w) : (s.modWorker n f).worker? n = some (f w) :=
  (tFind_tMod_same Worker.badge n f s.workers hf).trans (congrArg (Option.map f) hw)

theorem State.crew?_modCrew {s : State} {n : Nat} {f : Crew → Crew} {k : Crew} (hf : ∀ k, (f k).slot = k.slot)
    (hk : s.crew? n = some k) : (s.modCrew n f).crew? n = some (f k) :=
  (tFind_tMod_same Crew.slot n f s.crews hf).trans (congrArg (Option.map f) hk)

theorem State.modWorker_modWorker (s : State) (n : Nat) {f : Worker → Worker} (g : Worker → Worker) (hf : ∀ w, (f w).badge = w.badge) :
    (s.modWorker n f).modWorker n g = s.modWorker n fun w => g (f w) := by
  have htwo : ∀ w : Worker, (if (if w.badge = n then f w else w).badge = n then g (if w.badge = n then f w else w)
      else if w.badge = n then f w else w) = if w.badge = n then g (f w) else w := fun w => by
    by_cases hw : w.badge = n <;> simp [hw, hf]
  simp only [State.modWorker, tMod, List.map_map, Function.comp_def, htwo]

theorem State.inAlarm_of_worker {s : State} {badge : Nat} {w : Worker} (hw : s.worker? badge = some w) (halarm : w.watch = .alarm) :
    s.inAlarm w.crew = true := by
  have hany : (s.workers.any fun v => v.crew == w.crew && v.watch.inAlarm) = true :=
    List.any_eq_true.2 ⟨w, (tFind_some Worker.badge hw).2, by simp [halarm, WatchState.inAlarm]⟩
  rw [State.inAlarm, hany, Bool.true_or]

theorem State.inAlarm_of_crew {s : State} {slot : Nat} {k : Crew} (hk : s.crew? slot = some k) (halarm : k.alarm ≠ .none) :
    s.inAlarm slot = true := by
  have hany : ((s.crew? slot).any fun k => k.alarm != .none) = true := by simp [hk, halarm]
  rw [State.inAlarm, hany, Bool.or_true]

theorem State.inAlarm_modWorker {s : State} {n : Nat} {f : Worker → Worker} (hf : ∀ w, ((f w).crew, (f w).watch) = (w.crew, w.watch))
    (slot : Nat) : (s.modWorker n f).inAlarm slot = s.inAlarm slot := by
  have hone : ∀ w, (if w.badge = n then f w else w).crew = w.crew ∧ (if w.badge = n then f w else w).watch = w.watch := fun w => by
    split
    · exact Prod.mk.inj (hf w)
    · exact ⟨rfl, rfl⟩
  simp only [State.inAlarm, State.modWorker, tMod, List.any_map, Function.comp_def, hone]
  rfl

/-- An alarm that has entered brings its crew's permits under hold, where none stood before (R118, R119). -/
theorem State.entered_report_frame {s t : State} (h : t.frame = s.frame) (hserials : rising (s.permits.map (·.serial))) (a : AlarmRef)
    (current : Chan) {slot : Nat} (was : Bool) (halarm : s.inAlarm slot = true) :
    ((t.enterSets a current).reportCondition slot was).frame = ((s.enteredSets a current).heldPermits slot was).frame := by
  have hsets : (t.enterSets a current).frame = (s.enteredSets a current).frame :=
    (t.enterSets_frame a current).trans (State.enteredSets_frame_congr h a current)
  have hstands : (t.enterSets a current).inAlarm slot = true := (State.inAlarm_of_frame hsets slot).trans halarm
  have hrising : rising ((t.enterSets a current).permits.map (·.serial)) := by
    rw [State.serials_of_frame hsets]; exact hserials
  exact (State.reportCondition_frame hrising was hstands).trans (State.heldPermits_frame_congr hsets slot was)

/-- A worker's alarm, up to traffic (R114). -/
theorem State.workerAlarm_frame {s : State} {badge : Nat} (cause : AlarmCause) {w : Worker} {k : Crew} (hw : s.worker? badge = some w)
    (hk : s.crew? w.crew = some k) (hwatch : w.watch ≠ .alarm) (hserials : rising (s.permits.map (·.serial))) :
    (s.workerAlarm badge cause).frame =
      (((s.modWorker badge fun w => w.alarmed cause s.params.escalationTime).enteredSets (.worker badge) k.current).heldPermits k.slot
        (s.inAlarm k.slot)).frame := by
  have hslot : k.slot = w.crew := State.slot_of_crew? hk
  simp only [State.workerAlarm, hw, hk]
  rw [if_neg hwatch]
  refine State.entered_report_frame ?_ (show rising ((s.modWorker badge _).permits.map (·.serial)) from hserials) _ _ _ ?_
  · rw [State.post_frame, State.modWorker_frame_congr (State.strike_frame _ _ _) _ fun _ => rfl]
    refine (congrArg State.frame (State.modWorker_modWorker s badge _ ?_)).trans (State.modWorker_frame_ext _ fun w => ?_)
    · intro; rfl
    · rfl
  · rw [hslot]
    exact State.inAlarm_of_worker (w := w.alarmed cause s.params.escalationTime)
      (State.worker?_modWorker (f := fun w => w.alarmed cause s.params.escalationTime) (fun _ => rfl) hw) rfl

/-- A crew's alarm, up to traffic (R114). -/
theorem State.crewAlarm_frame {s : State} {slot : Nat} (cause : AlarmCause) {k : Crew} (hk : s.crew? slot = some k)
    (halarm : k.alarm ≠ .raised) (hserials : rising (s.permits.map (·.serial))) :
    (s.crewAlarm slot cause).frame =
      (((s.modCrew slot fun k => k.alarmed cause s.params.escalationTime).enteredSets (.crew slot) k.current).heldPermits slot
        (s.inAlarm slot)).frame := by
  simp only [State.crewAlarm, hk]
  rw [if_neg halarm]
  refine State.entered_report_frame (State.post_frame _ _) (show rising ((s.modCrew slot _).permits.map (·.serial)) from hserials) _ _ _ ?_
  exact State.inAlarm_of_crew (State.crew?_modCrew (fun _ => rfl) hk) nofun

theorem State.expireGrace_of_due {s : State} {badge : Nat} {w : Worker} (hw : s.worker? badge = some w) (hdue : w.watch = .due)
    (hzero : w.graceLeft = some 0) :
    s.expireGrace badge = (s.modWorker badge fun w => { w with missed := min 15 (w.missed + 1) }).workerAlarm badge .timeout := by
  simp only [State.expireGrace, hw, hdue, hzero, and_self, if_true]

/-- Settles O53: the alarm of the worker, its sets and the holds are the frame of one state; the rest is traffic. -/
theorem graceExpiryRaisesAlarm : Obligations.GraceExpiryRaisesAlarm := by
  intro badge s
  constructor
  · intro w k hinv hw hk hdue hzero entered
    obtain ⟨-, ⟨-, ⟨hbadges, -⟩, -, -, hserials, -⟩, -⟩ := hinv
    have hslot : k.slot = w.crew := State.slot_of_crew? hk
    have hmissed : (s.atEvent.modWorker badge fun w => { w with missed := min 15 (w.missed + 1) }).worker? badge
        = some { w with missed := min 15 (w.missed + 1) } :=
      State.worker?_modWorker (s := s.atEvent) (f := fun w => { w with missed := min 15 (w.missed + 1) }) (fun _ => rfl) hw
    have hwatch : ({ w with missed := min 15 (w.missed + 1) } : Worker).watch ≠ .alarm := by simp [hdue]
    refine runs_event_alike rfl ?_ ?_
    · rw [State.expireGrace_of_due (s := s.atEvent) hw hdue hzero,
        State.workerAlarm_frame .timeout hmissed hk hwatch hserials]
      have hin : (s.atEvent.modWorker badge fun w => { w with missed := min 15 (w.missed + 1) }).inAlarm k.slot = s.inAlarm k.slot :=
        State.inAlarm_modWorker (s := s.atEvent) (f := fun w => { w with missed := min 15 (w.missed + 1) }) (fun _ => rfl) k.slot
      have hworkers : s.workers.map (fun w' => if w'.badge = badge then
            { w' with
              watch := .alarm, missed := min 15 (w.missed + 1), cause := some .timeout
              escal := some s.params.escalationTime, escalated := false, remaining := none, graceLeft := none }
          else w')
          = ((s.modWorker badge fun w => { w with missed := min 15 (w.missed + 1) }).modWorker badge fun w =>
              w.alarmed .timeout s.params.escalationTime).workers := by
        rw [State.modWorker_modWorker s badge _ (by intro; rfl)]
        refine List.map_congr_left fun w' hw' => ?_
        split_ifs with hbadge
        · rw [State.worker_unique hbadges hw' (tFind_some Worker.badge hw).2 (hbadge.trans (State.badge_of_worker? hw).symm)]
          rfl
        · rfl
      rw [hin, hworkers]
      rfl
    · simp only [State.shape, List.map_map, Function.comp_def, apply_ite Worker.badge, apply_ite Permit.serial, ite_self]
  · intro hno
    refine runs_event_effect rfl ?_ rfl rfl rfl rfl
    cases hw : s.worker? badge with
    | none =>
      have hw' : s.atEvent.worker? badge = none := hw
      simp only [State.expireGrace, hw']
    | some w =>
      have hw' : s.atEvent.worker? badge = some w := hw
      simp only [State.expireGrace, hw']
      exact if_neg fun ⟨ha, he⟩ => (hno w hw).elim (· ha) (· he)

end Sys2Proof.Machine
end

section
/-!
What the traffic of telegrams spares: one rule for each of its operations, up to the space signals.
-/

namespace Sys2Proof.Machine

/-! ### Properties that the traffic of telegrams spares

Which telegrams traffic moves is told by their owners. A property of the state is spared by the traffic of some owners when every change
that this traffic makes keeps it, and when it leaves no other owner with anything to offer, to be evicted or to be displaced. -/

/-- What traffic changes of an order. -/
def Order.trafficked (o o' : Order) : Prop :=
  o' = { o with state := o'.state, deferral := o'.deferral, acceptance := o'.acceptance, unanswered := o'.unanswered, link := o'.link }
    ∧ o'.state.movable = true ∧ (o'.state = .blocked → o.state = .blocked)

/-- What comes back to an owner with an entry is a telegram that traffic may move (R167), or one of an order that is never SENT, which
nothing brings back. -/
structure Entry.ComesBack (may : Owner → Prop) (P : State → Prop) (e : Entry) : Prop where
  order  : ∀ n, e.owner = .order n → may (.order n) ∨ ∀ t o, P t → t.order? n = some o → o.state ≠ .sent
  prompt : ∀ slot, e.owner = .prompt slot → may (.prompt slot)
  linked : e.linked = true → (∀ n, e.owner ≠ .order n) → may e.owner

/-- An entry that an owner offers as the state stands (R162). -/
structure Entry.Fresh (may : Owner → Prop) (s : State) (e : Entry) : Prop where
  owner  : may e.owner
  waits  : e.inFlight = false
  kept   : e.orphan = false
  linked : e.linked = true
  crew   : ∀ slot, e.addr.slot? = some slot → (s.crew? slot).isSome

theorem Entry.Fresh.of_crews {may : Owner → Prop} {s t : State} {e : Entry} (h : e.Fresh may s) (hcrews : t.crews = s.crews) :
    e.Fresh may t :=
  ⟨h.owner, h.waits, h.kept, h.linked, fun slot ha => by
    have hk := h.crew slot ha
    rwa [State.crew?, ← hcrews] at hk⟩

/-- What an offer of SAFETY, ORDER or TEXT class evicts (R166). -/
theorem evicted_of_verdict {ch : Channel} {cls : TgClass} {kind : TgKind} (hcls : cls ≠ .emergency) {v : Entry}
    (hv : verdict ch cls kind = .ok (some v)) :
    v ∈ ch.queue ∧ v.inFlight = false ∧ (v.cls = .text ∨ v.cls = .order ∨ v.kind = .checkPrompt) := by
  have hfull : 24 ≤ ch.queue.length := by
    by_contra hroom
    unfold verdict at hv
    rw [if_pos (Nat.not_le.1 hroom)] at hv
    cases cls with
    | emergency => cases hv
    | safety => cases hv
    | order => simp only at hv; split at hv <;> cases hv
    | text => simp only at hv; split at hv <;> cases hv
  have hnewest : ∀ p : Entry → Bool, newest p ch.queue = some v → v ∈ ch.queue ∧ v.inFlight = false ∧ p v = true := by
    intro p hp
    obtain ⟨front, back, hq, hwait, hpv, -⟩ := newest_eq_some hp
    exact ⟨hq ▸ by simp, hwait, hpv⟩
  have hvictim := victim_of_verdict hfull hv
  cases cls with
  | emergency => exact absurd rfl hcls
  | order => cases hvictim
  | text => cases hvictim
  | safety =>
    simp only [victim, Option.or_eq_some_iff] at hvictim
    rcases hvictim with htext | ⟨-, horder | ⟨-, hprompt⟩⟩
    · obtain ⟨hmem, hwait, hc⟩ := hnewest _ htext
      exact ⟨hmem, hwait, .inl (by simpa using hc)⟩
    · obtain ⟨hmem, hwait, hc⟩ := hnewest _ horder
      exact ⟨hmem, hwait, .inr (.inl (by simpa using hc))⟩
    · split at hprompt
      · cases hprompt
      · obtain ⟨hmem, hwait, hc⟩ := hnewest _ hprompt
        exact ⟨hmem, hwait, .inr (.inr (by simpa using hc))⟩

/-- The head of a crew queue is an order of the table. -/
theorem State.headOf_eq {s : State} {k : Crew} {o : Order} (h : s.headOf k = some o) :
    k.queue.head? = some o.number ∧ s.order? o.number = some o := by
  obtain ⟨n, hn, ho⟩ := Option.bind_eq_some_iff.1 h
  rw [State.number_of_order? ho]
  exact ⟨hn, ho⟩

/-- The head that an EMERGENCY order stands behind (R36). -/
theorem State.emergencySecond_eq {s : State} {k : Crew} {h e : Order} (hs : s.emergencySecond k = some (h, e)) :
    ∃ rest, k.queue = h.number :: e.number :: rest ∧ s.order? h.number = some h ∧ s.order? e.number = some e
      ∧ e.priority = .emergency ∧ h.priority ≠ .emergency := by
  unfold State.emergencySecond at hs
  split at hs
  next m n rest hq =>
    split at hs
    next ho eo hho heo =>
      split at hs
      next hprio =>
        cases hs
        rw [State.number_of_order? hho, State.number_of_order? heo]
        exact ⟨rest, hq, hho, heo, hprio⟩
      next => cases hs
    next => cases hs
  next => cases hs

/-- A change of an order that keeps its number and its priority keeps every priority. -/
theorem State.modOrder_priority {s : State} (m n : Nat) {f : Order → Order} (hf : ∀ o, (f o).number = o.number ∧ (f o).priority = o.priority) :
    ((s.modOrder m f).order? n).map (·.priority) = (s.order? n).map (·.priority) := by
  by_cases hn : n = m
  · subst hn
    rw [State.order?, State.modOrder, tFind_tMod_same Order.number n f _ fun o => (hf o).1, Option.map_map]
    exact congrArg (Option.map · _) (funext fun o => (hf o).2)
  · rw [State.order?, State.modOrder, tFind_tMod_other Order.number f _ (fun o => (hf o).1) hn]
    rfl

/-- Whether an EMERGENCY order stands second is told by the queue and the priorities. -/
theorem State.emergencySecond_isSome_iff {s : State} {k : Crew} : (s.emergencySecond k).isSome ↔
    ∃ h e rest ph pe, k.queue = h :: e :: rest ∧ (s.order? h).map (·.priority) = some ph ∧ (s.order? e).map (·.priority) = some pe
      ∧ pe = .emergency ∧ ph ≠ .emergency := by
  constructor
  · intro h
    obtain ⟨⟨ho, eo⟩, hsome⟩ := Option.isSome_iff_exists.1 h
    obtain ⟨rest, hqueue, hho, heo, hprio⟩ := State.emergencySecond_eq hsome
    exact ⟨_, _, rest, _, _, hqueue, by rw [hho]; rfl, by rw [heo]; rfl, hprio⟩
  · rintro ⟨h, e, rest, ph, pe, hqueue, hh, he, hprio⟩
    obtain ⟨ho, hho, rfl⟩ := Option.map_eq_some_iff.1 hh
    obtain ⟨eo, heo, rfl⟩ := Option.map_eq_some_iff.1 he
    simp only [State.emergencySecond, hqueue, hho, heo, if_pos hprio, Option.isSome_some]

theorem State.emergencySecond_isSome_congr {s t : State} {k : Crew} (h : ∀ n, (t.order? n).map (·.priority) = (s.order? n).map (·.priority)) :
    (t.emergencySecond k).isSome = (s.emergencySecond k).isSome := by
  rw [Bool.eq_iff_iff, State.emergencySecond_isSome_iff, State.emergencySecond_isSome_iff]
  simp only [h]

/-- A property that does not turn on the notices is kept by every one posted. -/
theorem posted_of_notices {P : State → Prop}
    (h : ∀ (s : State) (notices : List Notice) (overflow : Bool), P s → P { s with notices := notices, overflow := overflow })
    (s : State) (n : Subject) (_ : n.isAlarm = false) (hs : P s) : P (s.post n) := by
  unfold State.post
  split
  · exact h s _ _ hs
  · split
    · split
      · exact h s _ _ hs
      · exact h s _ _ hs
    · exact h s _ _ hs

/-- A property that the traffic of the owners that may move their telegrams spares. -/
structure Spares (may : Owner → Prop) (P : State → Prop) : Prop where
  posted : ∀ (s : State) (n : Subject), n.isAlarm = false → P s → P (s.post n)
  quiet : ∀ (s : State) (owed : List Nat) (signals : List Chan) (choices : Nat), P s →
    P { s with owed := owed, signals := signals, choices := choices }
  marks : ∀ (s : State) (c : Chan) (f : Channel → Channel), (∀ ch : Channel, f ch =
      { ch with flowHold := (f ch).flowHold, permitDefer := (f ch).permitDefer, orderDefer := (f ch).orderDefer }) → P s → P (s.modChan c f)
  crew : ∀ (s : State) (slot : Nat) (f : Crew → Crew), (∀ k : Crew, f k = { k with outSeq := (f k).outSeq, waitingFor := (f k).waitingFor }) →
    P s → P (s.modCrew slot f)
  enter : ∀ (s : State) (c : Chan) (e : Entry), e.Fresh may s → P s → P (s.modChan c fun ch =>
    { ch with queue := insertEntry { e with admission := ch.admissions } ch.queue, admissions := ch.admissions + 1 })
  leave : ∀ (s : State) (c : Chan) (e : Entry), e ∈ (s.chan c).queue → e.inFlight = false →
    e.cls = .text ∨ e.cls = .order ∨ e.kind = .checkPrompt → e.ComesBack may P → P s →
    P (s.modChan c fun ch => { ch with queue := ch.queue.erase e })
  drop : ∀ (s : State) (c : Chan) (n : Nat), may (.order n) → P s →
    P (s.modChan c fun ch => { ch with queue := ch.queue.filter fun e => !(!e.inFlight && e.owner == .order n) })
  order : ∀ (s : State) (n : Nat) (st : OrderState) (f : Order → Order), may (.order n) → st.movable = true → (∀ o : Order, o.state = st → o.trafficked (f o)) →
    P s → P (s.modOrderIn n st f)
  followUp : ∀ (s : State) (n : Nat) (st : FollowStatus), may (.followUp n) → P s →
    P (s.modOrder n fun o => { o with followUp := o.followUp.map fun f => (f.1, st) })
  permit : ∀ (s : State) (serial : Nat) (tg : PermitTg) (st : TgStatus), may (.permit tg serial) → P s → P (s.modPermit serial fun p => p.setTg tg st)
  mark : ∀ (s : State) (serial : Nat) (d : Permit → Bool), P s → P (s.modPermit serial fun p => { p with deferred := d p })
  prompt : ∀ (s : State) (slot : Nat) (body : Body) (st : PromptStatus), may (.prompt slot) → P s → P (s.setPrompts slot body st)
  reorder : ∀ (s : State) (slot : Nat) (k : Crew) (n : Nat) (f : Crew → Crew), s.crew? slot = some k → k.queue.head? = some n →
    (s.emergencySecond k).isSome → may (.order n) →
    (∀ k : Crew, f k = { k with queue := (f k).queue, waitingFor := (f k).waitingFor } ∧ (f k).queue.Perm k.queue) →
    P s → P (s.modCrew slot f)
  respond : ∀ (s : State) (tag : Byte) (status : Status) (results : List Byte), P s → P (s.respond tag status results)
  settle : ∀ (s : State), P s → P s.settle
  headDue : ∀ (s : State) (slot : Nat) (k : Crew) (n : Nat) (o : Order), P s → s.crew? slot = some k → k.queue.head? = some n →
    s.order? n = some o → o.state = .assigned → may (.order n)
  followUpDue : ∀ (s : State) (n : Nat) (o : Order) (kind : FollowKind), P s → s.order? n = some o → o.followUp = some (kind, .owed) → may (.followUp n)
  permitDue : ∀ (s : State) (serial : Nat) (tg : PermitTg) (p : Permit), P s → s.permit? serial = some p → p.tg? tg = some .deferred → may (.permit tg serial)
  displaced : ∀ (s : State) (slot : Nat) (k : Crew) (h e : Order), P s → s.crew? slot = some k → s.emergencySecond k = some (h, e) →
    h.state.movable = true → may (.order h.number)
  evicted : ∀ (s : State) (c : Chan) (e : Entry), P s → e ∈ (s.chan c).queue → e.inFlight = false →
    e.cls = .text ∨ e.cls = .order ∨ e.kind = .checkPrompt → e.ComesBack may P

section
variable {may : Owner → Prop} {P : State → Prop} (hP : Spares may P) {s : State} (hs : P s)
include hP hs

theorem Spares.post (n : Subject) (hn : n.isAlarm = false) : P (s.post n) := hP.posted s n hn hs

theorem Spares.withOwed (l : List Nat) : P (s.withOwed l) := hP.quiet s l s.signals s.choices hs

theorem Spares.withSignals (l : List Chan) : P (s.withSignals l) := hP.quiet s s.owed l s.choices hs

theorem Spares.chosen (n : Nat) : P { s with choices := n } := hP.quiet s s.owed s.signals n hs

theorem Spares.signal (c : Chan) : P (s.signal c) := by
  unfold State.signal
  split
  · exact hs
  · exact hP.withSignals hs _

theorem Spares.flowEval (c : Chan) : P (s.flowEval c) := by
  unfold State.flowEval
  split
  · exact hP.marks _ _ _ (fun _ => rfl) hs
  · split
    · exact hP.signal (hP.marks _ _ _ (fun _ => rfl) hs) c
    · exact hs

theorem Spares.syncOrderDefer (slot : Nat) : P (s.syncOrderDefer slot) := by
  unfold State.syncOrderDefer
  split
  · exact hs
  · split
    · split
      · exact hs
      · exact hP.marks _ _ _ (fun _ => rfl) hs
    · exact hP.marks _ _ _ (fun _ => rfl) hs

theorem Spares.syncPermitDefer (serial : Nat) : P (s.syncPermitDefer serial) := by
  have hmark := hP.mark s serial Permit.anyDeferred hs
  unfold State.syncPermitDefer
  split
  · exact hs
  · split
    · exact hmark
    · split
      · split
        · exact hmark
        · exact hP.marks _ _ _ (fun _ => rfl) hmark
      · exact hP.marks _ _ _ (fun _ => rfl) hmark

theorem Spares.setTg {serial : Nat} {tg : PermitTg} (hmay : may (.permit tg serial)) (st : TgStatus) : P (s.setTg serial tg st) :=
  hP.syncPermitDefer (hP.permit s serial tg st hmay hs) serial

theorem Spares.oweFollowUp {n : Nat} (hmay : may (.followUp n)) : P (s.oweFollowUp n) := by
  have hone := hP.followUp s n .owed hmay hs
  unfold State.oweFollowUp
  split
  · exact hs
  · dsimp only
    have htwo := hP.withOwed hone
    split
    · split
      · exact hP.syncOrderDefer hone _
      · exact hP.syncOrderDefer (htwo _) _
    · split
      · exact hone
      · exact htwo _

theorem Spares.setFollowUp {n : Nat} (hmay : may (.followUp n)) (st : FollowStatus) : P (s.setFollowUp n st) := by
  have hone := hP.followUp s n st hmay hs
  unfold State.setFollowUp
  split
  · exact hs
  · dsimp only
    have htwo := hP.withOwed hone
    split
    · exact hP.syncOrderDefer (htwo _) _
    · exact htwo _

theorem Spares.textResult (c : Chan) (e : Entry) (r : TextOutcome) : P (s.textResult c e r) := by
  unfold State.textResult
  split
  · split
    · exact hP.post hs _ rfl
    · exact hP.post hs _ rfl
  · exact hs

theorem Spares.withdrawOrderOn {n : Nat} (hmay : may (.order n)) (c : Chan) : P (s.withdrawOn c fun e => e.owner == .order n) := by
  unfold State.withdrawOn
  split
  · exact hP.signal (hP.flowEval (hP.drop s c n hmay hs) c) c
  · exact hs

end

section
variable {may : Owner → Prop} {P : State → Prop} (hP : Spares may P)
include hP

theorem Spares.withdrawOrder {n : Nat} (hmay : may (.order n)) {s : State} (hs : P s) : P (s.withdraw fun e => e.owner == .order n) :=
  List.foldlRecOn _ _ hs fun _ ht c _ => hP.withdrawOrderOn ht hmay c

/-- A fresh entry takes its crew's sequence (R17). -/
theorem Spares.takeSeq {s : State} (hs : P s) {e : Entry} (hfresh : e.Fresh may s) :
    P (s.takeSeq e).1 ∧ (s.takeSeq e).2.Fresh may (s.takeSeq e).1 := by
  obtain ⟨howner, hwaits, hkept, hlinked, hcrew⟩ := hfresh
  unfold State.takeSeq
  split
  next slot unit haddr =>
    split
    next k hk =>
      refine ⟨hP.crew s slot _ (fun _ => rfl) hs, howner, hwaits, hkept, hlinked, fun j hj => ?_⟩
      have hsome := hcrew j hj
      rw [State.crew?, State.modCrew, tFind_tMod Crew.slot _ _ _ _ (by intro; rfl), Option.isSome_map]
      exact hsome
    next => exact ⟨hs, howner, hwaits, hkept, hlinked, hcrew⟩
  next => exact ⟨hs, howner, hwaits, hkept, hlinked, hcrew⟩

/-! #### Offers -/

section
variable {check : State → Nat → State} (hc : ∀ t slot, P t → P (check t slot)) {s : State} (hs : P s)
include hc hs

theorem Spares.setBack {n : Nat} (hmay : may (.order n) ∨ ∀ t o, P t → t.order? n = some o → o.state ≠ .sent) (r : Deferral) :
    P (s.setBack check n r) := by
  unfold State.setBack
  split
  · exact hs
  next o ho =>
    split
    next hsent =>
      have hback : P (s.modOrderIn n .sent fun o => { o with state := .assigned, link := none, deferral := some r, unanswered := false }) :=
        hP.order s n .sent _ (hmay.resolve_right fun hno => hno s o hs ho hsent) rfl (fun o _ => ⟨rfl, rfl, nofun⟩) hs
      dsimp only
      split
      · exact hc _ _ (hP.syncOrderDefer (hP.post hback _ rfl) _)
      · exact hP.post hback _ rfl
    next => exact hs

theorem Spares.returnToOwner {e : Entry} (hback : e.ComesBack may P) (c : Chan) (r : Deferral) (d : DropReason) : P (s.returnToOwner check c e r d) := by
  obtain ⟨horder, hprompt, hlinked⟩ := hback
  unfold State.returnToOwner
  split
  next n hown => exact hP.setBack hc hs (horder n hown) r
  next n hown =>
    split
    next hl => exact hP.oweFollowUp hs (hown ▸ hlinked hl (by rw [hown]; nofun))
    next => exact hs
  next tg serial hown =>
    split
    next hl => exact hP.setTg hs (hown ▸ hlinked hl (by rw [hown]; nofun)) _
    next => exact hs
  next slot hown => exact hP.prompt s slot e.body _ (hprompt slot hown) hs
  next => exact hP.textResult hs c e _
  next => exact hs
  next => exact hs


/-- What an offer evicts (R166). -/
theorem Spares.offerWith {e : Entry} (hfresh : e.Fresh may s) (hcls : e.cls ≠ .emergency) (c : Chan) {yes : State → State}
    {no : State → Deferral → State} (hyes : ∀ t, P t → P (yes t)) (hno : ∀ t r, P t → P (no t r)) :
    P (s.offerWith check c e true yes no) := by
  have hadmit : ∀ t, P t → t.crews = s.crews → P ((t.takeSeq e).1.enqueue c (t.takeSeq e).2) := by
    intro t ht hcrews
    obtain ⟨hp, hf⟩ := hP.takeSeq ht (hfresh.of_crews hcrews)
    exact hP.flowEval (hP.enter _ c _ hf hp) c
  unfold State.offerWith State.tryAdmit
  cases hv : verdict (s.chan c) e.cls e.kind with
  | error r => exact hno s r hs
  | ok v =>
    cases v with
    | none => exact hyes _ (hadmit s hs rfl)
    | some v =>
      obtain ⟨hmem, hwait, hweak⟩ := evicted_of_verdict hcls hv
      have hback := hP.evicted s c v hs hmem hwait hweak
      exact hP.returnToOwner hc (hyes _ (hadmit _ (hP.leave s c v hmem hwait hweak hback hs) rfl)) hback c _ _


/-- The head is offered: an order in ASSIGNED, or none (R28). -/
theorem Spares.offerHeadWith (slot : Nat) : P (s.offerHeadWith check slot) := by
  unfold State.offerHeadWith
  split
  · exact hs
  next k hk =>
    split
    · exact hs
    next o ho =>
      split
      next hassigned =>
        have hmay : may (.order o.number) := hP.headDue s slot k o.number o hs hk (State.headOf_eq ho).1 (State.headOf_eq ho).2 hassigned
        have hdefer : ∀ (t : State) (d : Deferral), P t →
            P (t.modOrderIn o.number .assigned fun o => { o with deferral := some d }) := fun t d ht =>
          hP.order t o.number .assigned _ hmay rfl (fun o' ho' => ⟨rfl, by rw [ho']; rfl, id⟩) ht
        split
        · exact hP.syncOrderDefer (hdefer s .lost hs) slot
        · refine hP.offerWith hc hs ⟨hmay, rfl, rfl, rfl, fun j hj => ?_⟩ ?_ _ (fun t ht => ?_) fun t r ht => ?_
          · cases hj
            rw [State.slot_of_crew? hk, hk]
            rfl
          · unfold orderEntry newEntry
            dsimp only
            split <;> nofun
          · exact hP.syncOrderDefer (hP.post (hP.order t o.number .assigned _ hmay rfl (fun _ _ => ⟨rfl, rfl, by nofun⟩) ht) _ rfl) slot
          · exact hP.syncOrderDefer (hdefer t r ht) slot
      · exact hs

end

/-- A head is displaced (R36). -/
theorem Spares.displaceHead {s : State} (hs : P s) {slot : Nat} {k : Crew} {h e : Order} (hk : s.crew? slot = some k)
    (hsecond : s.emergencySecond k = some (h, e)) (hst : h.state.movable = true) : P (s.displaceHead slot h) := by
  have hmay := hP.displaced s slot k h e hs hk hsecond hst
  obtain ⟨rest, hqueue, -⟩ := State.emergencySecond_eq hsecond
  have hone : P (if h.state = .sent then s.withdraw fun x => x.owner == .order h.number else s) := by
    split
    · exact hP.withdrawOrder hmay hs
    · exact hs
  have hcrews : (if h.state = .sent then s.withdraw fun x => x.owner == .order h.number else s).crews = s.crews := by
    split
    · exact (s.withdraw_onlyChans _).crews
    · rfl
  have horders : (if h.state = .sent then s.withdraw fun x => x.owner == .order h.number else s).orders = s.orders := by
    split
    · exact (s.withdraw_onlyChans _).orders
    · rfl
  unfold State.displaceHead
  generalize (if h.state = .sent then s.withdraw fun x => x.owner == .order h.number else s) = s1 at hone hcrews horders ⊢
  have htwo := hP.order s1 h.number h.state (fun o =>
    { o with state := .assigned, link := none, acceptance := none, unanswered := false, deferral := none }) hmay hst
    (fun _ _ => ⟨rfl, rfl, nofun⟩) hone
  dsimp only
  generalize hs2 : s1.modOrderIn h.number h.state (fun o =>
    { o with state := .assigned, link := none, acceptance := none, unanswered := false, deferral := none }) = s2 at htwo ⊢
  have hk2 : s2.crew? slot = some k := by
    rw [← hs2]
    exact (congrArg (tFind Crew.slot slot) hcrews).trans hk
  have hpriority : ∀ n, (s2.order? n).map (·.priority) = (s.order? n).map (·.priority) := fun n => by
    rw [← hs2, State.modOrderIn, State.modOrder_priority _ _ fun o => by split <;> exact ⟨rfl, rfl⟩, State.order?, horders]
    rfl
  have hstill : (s2.emergencySecond k).isSome := by
    rw [State.emergencySecond_isSome_congr hpriority, hsecond]
    rfl
  have hthree := hP.reorder s2 slot k h.number (fun k => { k with queue := s2.secondFirst k.queue, waitingFor := none }) hk2
    (by rw [hqueue]; rfl) hstill hmay (fun k => ⟨rfl, State.secondFirst_perm _ _⟩) htwo
  split
  · exact hthree
  · exact hP.post hthree _ rfl

theorem Spares.checkFueled (fuel : Nat) {s : State} (hs : P s) (slot : Nat) : P (State.checkFueled fuel s slot) := by
  induction fuel generalizing s slot with
  | zero => exact hs
  | succ fuel ih =>
    unfold State.checkFueled
    split
    · exact hs
    next k hk =>
      have hwaiting : ∀ w : Option (Nat × Nat), P (s.modCrew slot fun k => { k with waitingFor := w }) :=
        fun w => hP.crew s slot _ (fun _ => rfl) hs
      split
      · exact hwaiting none
      next h e hsecond =>
        have hpreempt : h.state.movable = true → P (State.offerHeadWith (State.checkFueled fuel) (s.displaceHead slot h) slot) :=
          fun hst => hP.offerHeadWith (fun t slot ht => ih ht slot) (hP.displaceHead hs hk hsecond hst) slot
        dsimp only
        split
        next hst => exact hpreempt (by rw [hst]; rfl)
        next hst _ => exact hpreempt (by rw [hst]; rfl)
        next hst _ => exact hpreempt (by rw [hst]; rfl)
        next hst _ => exact hpreempt (by rw [hst]; rfl)
        next hst _ => exact hpreempt (by rw [hst]; rfl)
        next =>
          split
          · exact hs
          · exact hP.post (hwaiting _) _ rfl
        next => exact hs

theorem Spares.check {s : State} (hs : P s) (slot : Nat) : P (s.check slot) := hP.checkFueled 65 hs slot

end

section
variable {may : Owner → Prop} {P : State → Prop} (hP : Spares may P)
include hP

/-- An offer of an owner that may (R165). -/
theorem Spares.offer {s : State} (hs : P s) {e : Entry} (hfresh : e.Fresh may s) (hcls : e.cls ≠ .emergency) (c : Chan)
    {yes : State → State} {no : State → Deferral → State} (hyes : ∀ t, P t → P (yes t)) (hno : ∀ t r, P t → P (no t r)) :
    P (s.offer c e true yes no) := hP.offerWith (fun _ slot ht => hP.check ht slot) hs hfresh hcls c hyes hno

theorem Spares.offerHead {s : State} (hs : P s) (slot : Nat) : P (s.offerHead slot) :=
  hP.check (hP.offerHeadWith (fun _ slot ht => hP.check ht slot) hs slot) slot

omit hP in
/-- An entry offered to a crew of the roster as the records stand. -/
theorem fresh_newEntry {s : State} {k : Crew} {slot : Nat} (hk : s.crew? slot = some k) {owner : Owner} (hmay : may owner) (kind : TgKind)
    (cls : TgClass) (body : Body) (repeats : Option Nat) : (newEntry owner kind cls k.addr body repeats).Fresh may s :=
  ⟨hmay, rfl, rfl, rfl, fun j hj => by cases hj; rw [State.slot_of_crew? hk, hk]; rfl⟩

theorem Spares.offerFollowUp {s : State} (hs : P s) {n : Nat} (hmay : may (.followUp n)) : P (s.offerFollowUp n) := by
  unfold State.offerFollowUp
  split
  · exact hs
  next o ho =>
    split
    next k hk =>
      obtain ⟨slot, -, hcrew⟩ := Option.bind_eq_some_iff.1 hk
      exact hP.offer hs (fresh_newEntry hcrew hmay _ .safety _ _) (by simp [newEntry]) _ (fun t ht => hP.setFollowUp ht hmay _)
        fun t _ ht => hP.oweFollowUp ht hmay
    next => exact hs

theorem Spares.offerPermit {s : State} (hs : P s) {serial : Nat} {tg : PermitTg} (hmay : may (.permit tg serial)) :
    P (s.offerPermit serial tg) := by
  unfold State.offerPermit
  split
  · exact hs
  next p hp =>
    split
    next k kind body hk _ =>
      exact hP.offer hs (fresh_newEntry hk hmay _ .safety _ _) (by simp [newEntry]) _ (fun t ht => hP.setTg ht hmay _) fun t _ ht => hP.setTg ht hmay _
    next => exact hs

/-! #### Space signals (R69, R30, R171) -/

theorem Spares.offerDeferredOf (serial : Nat) (tgs : List PermitTg) {s : State} (hs : P s) :
    P (State.offerDeferredOf serial tgs s).1 := by
  induction tgs generalizing s with
  | nil => exact hs
  | cons tg more ih =>
    simp only [State.offerDeferredOf]
    split
    next hdeferred =>
      obtain ⟨p, hp, htg⟩ := (Option.any_eq_true _ _).1 hdeferred
      have hmay := hP.permitDue s serial tg p hs hp (by simpa using htg)
      split
      · exact hP.offerPermit hs hmay
      · exact ih (hP.offerPermit hs hmay)
    next => exact ih hs

theorem Spares.permitWalk (c : Chan) (fuel : Nat) {s : State} (hs : P s) : P (State.permitWalk c fuel s) := by
  induction fuel generalizing s with
  | zero => exact hs
  | succ fuel ih =>
    simp only [State.permitWalk]
    split
    · exact hs
    next serial _ _ =>
      have hone : P (s.offerDeferred serial).1 := hP.offerDeferredOf serial _ hs
      split
      next s1 h => rw [h] at hone; exact ih hone
      next s1 h => rw [h] at hone; exact hone

/-- Follow-ups that are owed may be offered. -/
theorem Spares.owedOf {s : State} (hs : P s) {slot n : Nat} (hn : n ∈ s.owedOf slot) : may (.followUp n) := by
  obtain ⟨-, howed⟩ := List.mem_filter.1 hn
  cases ho : s.order? n with
  | none => simp [ho] at howed
  | some o =>
    simp only [ho, Option.any_some, Order.owedTo, Bool.and_eq_true] at howed
    cases hf : o.followUp with
    | none => simp [hf] at howed
    | some f => exact hP.followUpDue s n o f.1 hs ho (by simp only [hf, Option.any_some, beq_iff_eq] at howed; rw [hf, ← howed.2])

theorem Spares.offerOwed (l : List Nat) {s : State} (hs : P s) (hl : ∀ n ∈ l, may (.followUp n)) : P (State.offerOwed l s).1 := by
  induction l generalizing s with
  | nil => exact hs
  | cons n more ih =>
    have hone := hP.offerFollowUp hs (hl n List.mem_cons_self)
    simp only [State.offerOwed]
    split
    · exact hone
    · exact ih hone fun m hm => hl m (List.mem_cons_of_mem n hm)

theorem Spares.walkCrew {s : State} (hs : P s) (slot : Nat) : P (s.walkCrew slot).1 := by
  have howed : P (State.offerOwed (s.owedOf slot) s).1 := hP.offerOwed _ hs fun n hn => hP.owedOf hs hn
  unfold State.walkCrew
  split
  next s1 h =>
    rw [h] at howed
    split
    · exact howed
    next k hk =>
      split
      next hdeferred =>
        split
        next n hn =>
          obtain ⟨o, ho, hst⟩ : ∃ o, s1.order? n = some o ∧ o.state = .assigned := by
            have hd := hdeferred.1
            simp only [State.headDeferred, State.headOf, hn, Option.bind_some] at hd
            cases ho : s1.order? n with
            | none => simp [ho] at hd
            | some o => exact ⟨o, rfl, by simp [ho] at hd; exact hd.1⟩
          exact hP.order s1 n .assigned _ (hP.headDue s1 slot k n o howed hk hn ho hst) rfl (fun o ho => ⟨rfl, by rw [ho]; rfl, id⟩) howed
        next => exact howed
      next => exact howed
  next s1 h =>
    rw [h] at howed
    split
    · exact howed
    next k hk =>
      split
      · exact hP.offerHead howed slot
      · exact howed

theorem Spares.orderWalk (c : Chan) (fuel place : Nat) {s : State} (hs : P s) : P (State.orderWalk c fuel place s) := by
  induction fuel generalizing s place with
  | zero => exact hs
  | succ fuel ih =>
    simp only [State.orderWalk]
    split
    · exact hs
    next slot _ =>
      have hone := hP.walkCrew hs slot
      split
      next s1 h => rw [h] at hone; exact hone
      next s1 h => rw [h] at hone; exact ih _ hone

theorem Spares.giveSignal {s : State} (hs : P s) (c : Chan) : P (s.giveSignal c) := hP.orderWalk c 129 0 (hP.permitWalk c 33 hs)

theorem Spares.inOpenOrder {α : Type} {l : List α} {f : State → α → State} (hf : ∀ t a, P t → P (f t a)) {s : State} (hs : P s) :
    P (s.inOpenOrder l f) :=
  List.foldlRecOn _ _ (hP.chosen hs _) fun t ht a _ => hf t a ht

theorem Spares.deliverSignals (fuel : Nat) {s : State} (hs : P s) : P (s.deliverSignals fuel) := by
  induction fuel generalizing s with
  | zero => exact hP.withSignals hs []
  | succ fuel ih =>
    simp only [State.deliverSignals]
    split
    · exact hs
    · exact ih (hP.inOpenOrder (fun t c ht => hP.giveSignal ht c) (hP.withSignals hs []))

/-- The space signals spare what traffic spares (R171). -/
theorem Spares.giveSignals {s : State} (hs : P s) : P s.giveSignals := hP.deliverSignals 65 hs

theorem Spares.offerOwedAndHead {s : State} (hs : P s) (slot : Nat) : P (s.offerOwedAndHead slot) := by
  have howed : P ((s.owedOf slot).foldl (fun t n => t.offerFollowUp n) s) :=
    List.foldlRecOn _ _ hs fun t ht n hn => hP.offerFollowUp ht (hP.owedOf hs hn)
  unfold State.offerOwedAndHead
  dsimp only
  split
  · exact howed
  · split
    · exact hP.offerHead howed slot
    · exact howed

theorem Spares.checkCrewOf {s : State} (hs : P s) (n : Nat) : P (s.checkCrewOf n) := by
  unfold State.checkCrewOf
  split
  · exact hP.check hs _
  · exact hs

theorem Spares.leaveQueueAfter {s : State} (slot n : Nat)
    (hs : P (s.modCrew slot fun k =>
      { k with
        queue := k.queue.erase n
        waitingFor := if k.waitingFor.any fun w => w.1 == n || w.2 == n then none else k.waitingFor })) (h0 : P s) :
    P (s.leaveQueue slot n) := by
  unfold State.leaveQueue
  split
  · exact h0
  · dsimp only
    split
    · exact hP.check (hP.syncOrderDefer (hP.offerHeadWith (fun _ slot ht => hP.check ht slot) hs slot) slot) slot
    · split
      · exact hP.check hs slot
      · exact hs

/-- What holds after the work of a request, and is spared, holds after the request. -/
theorem Spares.console {s : State} {x : Xfer} {work : State → Reply} (h : P (work (s.atRequest x)).1) : P (s.console x work) :=
  hP.settle _ (hP.respond _ _ _ _ (hP.giveSignals h))

theorem Spares.event {s : State} {work : State → State} (h : P (work s.atEvent)) : P (s.event work) := hP.settle _ (hP.giveSignals h)

end

/-! ### The watches -/

/-- A worker without its prompt. -/
def Worker.unprompted (w : Worker) : Worker := { w with prompt := none }

/-- The workers without their prompts. -/
def State.watches (s : State) : List Worker := s.workers.map Worker.unprompted

theorem State.setPrompts_watches (s : State) (slot : Nat) (body : Body) (st : PromptStatus) :
    (s.setPrompts slot body st).watches = s.watches := by
  unfold State.setPrompts
  split
  · simp only [State.watches, List.map_map]
    refine List.map_congr_left fun w _ => ?_
    simp only [Function.comp_apply]
    split <;> rfl
  · rfl

/-- Traffic changes nothing of a worker but its prompt. -/
theorem watches_spared (l : List Worker) : Spares (fun _ => True) fun t => t.watches = l where
  posted := posted_of_notices fun _ _ _ h => h
  quiet := fun _ _ _ _ h => h
  marks := fun _ _ _ _ h => h
  crew := fun _ _ _ _ h => h
  enter := fun _ _ _ _ h => h
  leave := fun _ _ _ _ _ _ _ h => h
  drop := fun _ _ _ _ h => h
  order := fun _ _ _ _ _ _ _ h => h
  followUp := fun _ _ _ _ h => h
  permit := fun _ _ _ _ _ h => h
  mark := fun _ _ _ h => h
  prompt := fun s slot body st _ h => (s.setPrompts_watches slot body st).trans h
  reorder := fun _ _ _ _ _ _ _ _ _ _ h => h
  respond := fun _ _ _ _ h => h
  settle := fun _ h => h
  headDue := fun _ _ _ _ _ _ _ _ _ _ => trivial
  followUpDue := fun _ _ _ _ _ _ _ => trivial
  permitDue := fun _ _ _ _ _ _ _ => trivial
  displaced := fun _ _ _ _ _ _ _ _ _ => trivial
  evicted := fun _ _ _ _ _ _ _ => ⟨fun _ _ => .inl trivial, fun _ _ => trivial, fun _ _ => trivial⟩

end Sys2Proof.Machine
end

section
/-!
The restart of a watch (START_WATCH).
-/

namespace Sys2Proof.Machine

/-! ### The restart of a watch (R100, R105) -/

/-- What does not tell a worker's prompt is the same for workers alike but for it. -/
theorem State.worker?_of_watches {s t : State} (h : t.watches = s.watches) {α : Type} (g : Worker → α) (hg : ∀ w, g w.unprompted = g w)
    (badge : Nat) : (t.worker? badge).map g = (s.worker? badge).map g := by
  have hone : ∀ u : State, (u.worker? badge).map g = (tFind Worker.badge badge u.watches).map g := fun u => by
    rw [State.watches, tFind_map_of Worker.badge badge Worker.unprompted _ fun _ => rfl, Option.map_map]
    exact Option.map_congr fun w _ => (hg w).symm
  rw [hone, hone, h]

theorem State.strike_watches (s : State) (slot badge : Nat) : (s.strike slot badge).watches = s.watches := by
  unfold State.strike
  split
  · have hchans := (s.modEntries (fun e => e.openPrompt slot) fun e => { e with body := e.body.withoutBadge badge }).withdraw_onlyChans
      fun e => e.openPrompt slot && e.body.emptied
    have hworkers := hchans.workers
    rw [State.watches, State.watches, State.modWorker, hworkers, tMod, List.map_map]
    refine List.map_congr_left fun w _ => ?_
    simp only [Function.comp_apply]
    split <;> rfl
  · rfl

/-- A worker whose watch has restarted (R100). -/
def Worker.restarted (w : Worker) (eff lead : Nat) : Worker :=
  { w with eff := some eff, lead := some lead, remaining := some eff, graceLeft := none, leadOwed := decide (0 < lead) }

theorem State.restart_eq {s : State} {badge : Nat} {w : Worker} (hw : s.worker? badge = some w) {e l : Nat}
    (he : e = effectiveInterval w.interval w.missed (s.highRisk w.crew) s.params.highRiskCap) (hl : l = leadTime s.params.promptLead e) :
    s.restart badge = (s.modWorker badge fun w => w.restarted e l).strike w.crew badge := by
  subst hl he
  simp only [State.restart, hw]
  rfl

/-- A restarted watch, but for the prompts (R100). -/
theorem State.restart_worker? {s : State} {badge : Nat} {w : Worker} (hw : s.worker? badge = some w) {e l : Nat}
    (he : e = effectiveInterval w.interval w.missed (s.highRisk w.crew) s.params.highRiskCap) (hl : l = leadTime s.params.promptLead e)
    {t : State} (ht : t.watches = (s.restart badge).watches) {α : Type} (g : Worker → α) (hg : ∀ w, g w.unprompted = g w) :
    (t.worker? badge).map g = some (g (w.restarted e l)) := by
  rw [State.worker?_of_watches (ht.trans ((congrArg State.watches (State.restart_eq hw he hl)).trans (State.strike_watches _ _ _))) g hg,
    State.worker?_modWorker (by intro; rfl) hw]
  rfl

/-- What START_WATCH makes of a worker, before the restart (R105). -/
def Worker.armed (w : Worker) (interval grace : Nat) : Worker := { w with interval := interval, grace := grace, watch := .watching }

theorem watchSpan_eq (lo hi dflt v : Nat) : watchSpan lo hi dflt v = if v = 0 then dflt else clamp lo hi v := rfl

theorem watchClamped_eq_false_iff (lo hi dflt v : Nat) : watchClamped lo hi v = false ↔ v = 0 ∨ v = watchSpan lo hi dflt v := by
  by_cases hv : v = 0
  · simp [watchClamped, hv]
  · rw [watchSpan, if_neg hv]
    simp only [watchClamped, bne_iff_ne.2 hv, Bool.true_and, bne_eq_false_iff_eq, hv, false_or]
    exact eq_comm

/-- Settles O40. -/
theorem startWatchWatches : Obligations.StartWatchWatches := by
  intro x h l ih il gh gl w s h1 h2 hw
  have hbadge : w.badge = be16 h l := State.badge_of_worker? hw
  have hask := State.onWorker_of_worker? (s := s.atRequest x) (h := h) (l := l) (w := w)
  refine ⟨fun hon => refuses_of_refuse rfl ((hask _ (by omega) hw).trans (if_pos hon)), ?_⟩
  intro hoff i g e lead asked
  have hi : watchSpan 60 3600 s.params.defaultInterval (be16 ih il) = i := rfl
  have hg : watchSpan 30 900 s.params.defaultGrace (be16 gh gl) = g := rfl
  let armed := (s.atRequest x).modWorker (be16 h l) fun w => w.armed i g
  let done := (armed.restart (be16 h l)).post (.watchState (be16 h l) w.crew .off .watching .request)
  have harmed : armed.worker? (be16 h l) = some (w.armed i g) :=
    State.worker?_modWorker (s := s.atRequest x) (f := fun w => w.armed i g) (fun _ => rfl) hw
  have hfields := fun {t : State} (ht : t.watches = done.watches) {α : Type} (f : Worker → α) =>
    State.restart_worker? (e := e) (l := lead) harmed rfl rfl (ht.trans (congrArg (List.map Worker.unprompted) (State.post_workers _ _))) f
  have hwork : askStartWatch [h, l, ih, il, gh, gl] (s.atRequest x)
      = (done, if asked then .ok else .adjusted, u16 i ++ u16 g ++ u16 e ++ u16 lead ++ u16 e) := by
    refine (hask _ (by omega) hw).trans ((if_neg (not_not.2 hoff)).trans ?_)
    rw [hbadge]
    refine congrArg₂ Prod.mk rfl (congrArg₂ Prod.mk ?_ ?_)
    · have hasked : asked ↔ (watchClamped 60 3600 (be16 ih il) || watchClamped 30 900 (be16 gh gl)) = false := by
        rw [Bool.or_eq_false_iff, watchClamped_eq_false_iff 60 3600 s.params.defaultInterval,
          watchClamped_eq_false_iff 30 900 s.params.defaultGrace]
        exact .rfl
      rw [if_congr hasked rfl rfl]
      cases watchClamped 60 3600 (be16 ih il) || watchClamped 30 900 (be16 gh gl) <;> rfl
    · exact congrArg (Option.getD · []) (hfields rfl Worker.watchFields fun _ => rfl)
  have hframe : done.frame = ((s.modWorker (be16 h l) fun w =>
      { w with
        watch := .watching, interval := i, grace := g, eff := some e, lead := some lead, remaining := some e
        graceLeft := none }).atRequest x).frame := by
    refine (State.post_frame _ _).trans ((congrArg State.frame (State.restart_eq (e := e) (l := lead) harmed rfl rfl)).trans ?_)
    refine (State.strike_frame _ _ _).trans ((congrArg State.frame (State.modWorker_modWorker _ _ _ ?_)).trans ?_)
    · intro; rfl
    · exact State.modWorker_frame_ext (s := s.atRequest x) _ fun _ => rfl
  refine ⟨_, rfl, State.console_replied_of_frame hwork (State.shape_of_frame hframe) (.inl ?_) rfl rfl rfl,
    State.console_alike hwork hframe, ?_⟩
  · split <;> rfl
  · refine (hfields ((watches_spared _).console ?_) (·.leadOwed) (fun _ => rfl)).trans rfl
    exact congrArg (fun r : Reply => r.1.watches) hwork

end Sys2Proof.Machine
end

section
/-!
Prompts: an offer that a queue with room takes in, the end of an interval and of a rest.
-/

namespace Sys2Proof.Machine

/-! ### A prompt that a queue takes in (R112) -/

theorem State.settle_queue (s : State) (c : Chan) : (s.settle.chan c).queue = (s.chan c).queue := by
  fin_cases c <;> rfl

theorem mem_insertEntry {e x : Entry} {q : List Entry} : x ∈ insertEntry e q ↔ x = e ∨ x ∈ q := by
  induction q with
  | nil => simp [insertEntry]
  | cons y ys ih =>
    rw [insertEntry]
    split
    · simp
    · rw [List.mem_cons, ih, List.mem_cons]; tauto

/-- An offer to a crew of the roster that a queue with room and no hold takes in (R17, R165). -/
theorem State.offerWith_crew {s : State} {c : Chan} {slot unit : Nat} {k : Crew} {e : Entry} (check : State → Nat → State)
    (yes : State → State) (no : State → Deferral → State) (haddr : e.addr = .crew slot unit) (hk : s.crew? slot = some k)
    (hroom : (s.chan c).queue.length < 24) (hhold : (s.chan c).flowHold = false) :
    s.offerWith check c e true yes no = yes ((s.modCrew slot fun k => { k with outSeq := k.outSeq + 1 }).modChan c fun ch =>
      { ch with
        queue := insertEntry { e with seq := some k.outSeq, admission := ch.admissions } ch.queue
        admissions := ch.admissions + 1
        flowHold := ch.flowHold || decide (s.params.highMark ≤ ch.queue.length + 1) }) := by
  rw [State.offerWith_of_room s check e yes no hroom hhold, State.takeSeq_crew s haddr hk]
  exact congrArg yes (State.enqueue_of_noHold (s.modCrew slot fun k => { k with outSeq := k.outSeq + 1 }) { e with seq := some k.outSeq } hhold)

/-- The entry of a prompt (R112). -/
def promptEntry (k : Crew) (badge : Nat) (overdue : Bool) : Entry :=
  newEntry (.prompt k.slot) .checkPrompt .safety k.addr (.prompt overdue [badge]) none

/-- A prompt offered to a queue with room, no hold and no other prompt of the crew that waits. -/
theorem State.offerPrompt_of_room {s : State} {badge : Nat} {w : Worker} {k : Crew} (overdue : Bool) (hw : s.worker? badge = some w)
    (hk : s.crew? w.crew = some k) (hroom : (s.chan k.current).queue.length < 24) (hhold : (s.chan k.current).flowHold = false)
    (hnone : ∀ e ∈ (s.chan k.current).queue, e.owner ≠ .prompt k.slot ∨ e.inFlight = true) :
    s.offerPrompt badge overdue = (((s.modCrew k.slot fun k => { k with outSeq := k.outSeq + 1 }).modChan k.current fun ch =>
      { ch with
        queue := insertEntry { promptEntry k badge overdue with seq := some k.outSeq, admission := ch.admissions } ch.queue
        admissions := ch.admissions + 1
        flowHold := ch.flowHold || decide (s.params.highMark ≤ ch.queue.length + 1) }).modWorker badge fun w =>
          { w with prompt := some .queued }) := by
  have hopen : ((s.chan k.current).queue.any fun e => e.openPrompt k.slot) = false := by
    refine List.any_eq_false.2 fun e he => ?_
    rcases hnone e he with howner | hflight
    · simp [Entry.openPrompt, howner]
    · simp [Entry.openPrompt, hflight]
  have hslot : s.crew? k.slot = some k := by rw [State.slot_of_crew? hk]; exact hk
  simp only [State.offerPrompt, hw, hk, hopen]
  exact State.offerWith_crew (e := promptEntry k badge overdue) State.check _ _ rfl hslot hroom hhold

/-- What a prompt so taken in leaves: no signal owed, the worker's prompt QUEUED, and its entry waiting. -/
theorem State.offerPrompt_waits {s : State} {badge : Nat} {w : Worker} {k : Crew} (overdue : Bool) (hw : s.worker? badge = some w)
    (hk : s.crew? w.crew = some k) (hroom : (s.chan k.current).queue.length < 24) (hhold : (s.chan k.current).flowHold = false)
    (hnone : ∀ e ∈ (s.chan k.current).queue, e.owner ≠ .prompt k.slot ∨ e.inFlight = true) :
    (s.offerPrompt badge overdue).signals = s.signals
      ∧ (s.offerPrompt badge overdue).worker? badge = some { w with prompt := some .queued }
      ∧ ∃ e ∈ ((s.offerPrompt badge overdue).chan k.current).queue,
          e.owner = .prompt k.slot ∧ e.body = .prompt overdue [badge] ∧ e.cls = .safety := by
  rw [State.offerPrompt_of_room overdue hw hk hroom hhold hnone]
  refine ⟨rfl, State.worker?_modWorker (by intro; rfl) (by exact hw),
    { promptEntry k badge overdue with seq := some k.outSeq, admission := (s.chan k.current).admissions }, ?_, rfl, rfl, rfl⟩
  rw [State.modWorker_chan, State.modChan_chan_same]
  exact mem_insertEntry.2 (.inl rfl)

/-! ### The end of an interval and of a rest (R101, R103) -/

/-- What the end of an interval or of a rest makes of a worker. -/
def Worker.due (w : Worker) : Worker := { w with watch := .due, graceLeft := some w.grace, leadOwed := false }

theorem State.expireRemaining_of_zero {s : State} {badge : Nat} {w : Worker} {st : WatchState} (hw : s.worker? badge = some w)
    (hst : w.watch = st) (hzero : w.remaining = some 0) :
    s.expireRemaining badge st = ((s.modWorker badge Worker.due).offerPrompt badge true).post
      (.watchState badge w.crew w.watch .due .expiry) := by
  have hbadge := State.badge_of_worker? hw
  simp only [State.expireRemaining, hw, hst, hzero, and_self, if_true, State.becomeDue, hbadge]
  rfl

theorem State.expireRemaining_of_not {s : State} {badge : Nat} {st : WatchState}
    (h : ∀ w, s.worker? badge = some w → w.watch ≠ st ∨ w.remaining ≠ some 0) : s.expireRemaining badge st = s := by
  unfold State.expireRemaining
  split
  · rfl
  next w hw => exact if_neg fun ⟨hst, hzero⟩ => (h w hw).elim (· hst) (· hzero)

/-- Settles O52. -/
theorem workerBecomesDue : Obligations.WorkerBecomesDue := by
  intro badge s st cmd hcmd
  have hexec : exec cmd s = .next (s.event fun t => t.expireRemaining badge st) := by
    rcases hcmd with ⟨rfl, rfl⟩ | ⟨rfl, rfl⟩ <;> rfl
  constructor
  · intro w hw hst hzero
    have hwork := State.expireRemaining_of_zero (s := s.atEvent) hw hst hzero
    have hframe : (s.atEvent.expireRemaining badge st).frame
        = (s.modWorker badge fun w' => { w' with watch := .due, graceLeft := some w'.grace }).frame := by
      rw [hwork, State.post_frame, State.offerPrompt_frame]
      exact State.modWorker_frame_ext (s := s.atEvent) _ fun _ => rfl
    refine ⟨_, hexec, s.event_quiet_of_shape _ ?_, State.event_alike hframe, fun k hk hroom hhold hnone => ?_⟩
    · exact (State.shape_of_frame hframe).trans (Keeps.modWorker (.refl s) (by intro; rfl)).shape
    · have hdue : (s.atEvent.modWorker badge Worker.due).worker? badge = some w.due :=
        State.worker?_modWorker (s := s.atEvent) (f := Worker.due) (fun _ => rfl) hw
      obtain ⟨hsignals, hworker, e, he, hentry⟩ := State.offerPrompt_waits true hdue hk hroom hhold hnone
      have hgive : (s.atEvent.expireRemaining badge st).giveSignals = s.atEvent.expireRemaining badge st :=
        State.giveSignals_none (by rw [hwork, State.post_signals, hsignals]; rfl)
      have hevent : s.event (fun t => t.expireRemaining badge st) = (s.atEvent.expireRemaining badge st).settle := congrArg State.settle hgive
      rw [hevent, hwork]
      refine ⟨?_, e, ?_, hentry⟩
      · have hsame : ((((s.atEvent.modWorker badge Worker.due).offerPrompt badge true).post
            (.watchState badge w.crew w.watch .due .expiry)).settle).worker? badge = some { w.due with prompt := some .queued } :=
          (congrArg (tFind Worker.badge badge) (State.post_workers _ _)).trans hworker
        rw [hsame]
        rfl
      · rw [State.settle_queue, State.post_chan]
        exact he
  · intro hno
    exact runs_event_effect hexec (State.expireRemaining_of_not (s := s.atEvent) hno) rfl rfl rfl rfl

end Sys2Proof.Machine
end

section
/-!
Open orders, and the tick with the lead prompts it brings.
-/

namespace Sys2Proof.Machine

/-! ### Open orders -/

/-- An open order is an order of the list. -/
theorem openOrder_perm {α : Type} (n fuel : Nat) (l : List α) : (openOrder n fuel l).Perm l := by
  induction fuel generalizing n l with
  | zero => exact .refl l
  | succ fuel ih =>
    unfold openOrder
    split
    · exact .refl _
    · exact .refl _
    next a b r =>
      split
      next x hx =>
        obtain ⟨hlt, hget⟩ := List.getElem?_eq_some_iff.1 hx
        rw [← hget]
        exact ((ih _ _).cons _).trans (List.getElem_cons_eraseIdx_perm hlt)
      next => exact .refl _

theorem State.inOpenOrder_nil {α : Type} (s : State) (f : State → α → State) : s.inOpenOrder [] f = s := rfl

theorem State.inOpenOrder_singleton {α : Type} (s : State) (a : α) (f : State → α → State) : s.inOpenOrder [a] f = f s a := rfl

/-- A property that each item brings about or keeps holds after the list. -/
theorem State.inOpenOrder_of {α : Type} {P : State → Prop} {s : State} {l : List α} {f : State → α → State}
    (hchoices : P { s with choices := s.choices + (l.length - 1) }) (hf : ∀ t, ∀ a ∈ l, P t → P (f t a)) : P (s.inOpenOrder l f) :=
  List.foldlRecOn _ _ hchoices fun t ht a ha => hf t a ((openOrder_perm _ _ l).subset ha) ht

/-- Where all items of a list that is not empty are one item, what it brings about and keeps holds after the list. -/
theorem State.inOpenOrder_of_one {α : Type} {P : State → Prop} {s : State} {l : List α} {f : State → α → State} {a : α} (hl : l ≠ [])
    (ha : ∀ b ∈ l, b = a) (hfirst : P (f { s with choices := s.choices + (l.length - 1) } a)) (hf : ∀ t, P t → P (f t a)) :
    P (s.inOpenOrder l f) := by
  have hperm := openOrder_perm s.choices l.length l
  unfold State.inOpenOrder
  cases ho : openOrder s.choices l.length l with
  | nil => rw [ho] at hperm; exact absurd hperm.symm.eq_nil hl
  | cons b more =>
    rw [ho] at hperm
    have hmem : ∀ c ∈ b :: more, c = a := fun c hc => ha c (hperm.subset hc)
    rw [List.foldl_cons, hmem b List.mem_cons_self]
    exact List.foldlRecOn _ _ hfirst fun t ht c hc => (hmem c (List.mem_cons_of_mem b hc)) ▸ hf t ht

/-! ### The tick (R198) -/

theorem State.countDown_eq (s : State) : s.countDown = { s with
        clock := s.clock + 1
        crews := s.crews.map fun k => { k with escal := k.escal.map (· - 1) }
        workers := s.workers.map fun w =>
          { w with remaining := w.remaining.map (· - 1), graceLeft := w.graceLeft.map (· - 1), escal := w.escal.map (· - 1) }
        orders := s.orders.map fun o => { o with acceptance := o.acceptance.map (· - 1) }
        permits := s.permits.map fun p => { p with readback := p.readback.map (· - 1) }
        chans := s.chans.map fun ch =>
          { ch with
            failover := ch.failover.map (· - 1), failback := ch.failback.map (· - 1), ranOut := false
            queue := ch.queue.map fun e => { e with holdOff := e.holdOff - 1 } } } := rfl

theorem Worker.leadDue_iff (w : Worker) : w.leadDue = true ↔
    w.watch = .watching ∧ w.leadOwed = true ∧ ∃ r l, w.remaining = some r ∧ w.lead = some l ∧ 0 < r ∧ r ≤ l := by
  unfold Worker.leadDue
  cases w.remaining <;> cases w.lead <;> simp [and_assoc]

theorem State.leadPrompt_of_due {s : State} {badge : Nat} {w : Worker} (hw : s.worker? badge = some w) (hdue : w.leadDue = true) :
    s.leadPrompt badge = (s.modWorker badge fun w => { w with leadOwed := false }).offerPrompt badge false := by
  simp only [State.leadPrompt, hw, hdue, if_true]

theorem State.leadPrompt_of_not_due {s : State} {badge : Nat} {w : Worker} (hw : s.worker? badge = some w) (hdue : w.leadDue ≠ true) :
    s.leadPrompt badge = s := by
  simp only [State.leadPrompt, hw, if_neg hdue]

/-- The tick owes no lead prompt where no worker does. -/
theorem State.leadsDue_of_none {s : State} (h : ∀ w ∈ s.workers, w.watch = .watching → w.leadOwed = false) : s.countDown.leadsDue = [] := by
  have hnone : ∀ w ∈ s.countDown.workers, ¬ w.leadDue = true := by
    intro w hw hdue
    obtain ⟨v, hv, rfl⟩ := List.mem_map.1 hw
    obtain ⟨hwatch, howed, -⟩ := (Worker.leadDue_iff _).1 hdue
    exact absurd ((h v hv hwatch).symm.trans howed) nofun
  rw [State.leadsDue, List.filter_eq_nil_iff.2 hnone, List.map_nil]

/-- A worker's lead prompt has been taken in by the queue of its crew's channel (R101, R112). -/
structure State.LeadTaken (t : State) (w : Worker) (k : Crew) : Prop where
  signals : t.signals = []
  worker  : t.worker? w.badge = some { w with leadOwed := false, prompt := some .queued }
  entry   : ∃ e ∈ (t.chan k.current).queue, e.owner = .prompt k.slot ∧ e.body = .prompt false [w.badge] ∧ e.cls = .safety

/-- A lead prompt that falls due is taken in by a queue with room. -/
theorem State.leadPrompt_taken {s : State} {w : Worker} {k : Crew} (hw : s.worker? w.badge = some w) (hdue : w.leadDue = true)
    (hsignals : s.signals = []) (hk : s.crew? w.crew = some k) (hroom : (s.chan k.current).queue.length < 24)
    (hhold : (s.chan k.current).flowHold = false)
    (hnone : ∀ e ∈ (s.chan k.current).queue, e.owner ≠ .prompt k.slot ∨ e.inFlight = true) : (s.leadPrompt w.badge).LeadTaken w k := by
  have hcleared : (s.modWorker w.badge fun w => { w with leadOwed := false }).worker? w.badge = some { w with leadOwed := false } :=
    State.worker?_modWorker (by intro; rfl) hw
  obtain ⟨hsame, hworker, hentry⟩ := State.offerPrompt_waits false hcleared hk hroom hhold hnone
  rw [State.leadPrompt_of_due hw hdue]
  exact ⟨hsame.trans hsignals, hworker, hentry⟩

/-- It is not offered again. -/
theorem State.LeadTaken.again {t : State} {w : Worker} {k : Crew} (h : t.LeadTaken w k) : (t.leadPrompt w.badge).LeadTaken w k := by
  rw [State.leadPrompt_of_not_due h.worker fun hdue => by simp [Worker.leadDue] at hdue]
  exact h

theorem State.LeadTaken.settle {t : State} {w : Worker} {k : Crew} (h : t.LeadTaken w k) : t.settle.LeadTaken w k :=
  ⟨h.signals, h.worker, by rw [State.settle_queue]; exact h.entry⟩

/-- Settles O50: the countdowns are the tick's own, and the lead prompts are traffic; one alone is taken in by a queue with room. -/
theorem tickCountsDown : Obligations.TickCountsDown := by
  intro s ticked
  have hframe : (s.atEvent.countDown.inOpenOrder s.atEvent.countDown.leadsDue State.leadPrompt).frame = ticked.frame :=
    State.inOpenOrder_frame _ _ _ fun t badge => t.leadPrompt_frame badge
  have hshape := State.shape_of_frame hframe
  refine ⟨_, rfl, s.event_quiet _ ?_ ?_ ?_ ?_, State.event_alike hframe, fun hnone => ?_, ?_⟩
  · exact congrArg Shape.pending hshape
  · exact congrArg Shape.held hshape
  · exact congrArg Shape.lost hshape
  · exact congrArg Shape.out hshape
  · have hwork : s.atEvent.countDown.inOpenOrder s.atEvent.countDown.leadsDue State.leadPrompt = ticked.atEvent := by
      rw [State.leadsDue_of_none (s := s.atEvent) hnone]
      rfl
    obtain ⟨t, ht, htakes⟩ := runs_event_effect (i := .tick) (s := s) (effect := ticked) rfl hwork rfl rfl rfl rfl
    cases ht
    exact htakes
  · intro w k r l hw hwatch howed hr hl hr2 hrl hothers hk hroom hhold hprompts
    have hdue : w.ticked.leadDue = true :=
      (Worker.leadDue_iff _).2 ⟨hwatch, howed, r - 1, l, congrArg Machine.ticked hr, hl, by omega, hrl⟩
    have hw' : s.atEvent.countDown.worker? w.badge = some w.ticked := by
      refine (tFind_map_of Worker.badge w.badge Worker.ticked s.workers fun _ => rfl).trans ?_
      exact congrArg (Option.map Worker.ticked) hw
    have hleads : ∀ b ∈ s.atEvent.countDown.leadsDue, b = w.badge := by
      intro b hb
      obtain ⟨v, hv, rfl⟩ := List.mem_map.1 hb
      obtain ⟨hv, hvdue⟩ := List.mem_filter.1 hv
      obtain ⟨u, hu, rfl⟩ := List.mem_map.1 hv
      by_contra hne
      obtain ⟨huwatch, huowed, -⟩ := (Worker.leadDue_iff _).1 hvdue
      exact absurd ((hothers u hu (fun h => hne (by rw [h]; rfl)) huwatch).symm.trans huowed) nofun
    have hsome : s.atEvent.countDown.leadsDue ≠ [] :=
      List.ne_nil_of_mem (List.mem_map_of_mem (List.mem_filter.2 ⟨(tFind_some Worker.badge hw').2, hdue⟩))
    have hk' : s.atEvent.countDown.crew? w.crew = some { k with escal := Machine.ticked k.escal } := by
      refine (tFind_map_of Crew.slot w.crew (fun k => { k with escal := Machine.ticked k.escal }) s.crews fun _ => rfl).trans ?_
      exact congrArg (Option.map fun k : Crew => { k with escal := Machine.ticked k.escal }) hk
    have hqueue : (s.atEvent.countDown.chan k.current).queue = (s.chan k.current).queue.map fun e => { e with holdOff := e.holdOff - 1 } :=
      congrArg Channel.queue (Four.get_map Channel.ticked s.chans k.current)
    have hhold' : (s.atEvent.countDown.chan k.current).flowHold = false :=
      (congrArg Channel.flowHold (Four.get_map Channel.ticked s.chans k.current)).trans hhold
    have htaken : (s.atEvent.countDown.inOpenOrder s.atEvent.countDown.leadsDue State.leadPrompt).LeadTaken w.ticked
        { k with escal := Machine.ticked k.escal } := by
      refine State.inOpenOrder_of_one (P := fun t => t.LeadTaken w.ticked { k with escal := Machine.ticked k.escal }) hsome hleads ?_
        fun t ht => ht.again
      refine State.leadPrompt_taken (w := w.ticked) hw' hdue rfl hk' ?_ hhold' fun e he => ?_
      · exact (congrArg List.length hqueue).trans_lt (by rw [List.length_map]; exact hroom)
      · obtain ⟨e', he', rfl⟩ := List.mem_map.1 (hqueue ▸ he : e ∈ (s.chan k.current).queue.map _)
        exact hprompts e' he'
    have hgive := State.giveSignals_none htaken.signals
    have hend := htaken.settle
    have hevent : (s.event fun t => t.countDown.inOpenOrder t.countDown.leadsDue State.leadPrompt)
        = (s.atEvent.countDown.inOpenOrder s.atEvent.countDown.leadsDue State.leadPrompt).settle := congrArg State.settle hgive
    rw [hevent]
    exact ⟨congrArg (Option.map fun w => (w.leadOwed, w.prompt)) hend.worker, hend.entry⟩

end Sys2Proof.Machine
end

section
/-!
An order assigned to an idle crew: its offer, taken in by a queue with room.
-/

namespace Sys2Proof.Machine

/-! ### The end of a command leaves the records alone -/

section
variable (s : State) (tag : Byte) (status : Status) (results : List Byte) (n : Nat)

@[simp] theorem State.settle_crew? : s.settle.crew? n = s.crew? n := rfl
@[simp] theorem State.settle_worker? : s.settle.worker? n = s.worker? n := rfl
@[simp] theorem State.settle_order? : s.settle.order? n = s.order? n := rfl
@[simp] theorem State.settle_device? : s.settle.device? n = s.device? n := rfl
@[simp] theorem State.settle_permit? : s.settle.permit? n = s.permit? n := rfl
@[simp] theorem State.respond_crew? : (s.respond tag status results).crew? n = s.crew? n := rfl
@[simp] theorem State.respond_worker? : (s.respond tag status results).worker? n = s.worker? n := rfl
@[simp] theorem State.respond_order? : (s.respond tag status results).order? n = s.order? n := rfl
@[simp] theorem State.respond_device? : (s.respond tag status results).device? n = s.device? n := rfl
@[simp] theorem State.respond_permit? : (s.respond tag status results).permit? n = s.permit? n := rfl
@[simp] theorem State.respond_chan (c : Chan) : (s.respond tag status results).chan c = s.chan c := rfl

end

/-! ### A head offered to a queue with room (R28) -/

theorem State.order?_modOrder {s : State} {n : Nat} {f : Order → Order} {o : Order} (hf : ∀ o, (f o).number = o.number)
    (ho : s.order? n = some o) : (s.modOrder n f).order? n = some (f o) :=
  (tFind_tMod_same Order.number n f s.orders hf).trans (congrArg (Option.map f) ho)

theorem State.order?_modOrderIn {s : State} {n : Nat} {st : OrderState} {f : Order → Order} {o : Order}
    (hf : ∀ o, (f o).number = o.number) (ho : s.order? n = some o) (hst : o.state = st) : (s.modOrderIn n st f).order? n = some (f o) := by
  refine (State.order?_modOrder (fun o => ?_) ho).trans (congrArg some (if_pos hst))
  split
  · exact hf o
  · rfl

/-- A crew's place on the order deferral list of its channel is all that `syncOrderDefer` changes. -/
theorem State.syncOrderDefer_eq (s : State) (slot : Nat) :
    ∃ (c : Chan) (l : List Nat), s.syncOrderDefer slot = s.modChan c fun ch => { ch with orderDefer := l } := by
  have hsame : ∀ c, s = s.modChan c fun ch => { ch with orderDefer := (s.chan c).orderDefer } := fun c => by
    rw [State.modChan_congr (g := fun ch => ch) rfl]
    simp only [State.modChan, Four.set_get]
  unfold State.syncOrderDefer
  split
  · exact ⟨0, _, hsame 0⟩
  next k _ =>
    split
    · split
      · exact ⟨0, _, hsame 0⟩
      · exact ⟨k.current, _, State.modChan_congr rfl⟩
    · exact ⟨k.current, _, State.modChan_congr rfl⟩

theorem State.syncOrderDefer_queue (s : State) (slot : Nat) (c : Chan) : ((s.syncOrderDefer slot).chan c).queue = (s.chan c).queue := by
  obtain ⟨d, l, h⟩ := s.syncOrderDefer_eq slot
  rw [h, State.modChan_chan]
  split <;> rfl

/-- The check finds nothing where no EMERGENCY order stands second (R36, R37). -/
theorem State.check_of_none {s : State} {slot : Nat} {k : Crew} (hk : s.crew? slot = some k) (hsecond : s.emergencySecond k = none) :
    s.check slot = s.modCrew slot fun k => { k with waitingFor := none } := by
  simp only [State.check, State.checkFueled, hk, hsecond]

theorem State.emergencySecond_of_single {s : State} {k : Crew} {n : Nat} (h : k.queue = [n]) : s.emergencySecond k = none := by
  rw [State.emergencySecond, h]

/-- An ASSIGNED head is sent where its crew is not LOST and the queue of its channel has room and no hold. -/
theorem State.offerHeadWith_of_room {check : State → Nat → State} {s : State} {slot n : Nat} {k : Crew} {o : Order}
    (hk : s.crew? slot = some k) (hhead : k.queue.head? = some n) (ho : s.order? n = some o) (hst : o.state = .assigned)
    (hreach : k.reach ≠ .lost) (hroom : (s.chan k.current).queue.length < 24) (hhold : (s.chan k.current).flowHold = false) :
    s.offerHeadWith check slot = ((((((s.modCrew slot fun k => { k with outSeq := k.outSeq + 1 }).modChan k.current fun ch =>
      { ch with
        queue := insertEntry { orderEntry k o with seq := some k.outSeq, admission := ch.admissions } ch.queue
        admissions := ch.admissions + 1
        flowHold := ch.flowHold || decide (s.params.highMark ≤ ch.queue.length + 1) }).modOrderIn n .assigned fun o =>
          { o with state := .sent, link := some .queued, deferral := none }).post
        (.orderState n o.crew .assigned .sent none))).syncOrderDefer slot) := by
  have hnumber : o.number = n := State.number_of_order? ho
  have hslot : k.slot = slot := State.slot_of_crew? hk
  have hhead' : s.headOf k = some o := by rw [State.headOf, hhead]; exact ho
  simp only [State.offerHeadWith, hk, hhead', hst, if_true, if_neg hreach]
  rw [State.offerWith_crew (e := orderEntry k o) check _ _ rfl (by rw [hslot]; exact hk) hroom hhold, hnumber, hslot]

/-- An order placed in an idle crew's queue is its head, and offered (R25). -/
theorem State.placeOrder_of_idle {s : State} {slot n : Nat} {k : Crew} (hk : s.crew? slot = some k) (hidle : k.queue = []) :
    s.placeOrder slot n = State.offerHeadWith State.check (s.modCrew slot fun k => { k with queue := s.placed n k.queue }) slot := by
  simp only [State.placeOrder, hk, hidle]
  exact if_pos rfl

/-- An order whose ORDER telegram has been taken in (R28). -/
def Order.sent (o : Order) : Order := { o with state := .sent, link := some .queued, deferral := none }

/-- What a head so sent leaves (R28). -/
theorem State.offerHeadWith_sent {check : State → Nat → State} {s : State} {slot n : Nat} {k : Crew} {o : Order}
    (hk : s.crew? slot = some k) (hhead : k.queue.head? = some n) (ho : s.order? n = some o) (hst : o.state = .assigned)
    (hreach : k.reach ≠ .lost) (hroom : (s.chan k.current).queue.length < 24) (hhold : (s.chan k.current).flowHold = false) :
    (s.offerHeadWith check slot).order? n = some o.sent
      ∧ (s.offerHeadWith check slot).crew? slot = some { k with outSeq := k.outSeq + 1 }
      ∧ ((s.offerHeadWith check slot).chan k.current).queue
          = insertEntry { orderEntry k o with seq := some k.outSeq, admission := (s.chan k.current).admissions } (s.chan k.current).queue
      ∧ (∀ c, c ≠ k.current → ((s.offerHeadWith check slot).chan c).queue = (s.chan c).queue)
      ∧ (s.offerHeadWith check slot).signals = s.signals := by
  have heq := State.offerHeadWith_of_room (check := check) hk hhead ho hst hreach hroom hhold
  have hqueue := fun c => (congrArg (fun t : State => (t.chan c).queue) heq).trans (State.syncOrderDefer_queue _ slot c)
  simp only [State.post_chan, State.modOrderIn, State.modOrder_chan, State.modChan_chan] at hqueue
  refine ⟨?_, ?_, (hqueue _).trans (by rw [if_pos rfl]; rfl), fun c hc => (hqueue c).trans (by rw [if_neg (Ne.symm hc)]; rfl), ?_⟩
  all_goals
    obtain ⟨d, l, hsync⟩ := State.syncOrderDefer_eq _ slot
    rw [heq, hsync]
  · refine (congrArg (tFind Order.number n) (State.post_orders _ _)).trans ?_
    exact State.order?_modOrderIn (s := s) (f := Order.sent) (fun _ => rfl) ho hst
  · refine (congrArg (tFind Crew.slot slot) (State.post_crews _ _)).trans ?_
    exact State.crew?_modCrew (f := fun k => { k with outSeq := k.outSeq + 1 }) (fun _ => rfl) hk
  · exact State.post_signals _ _

/-- A request whose space signals are known. -/
theorem State.console_of_signals {s t u : State} {x : Xfer} {work : State → Reply} {status : Status} {results : List Byte}
    (hw : work (s.atRequest x) = (t, status, results)) (hgive : t.giveSignals = u) :
    s.console x work = (u.respond x.tag status results).settle := by
  rw [State.console_eq, hw]
  exact congrArg (fun u : State => (u.respond x.tag status results).settle) hgive

/-! ### An assignment (R26) -/

/-- What an assignment makes of an order (R26). -/
def Order.entrusted (o : Order) (slot : Nat) (seq : Word32) : Order :=
  { o with
    crew := some slot, state := .assigned, asgSeq := seq, deferral := none, returned := none, unanswered := false, followUp := none }

/-- Steps 1 to 3 of an assignment (R26): the order is the crew's, under the next number, and not yet in its queue. -/
def State.entrusted (s : State) (o : Order) (slot : Nat) : State :=
  { (s.modOrder o.number fun o => o.entrusted slot s.assignments).post (.orderState o.number (some slot) o.state .assigned none) with
    assignments := s.assignments + 1 }

theorem State.assign_eq (s : State) (o : Order) (slot : Nat) :
    s.assign o slot = ((s.entrusted o slot).placeOrder slot o.number).check slot := by
  simp only [State.assign, State.entrusted]
  rfl

theorem State.entrusted_order? {s : State} {o : Order} {slot n : Nat} (ho : s.order? n = some o) :
    (s.entrusted o slot).order? n = some (o.entrusted slot s.assignments) := by
  rw [State.entrusted, State.number_of_order? ho]
  exact (congrArg (tFind Order.number n) (State.post_orders _ _)).trans
    (State.order?_modOrder (f := fun o => o.entrusted slot s.assignments) (fun _ => rfl) ho)

theorem State.entrusted_crews (s : State) (o : Order) (slot : Nat) : (s.entrusted o slot).crews = s.crews := State.post_crews _ _

theorem State.entrusted_chan (s : State) (o : Order) (slot : Nat) (c : Chan) : (s.entrusted o slot).chan c = s.chan c :=
  State.post_chan _ _ _

theorem State.entrusted_signals (s : State) (o : Order) (slot : Nat) : (s.entrusted o slot).signals = s.signals := State.post_signals _ _

/-- An assignment, up to traffic (R26). -/
theorem State.assign_frame (s : State) (o : Order) (slot : Nat) : (s.assign o slot).frame =
    ({ s.modOrder o.number (fun o => o.entrusted slot s.assignments) with
      assignments := s.assignments + 1 }.modCrew slot fun k => { k with queue := o.number :: k.queue }).frame := by
  rw [State.assign_eq, State.check_frame, State.placeOrder_frame]
  refine State.modCrew_frame_congr (?_ : (s.entrusted o slot).frame = _) slot fun k => ?_
  · have hpost := State.post_frame (s.modOrder o.number fun o => o.entrusted slot s.assignments)
      (.orderState o.number (some slot) o.state .assigned none)
    exact congrArg (fun u : State => { u with assignments := s.assignments + 1 }) hpost
  · simp only [Crew.frame, sort_cons_sort]

theorem State.assign_shape (s : State) (o : Order) (slot : Nat) :
    (s.assign o slot).shape = ({ s with assignments := s.assignments + 1 } : State).shape := by
  refine (State.shape_of_frame (s.assign_frame o slot)).trans ?_
  refine (State.modCrew_shape_of _ _ _ (by intro; rfl)).trans ?_
  have horder := State.modOrder_shape_of s o.number (fun o => o.entrusted slot s.assignments) (fun _ => rfl)
  exact congrArg (fun h : Shape => { h with assignments := s.assignments + 1 }) horder

theorem State.placeOf_eq {s : State} {o : Order} {slot : Nat} {k : Crew} (hcrew : o.crew = some slot) (hk : s.crew? slot = some k)
    (hmem : o.number ∈ k.queue) : s.placeOf o = some (k.queue.findIdx (· == o.number) + 1) := by
  simp only [State.placeOf, hcrew, Option.bind_some, hk, List.contains_iff_mem.2 hmem, if_true]

/-- What the response to an assignment tells (R26). -/
def State.assignFields (s : State) (n : Nat) : List Byte :=
  ((s.order? n).map fun o => u8 ((s.placeOf o).getD 0) ++ u8 o.state.code ++ u8 (codeOf Deferral.code o.deferral)).getD []

theorem askAssignOrder_of {s : State} {h l b : Byte} {o : Order} {k : Crew} (h1 : 1 ≤ be16 h l) (ho : s.order? (be16 h l) = some o)
    (hb : b.toNat ≤ 63) (hk : s.crew? b.toNat = some k) (hfree : o.state.assignable = true) (hidle : o.engaged = false)
    (hroom : k.queue.length < 8) : askAssignOrder [h, l, b] s =
      (s.assign o b.toNat, .ok, (s.assign o b.toNat).assignFields (be16 h l)) := by
  refine (State.onOrder_of_order? _ h1 ho).trans ((State.onCrew_of_crew? _ hb hk).trans ?_)
  rw [if_neg (by simp [hfree]), if_neg (by simp [hidle]), if_neg (Nat.not_le.2 hroom), State.slot_of_crew? hk, State.number_of_order? ho]
  simp only [State.assignFields]
  cases (s.assign o b.toNat).order? (be16 h l) <;> rfl

/-- An order that an idle crew's channel admits is its head, and sent at once (R25, R28). -/
theorem State.assign_idle {s : State} {n slot : Nat} {o : Order} {k : Crew} (ho : s.order? n = some o) (hk : s.crew? slot = some k)
    (hidle : k.queue = []) (hreach : k.reach ≠ .lost) (hroom : (s.chan k.current).queue.length < 24)
    (hhold : (s.chan k.current).flowHold = false) :
    (s.assign o slot).order? n = some (o.entrusted slot s.assignments).sent
      ∧ (s.assign o slot).crew? slot = some { k with queue := [n], outSeq := k.outSeq + 1, waitingFor := none }
      ∧ ((s.assign o slot).chan k.current).queue = insertEntry
          { orderEntry k (o.entrusted slot s.assignments) with seq := some k.outSeq, admission := (s.chan k.current).admissions }
          (s.chan k.current).queue
      ∧ (∀ c, c ≠ k.current → ((s.assign o slot).chan c).queue = (s.chan c).queue)
      ∧ (s.assign o slot).signals = s.signals := by
  have hn : o.number = n := State.number_of_order? ho
  have hke : (s.entrusted o slot).crew? slot = some k := (congrArg (tFind Crew.slot slot) (State.entrusted_crews s o slot)).trans hk
  have hoe := State.entrusted_order? (slot := slot) ho
  have hchan := State.entrusted_chan s o slot
  have hsig := State.entrusted_signals s o slot
  rw [State.assign_eq, hn, State.placeOrder_of_idle hke hidle]
  generalize s.entrusted o slot = e at hke hoe hchan hsig ⊢
  have hkp : (e.modCrew slot fun k => { k with queue := e.placed n k.queue }).crew? slot = some { k with queue := [n] } := by
    refine (State.crew?_modCrew (f := fun k => { k with queue := e.placed n k.queue }) (fun _ => rfl) hke).trans ?_
    rw [hidle]
    rfl
  obtain ⟨horder, hcrew, hqueue, hothers, hsignals⟩ := State.offerHeadWith_sent (check := State.check) hkp rfl hoe rfl hreach
    (by exact (congrArg (·.queue.length) (hchan k.current)).trans_lt hroom) ((congrArg Channel.flowHold (hchan k.current)).trans hhold)
  have hcheck := State.check_of_none hcrew (State.emergencySecond_of_single (k := { k with queue := [n], outSeq := k.outSeq + 1 }) rfl)
  rw [hcheck]
  refine ⟨horder, State.crew?_modCrew (f := fun k => { k with waitingFor := none }) (fun _ => rfl) hcrew, ?_, fun c hc => ?_,
    hsignals.trans hsig⟩
  · refine hqueue.trans ?_
    rw [State.modCrew_chan, hchan]
    rfl
  · refine (hothers c hc).trans ?_
    rw [State.modCrew_chan, hchan]

/-- Settles O22: the order is placed as head, sent, and nothing owes a space signal. -/
theorem assignToIdleCrewSends : Obligations.AssignToIdleCrewSends := by
  intro x h l b o k s h1 ho hb hk hopened hlink hfollow hacceptance hprio hidle hreach hroom hhold
  have hn : o.number = be16 h l := State.number_of_order? ho
  have hslot : k.slot = b.toNat := State.slot_of_crew? hk
  obtain ⟨horder, hcrew, hqueue, hothers, hsignals⟩ := State.assign_idle (s := s.atRequest x) ho hk hidle hreach hroom hhold
  have hresults : ((s.atRequest x).assign o b.toNat).assignFields (be16 h l) = [1, 3, 0] := by
    rw [State.assignFields, horder, Option.map_some, Option.getD_some,
      State.placeOf_eq (o := (o.entrusted b.toNat (s.atRequest x).assignments).sent) (slot := b.toNat) rfl hcrew (List.mem_singleton.2 hn)]
    simp [Order.entrusted, Order.sent, hn, OrderState.code, codeOf, u8]
  have hwork := askAssignOrder_of (s := s.atRequest x) h1 ho hb hk (by rw [hopened]; rfl)
    (by simp [Order.engaged, hlink, hfollow]) (by rw [hidle]; exact Nat.zero_lt_succ 7)
  rw [hresults] at hwork
  have hgive : ((s.atRequest x).assign o b.toNat).giveSignals = (s.atRequest x).assign o b.toNat := State.giveSignals_none hsignals
  have hreplied := State.console_replied_of_frame (s := s) (effect := { s with assignments := s.assignments + 1 }) hwork
    ((s.atRequest x).assign_shape o b.toNat) (.inl rfl) rfl rfl rfl
  refine ⟨s.console x (askAssignOrder [h, l, b]), rfl, hreplied, ?_⟩
  rw [State.console_of_signals hwork hgive]
  simp only [State.settle_order?, State.respond_order?, State.settle_crew?, State.respond_crew?, horder, hcrew]
  refine ⟨rfl, rfl, ?_, fun c hc => ?_⟩
  · rw [State.settle_queue, State.respond_chan]
    refine hqueue.trans (congrArg (insertEntry · _) ?_)
    have hcls : (orderEntry k (o.entrusted b.toNat (s.atRequest x).assignments)).cls = .order := if_neg hprio
    have hentry : orderEntry k (o.entrusted b.toNat (s.atRequest x).assignments)
        = newEntry (.order (be16 h l)) .order .order (.crew b.toNat k.unit)
          (.bytes (u16 (be16 h l) ++ u8 o.priority.code ++ u16 (o.bound.getD 0) ++ u8 o.text.length ++ o.text)) none := by
      rw [← hn, ← hslot, ← hcls]
      rfl
    rw [hentry]
    rfl
  · rw [State.settle_queue, State.respond_chan]
    exact hothers c hc

end Sys2Proof.Machine
end

section
/-!
The coarser frames after a command, and space signals with nothing deferred.
-/

namespace Sys2Proof.Machine

/-! ### The coarser frames after a command -/

section
variable (s : State)

theorem State.settle_frameWatch_bare : s.settle.frameWatch.bare = s.frameWatch.bare := by
  simp [State.settle, State.frameWatch, State.frame, State.bare, Channel.frame, Four.map]

theorem State.settle_framePermits_bare : s.settle.framePermits.bare = s.framePermits.bare := by
  simp [State.settle, State.framePermits, State.frameWatch, State.frame, State.bare, Channel.frame, Four.map]

theorem State.settle_frameMoves_bare : s.settle.frameMoves.bare = s.frameMoves.bare := by
  simp [State.settle, State.frameMoves, State.frame, State.bare, Channel.frame, Four.map]

variable {s}

theorem State.console_alikeButWatches {x : Xfer} {work : State → Reply} {t effect : State} {r : Status × List Byte}
    (hw : work (s.atRequest x) = (t, r)) (h : t.frameWatch = (effect.atRequest x).frameWatch) :
    AlikeButWatches (s.console x work) effect := by
  rw [AlikeButWatches, State.console_eq, hw, State.settle_frameWatch_bare]
  exact Eq.trans (b := t.giveSignals.frameWatch.bare) rfl ((congrArg State.bare (t.giveSignals_frameWatch.trans h)).trans rfl)

theorem State.console_alikeButPermits {x : Xfer} {work : State → Reply} {t effect : State} {r : Status × List Byte}
    (hw : work (s.atRequest x) = (t, r)) (h : t.framePermits = (effect.atRequest x).framePermits) :
    AlikeButPermits (s.console x work) effect := by
  rw [AlikeButPermits, State.console_eq, hw, State.settle_framePermits_bare]
  exact Eq.trans (b := t.giveSignals.framePermits.bare) rfl ((congrArg State.bare (t.giveSignals_framePermits.trans h)).trans rfl)

theorem State.console_alikeButMoves {x : Xfer} {work : State → Reply} {t effect : State} {r : Status × List Byte}
    (hw : work (s.atRequest x) = (t, r)) (h : t.frameMoves = (effect.atRequest x).frameMoves) :
    AlikeButMoves (s.console x work) effect := by
  rw [AlikeButMoves, State.console_eq, hw, State.settle_frameMoves_bare]
  exact Eq.trans (b := t.giveSignals.frameMoves.bare) rfl ((congrArg State.bare (t.giveSignals_frameMoves.trans h)).trans rfl)

theorem State.event_alikeButWatches {work : State → State} {effect : State} (h : (work s.atEvent).frameWatch = effect.frameWatch) :
    AlikeButWatches (s.event work) effect := by
  rw [AlikeButWatches, State.event_eq, State.settle_frameWatch_bare, State.giveSignals_frameWatch, h]

theorem State.event_alikeButPermits {work : State → State} {effect : State} (h : (work s.atEvent).framePermits = effect.framePermits) :
    AlikeButPermits (s.event work) effect := by
  rw [AlikeButPermits, State.event_eq, State.settle_framePermits_bare, State.giveSignals_framePermits, h]

theorem State.event_alikeButMoves {work : State → State} {effect : State} (h : (work s.atEvent).frameMoves = effect.frameMoves) :
    AlikeButMoves (s.event work) effect := by
  rw [AlikeButMoves, State.event_eq, State.settle_frameMoves_bare, State.giveSignals_frameMoves, h]

end

/-! ### Space signals with nothing deferred (R171) -/

theorem State.giveSignal_of_nothing {s : State} {c : Chan} (hp : (s.chan c).permitDefer = []) (ho : (s.chan c).orderDefer = []) :
    s.giveSignal c = s := by
  have hwalk : State.permitWalk c 33 s = s := by simp only [State.permitWalk, hp]
  have hnone : (s.chan c).orderDefer[0]? = none := by rw [ho]; rfl
  rw [State.giveSignal, hwalk]
  simp only [State.orderWalk, hnone]

/-- Where nothing is deferred on the channels that owe a signal, the signals change nothing but the number of choices made. -/
theorem State.giveSignals_of_nothing {s : State} (h : ∀ c ∈ s.signals, (s.chan c).permitDefer = [] ∧ (s.chan c).orderDefer = []) :
    s.giveSignals = { s with signals := [], choices := s.choices + (s.signals.length - 1) } := by
  by_cases hnone : s.signals = []
  · rw [State.giveSignals_none hnone, hnone]
    exact congrArg (fun l => { s with signals := l }) hnone
  · have hround : (s.withSignals []).inOpenOrder s.signals State.giveSignal
        = { s with signals := [], choices := s.choices + (s.signals.length - 1) } := by
      refine State.inOpenOrder_of (P := fun t => t = { s with signals := [], choices := s.choices + (s.signals.length - 1) }) rfl ?_
      rintro t c hc rfl
      exact State.giveSignal_of_nothing (h c hc).1 (h c hc).2
    have hempty : s.signals.isEmpty = false := by
      cases hl : s.signals with
      | nil => exact absurd hl hnone
      | cons => rfl
    simp only [State.giveSignals, signalRounds, State.deliverSignals, hempty, hround, List.isEmpty_nil, if_true]
    rfl

end Sys2Proof.Machine
end

section
/-!
SET_PARAM: the marks and the flow holds, and the high-risk cut.
-/

namespace Sys2Proof.Machine

/-! ### A mark changed (R168, R169) -/

/-- A channel with its flow hold as the marks and the depth have it. -/
def Channel.held (p : Params) (ch : Channel) : Channel :=
  { ch with flowHold := decide (p.highMark ≤ ch.queue.length) || (ch.flowHold && decide (p.lowMark < ch.queue.length)) }

/-- Whether a channel's flow hold clears by the marks and the depth. -/
def Channel.clears (p : Params) (ch : Channel) : Bool :=
  ch.flowHold && decide (ch.queue.length < p.highMark) && decide (ch.queue.length ≤ p.lowMark)

theorem State.flowEval_eq {s : State} {c : Chan} (h : c ∉ s.signals) : s.flowEval c =
    (s.modChan c (Channel.held s.params)).withSignals (if (s.chan c).clears s.params then s.signals ++ [c] else s.signals) := by
  have hsame : s.modChan c (fun ch => ch) = s := by simp only [State.modChan, Four.set_get]
  unfold State.flowEval
  by_cases hhigh : s.params.highMark ≤ (s.chan c).queue.length
  · rw [if_pos hhigh, if_neg (by simp [Channel.clears, Nat.not_lt.2 hhigh])]
    exact State.modChan_congr (by simp [Channel.held, hhigh])
  · rw [if_neg hhigh]
    by_cases hlow : (s.chan c).queue.length ≤ s.params.lowMark ∧ (s.chan c).flowHold = true
    · rw [if_pos hlow, if_pos (by simp [Channel.clears, hlow, Nat.not_le.1 hhigh])]
      have hheld : (s.modChan c fun ch => { ch with flowHold := false }) = s.modChan c (Channel.held s.params) :=
        State.modChan_congr (by simp [Channel.held, hhigh, hlow, Nat.not_lt.2 hlow.1])
      rw [hheld]
      exact if_neg (by simpa using h)
    · rw [if_neg hlow, if_neg (by simp only [Channel.clears, Bool.and_eq_true, decide_eq_true_eq]; tauto)]
      have hheld : s.modChan c (Channel.held s.params) = s.modChan c fun ch => ch := by
        refine State.modChan_congr ?_
        simp only [Channel.held, hhigh, decide_false, Bool.false_or]
        cases hhold : (s.chan c).flowHold with
        | false => rw [Bool.false_and, ← hhold]
        | true =>
          have hdeep : s.params.lowMark < (s.chan c).queue.length := Nat.lt_of_not_le fun hle => hlow ⟨hle, hhold⟩
          rw [decide_eq_true hdeep, Bool.and_self, ← hhold]
      rw [hheld, hsame]
      rfl

theorem State.foldl_modChan_withSignals {g : Chan → Channel → Channel} (l : List Chan) (s : State) (m : List Chan) :
    l.foldl (fun t c => t.modChan c (g c)) (s.withSignals m) = (l.foldl (fun t c => t.modChan c (g c)) s).withSignals m := by
  induction l generalizing s with
  | nil => rfl
  | cons c l ih => exact ih (s.modChan c (g c))

/-- The flow holds of several channels re-evaluated. -/
theorem State.foldl_flowEval {l : List Chan} (hl : l.Nodup) {s : State} (hs : ∀ c ∈ l, c ∉ s.signals) :
    l.foldl State.flowEval s = (l.foldl (fun t c => t.modChan c (Channel.held s.params)) s).withSignals
      (s.signals ++ l.filter fun c => (s.chan c).clears s.params) := by
  induction l generalizing s with
  | nil => simp [State.withSignals]
  | cons c l ih =>
    rw [List.nodup_cons] at hl
    have hone := State.flowEval_eq (hs c List.mem_cons_self)
    have hsignals : (s.flowEval c).signals = if (s.chan c).clears s.params then s.signals ++ [c] else s.signals := by rw [hone]; rfl
    have hchan : ∀ d ∈ l, (s.flowEval c).chan d = s.chan d := fun d hd => by
      rw [hone]
      exact State.modChan_chan_other s _ (fun h => hl.1 (h ▸ hd))
    have hparams : (s.flowEval c).params = s.params := by rw [hone]; rfl
    rw [List.foldl_cons, ih hl.2 fun d hd => ?_, hparams, hsignals]
    · have hfilter : (l.filter fun d => ((s.flowEval c).chan d).clears s.params) = l.filter fun d => (s.chan d).clears s.params :=
        List.filter_congr fun d hd => by rw [hchan d hd]
      rw [hfilter, hone, State.foldl_modChan_withSignals (g := fun _ => Channel.held s.params), List.filter_cons]
      simp only [List.foldl_cons]
      split
      · rw [List.append_assoc]; rfl
      · rfl
    · rw [hsignals]
      split
      · refine fun hmem => (List.mem_append.1 hmem).elim (hs d (List.mem_cons_of_mem c hd)) fun hc => ?_
        exact hl.1 (List.mem_singleton.1 hc ▸ hd)
      · exact hs d (List.mem_cons_of_mem c hd)

/-- A changed mark, with no signal owed before. -/
theorem State.foldl_flowEval_all {s : State} (hs : s.signals = []) : allChans.foldl State.flowEval s =
    { s with chans := s.chans.map (Channel.held s.params), signals := allChans.filter fun c => (s.chan c).clears s.params } := by
  rw [State.foldl_flowEval allChans_nodup (by simp [hs]), hs, List.nil_append]
  refine OnlyChans.eq_of_chans (s := s) ?_ rfl (fun c => ?_) rfl
  · exact (State.foldl_modChan_onlyChans (g := fun _ => Channel.held s.params) allChans s).trans rfl
  · refine (State.foldl_modChan_chan (g := fun _ => Channel.held s.params) allChans_nodup s c).trans ?_
    rw [if_pos (mem_allChans c)]
    exact (Four.get_map (Channel.held s.params) s.chans c).symm

/-! ### A lowered high-risk cap (R104) -/

/-- A worker cut, with its lead prompt no longer owed where it falls due by the cut (R101, R104). -/
def Worker.cutLead (w : Worker) (cap promptLead : Nat) : Worker :=
  { w.cut cap promptLead with leadOwed := w.leadOwed && !(w.cut cap promptLead).leadDue }

theorem Worker.cut_of_watching {w : Worker} (h : w.watch = .watching) (cap lead : Nat) : w.cut cap lead =
    { w with
      remaining := w.remaining.map fun r => min r (effectiveInterval w.interval w.missed true cap)
      eff := w.eff.map fun x => min x (effectiveInterval w.interval w.missed true cap)
      lead := w.eff.map fun x => leadTime lead (min x (effectiveInterval w.interval w.missed true cap)) } := by
  simp only [Worker.cut, h]

theorem Worker.cut_of_resting {w : Worker} (h : w.watch = .resting) (cap lead : Nat) : w.cut cap lead =
    { w with remaining := w.remaining.map fun r => min r (effectiveInterval w.interval w.missed true cap) } := by
  simp only [Worker.cut, h]

theorem Worker.cut_of_other {w : Worker} (hw : w.watch ≠ .watching) (hr : w.watch ≠ .resting) (cap lead : Nat) : w.cut cap lead = w := by
  unfold Worker.cut
  split
  · exact absurd ‹_› hw
  · exact absurd ‹_› hr
  · rfl

/-- A cut made again changes nothing more. -/
theorem Worker.cut_cut (w : Worker) (cap lead : Nat) : (w.cut cap lead).cut cap lead = w.cut cap lead := by
  by_cases hw : w.watch = .watching
  · rw [Worker.cut_of_watching hw, Worker.cut_of_watching (by exact hw)]
    simp [Function.comp_def]
  · by_cases hr : w.watch = .resting
    · rw [Worker.cut_of_resting hr, Worker.cut_of_resting (by exact hr)]
      simp [Function.comp_def]
    · rw [Worker.cut_of_other hw hr, Worker.cut_of_other hw hr]

/-- A cut looks at neither the prompt nor the mark of the lead prompt, and changes neither. -/
theorem Worker.cut_marks (w : Worker) (owed : Bool) (prompt : Option PromptStatus) (cap lead : Nat) :
    ({ w with leadOwed := owed, prompt := prompt } : Worker).cut cap lead = { w.cut cap lead with leadOwed := owed, prompt := prompt } := by
  by_cases hw : w.watch = .watching
  · rw [Worker.cut_of_watching hw, Worker.cut_of_watching (by exact hw)]
  · by_cases hr : w.watch = .resting
    · rw [Worker.cut_of_resting hr, Worker.cut_of_resting (by exact hr)]
    · rw [Worker.cut_of_other hw hr, Worker.cut_of_other (by exact hw) (by exact hr)]

theorem Worker.cut_kept (w : Worker) (cap lead : Nat) :
    (w.cut cap lead).badge = w.badge ∧ (w.cut cap lead).leadOwed = w.leadOwed ∧ (w.cut cap lead).prompt = w.prompt := by
  by_cases hw : w.watch = .watching
  · rw [Worker.cut_of_watching hw]; exact ⟨rfl, rfl, rfl⟩
  · by_cases hr : w.watch = .resting
    · rw [Worker.cut_of_resting hr]; exact ⟨rfl, rfl, rfl⟩
    · rw [Worker.cut_of_other hw hr]; exact ⟨rfl, rfl, rfl⟩

theorem Worker.cutLead_unprompted (w : Worker) (cap lead : Nat) : (w.cutLead cap lead).unprompted = w.unprompted.cutLead cap lead := by
  have hcut : w.unprompted.cut cap lead = { w.cut cap lead with prompt := none } := by
    have hmarks := w.cut_marks w.leadOwed none cap lead
    obtain ⟨-, howed, -⟩ := w.cut_kept cap lead
    refine hmarks.trans ?_
    conv_lhs => rw [← howed]
  rw [Worker.cutLead, Worker.cutLead, hcut]
  rfl

theorem Worker.leadDue_owed (w : Worker) (owed : Bool) :
    ({ w with leadOwed := owed } : Worker).leadDue = (owed && ({ w with leadOwed := true } : Worker).leadDue) := by
  unfold Worker.leadDue
  cases owed <;> simp

theorem Worker.leadDue_eq (w : Worker) : w.leadDue =
    (w.watch == .watching && (w.leadOwed && w.remaining.any fun r => w.lead.any fun l => decide (0 < r ∧ r ≤ l))) := by
  unfold Worker.leadDue
  cases w.remaining <;> cases w.lead <;> simp [Bool.and_assoc]

/-- So it is with the lead prompt. -/
theorem Worker.cutLead_cutLead (w : Worker) (cap lead : Nat) : (w.cutLead cap lead).cutLead cap lead = w.cutLead cap lead := by
  obtain ⟨-, howed, -⟩ := w.cut_kept cap lead
  have hcut : (w.cutLead cap lead).cut cap lead = w.cutLead cap lead := by
    have hmarks := (w.cut cap lead).cut_marks (w.leadOwed && !(w.cut cap lead).leadDue) (w.cut cap lead).prompt cap lead
    rw [Worker.cut_cut] at hmarks
    exact hmarks
  have hdue : (w.cut cap lead).leadDue = (w.leadOwed && ({ w.cut cap lead with leadOwed := true } : Worker).leadDue) := by
    rw [← Worker.leadDue_owed, ← howed]
  have hdue' : (w.cutLead cap lead).leadDue = false := by
    rw [Worker.cutLead, Worker.leadDue_owed, hdue]
    cases w.leadOwed <;> cases ({ w.cut cap lead with leadOwed := true } : Worker).leadDue <;> rfl
  rw [Worker.cutLead, hcut, hdue', Bool.not_false, Bool.and_true]

theorem Worker.cutLead_badge (w : Worker) (cap lead : Nat) : (w.cutLead cap lead).badge = w.badge := (w.cut_kept cap lead).1

theorem State.offerPrompt_watches (s : State) (badge : Nat) (overdue : Bool) : (s.offerPrompt badge overdue).watches = s.watches := by
  have hmod : ∀ (t : State) (st : Option PromptStatus), (t.modWorker badge fun w => { w with prompt := st }).watches = t.watches :=
    fun t st => tMod_map_of Worker.badge badge (fun w => { w with prompt := st }) Worker.unprompted t.workers fun _ => rfl
  unfold State.offerPrompt
  split
  · rfl
  next w _ =>
    split
    · rfl
    next k hk =>
      split
      · exact hmod _ _
      · refine (watches_spared s.watches).offer rfl (fresh_newEntry (slot := k.slot) ?_ trivial _ .safety _ _) (by simp [newEntry]) _
          (fun t ht => (hmod t _).trans ht) fun t _ ht => (hmod t _).trans ht
        rw [State.slot_of_crew? hk]
        exact hk

theorem State.leadPrompt_watches (s : State) (badge : Nat) : (s.leadPrompt badge).watches =
    (if (s.worker? badge).any Worker.leadDue then s.modWorker badge fun w => { w with leadOwed := false } else s).watches := by
  cases hw : s.worker? badge with
  | none => simp only [State.leadPrompt, hw]; rfl
  | some w =>
    by_cases hdue : w.leadDue = true
    · rw [State.leadPrompt_of_due hw hdue, State.offerPrompt_watches]
      simp [hdue]
    · rw [State.leadPrompt_of_not_due hw hdue]
      simp [hdue]

/-- What the cut of one member makes of it, but for prompts. -/
theorem State.cutMember_worker? {s : State} {badge : Nat} {w : Worker} (hw : s.worker? badge = some w) {α : Type} (g : Worker → α)
    (hg : ∀ w, g w.unprompted = g w) :
    ((s.cutMember badge).worker? badge).map g = some (g (w.cutLead s.params.highRiskCap s.params.promptLead)) := by
  have hcut : (s.modWorker badge fun w => w.cut s.params.highRiskCap s.params.promptLead).worker? badge
      = some (w.cut s.params.highRiskCap s.params.promptLead) :=
    State.worker?_modWorker (fun w => (w.cut_kept _ _).1) hw
  obtain ⟨-, howed, -⟩ := w.cut_kept s.params.highRiskCap s.params.promptLead
  have hwatches := State.leadPrompt_watches (s.modWorker badge fun w => w.cut s.params.highRiskCap s.params.promptLead) badge
  refine (State.worker?_of_watches hwatches g hg badge).trans ?_
  rw [hcut, Option.any_some]
  by_cases hdue : (w.cut s.params.highRiskCap s.params.promptLead).leadDue = true
  · rw [if_pos hdue, State.worker?_modWorker (f := fun w => { w with leadOwed := false }) (fun _ => rfl) hcut]
    simp [Worker.cutLead, hdue]
  · rw [if_neg hdue, hcut]
    simp [Worker.cutLead, Bool.eq_false_iff.2 hdue, ← howed]

/-- The cut of one member changes no other worker but for prompts. -/
theorem State.cutMember_worker?_other {s : State} {badge b : Nat} (h : b ≠ badge) {α : Type} (g : Worker → α)
    (hg : ∀ w, g w.unprompted = g w) : ((s.cutMember badge).worker? b).map g = (s.worker? b).map g := by
  have hother : ∀ (t : State) (f : Worker → Worker), (∀ w, (f w).badge = w.badge) → (t.modWorker badge f).worker? b = t.worker? b :=
    fun t f hf => tFind_tMod_other Worker.badge f t.workers hf h
  have hwatches := State.leadPrompt_watches (s.modWorker badge fun w => w.cut s.params.highRiskCap s.params.promptLead) badge
  refine (State.worker?_of_watches hwatches g hg b).trans ?_
  split
  · rw [hother, hother _ _ fun w => (w.cut_kept _ _).1]
    exact fun _ => rfl
  · rw [hother _ _ fun w => (w.cut_kept _ _).1]

theorem State.foldl_cutMember_worker? {l : List Nat} {badge : Nat} {s : State} {v : Worker}
    (hv : (s.worker? badge).map Worker.unprompted = some v.unprompted) :
    ((l.foldl State.cutMember s).worker? badge).map Worker.unprompted
      = some (if badge ∈ l then v.cutLead s.params.highRiskCap s.params.promptLead else v).unprompted := by
  induction l generalizing s v with
  | nil => simpa using hv
  | cons b l ih =>
    have hparams : (s.cutMember b).params = s.params := congrArg Shape.params (Keeps.cutMember (.refl s)).shape
    obtain ⟨w, hw, hwv⟩ := Option.map_eq_some_iff.1 hv
    by_cases hb : b = badge
    · subst hb
      have hcut : ((s.cutMember b).worker? b).map Worker.unprompted
          = some (v.cutLead s.params.highRiskCap s.params.promptLead).unprompted := by
        rw [State.cutMember_worker? hw _ fun _ => rfl, Worker.cutLead_unprompted, hwv, ← Worker.cutLead_unprompted]
      rw [List.foldl_cons, ih hcut, hparams, Worker.cutLead_cutLead]
      simp
    · have hother : ((s.cutMember b).worker? badge).map Worker.unprompted = some v.unprompted :=
        (State.cutMember_worker?_other (Ne.symm hb) _ fun _ => rfl).trans hv
      rw [List.foldl_cons, ih hother, hparams]
      simp [Ne.symm hb]

/-- The cuts of members, in any order. -/
theorem State.cutMembers_worker? {s : State} {l : List Nat} {badge : Nat} {w : Worker} (hw : s.worker? badge = some w) :
    ((s.inOpenOrder l State.cutMember).worker? badge).map Worker.unprompted
      = some (if badge ∈ l then w.cutLead s.params.highRiskCap s.params.promptLead else w).unprompted := by
  have hperm := openOrder_perm s.choices l.length l
  refine (State.foldl_cutMember_worker? (s := { s with choices := s.choices + (l.length - 1) })
    (congrArg (Option.map Worker.unprompted) hw)).trans ?_
  simp only [hperm.mem_iff]

/-! ### SET_PARAM (R200) -/

theorem State.console_watches {s : State} {x : Xfer} {work : State → Reply} {t : State} {r : Status × List Byte}
    (hw : work (s.atRequest x) = (t, r)) : (s.console x work).watches = t.watches :=
  (watches_spared t.watches).console (congrArg (fun r : Reply => r.1.watches) hw)

theorem State.afterParam_of_mark (s : State) {n : Nat} (h : n = 8 ∨ n = 9) (old new : Nat) :
    s.afterParam n old new = allChans.foldl State.flowEval s := if_pos h

theorem State.afterParam_of_cap (s : State) {old new : Nat} (h : new < old) : s.afterParam 13 old new =
    s.inOpenOrder ((s.crews.filter fun k => s.highRisk k.slot).flatMap (·.members)) State.cutMember :=
  (if_neg (by decide)).trans (if_pos ⟨rfl, h⟩)

theorem State.afterParam_frame (s : State) (n old new : Nat) (h : ¬ (n = 13 ∧ new < old)) : (s.afterParam n old new).frame = s.frame := by
  unfold State.afterParam
  rw [if_neg h]
  split
  · exact State.foldl_frame _ (fun t c => t.flowEval_frame c) _ s
  · rfl

theorem State.afterParam_frameWatch (s : State) (n old new : Nat) : (s.afterParam n old new).frameWatch = s.frameWatch := by
  by_cases h : n = 13 ∧ new < old
  · rw [h.1, State.afterParam_of_cap s h.2]
    exact s.inOpenOrder_frameWatch _ _ fun t badge => t.cutMember_frameWatch badge
  · exact State.frameWatch_of_frame (s.afterParam_frame n old new h)

/-- Settles O10. -/
theorem setParamStores : Obligations.SetParamStores := by
  intro x n h l s old hold v
  let put : State := { s with params := s.params.put n.toNat v }
  let after := (put.atRequest x).afterParam n.toNat old v
  have hwork : askSetParam [n, h, l] (s.atRequest x) = (after, if v = be16 h l then .ok else .adjusted,
      [n] ++ u16 v ++ if n.toNat = 8 then u16 (s.params.put 8 v).lowMark else []) := by
    have hget : (s.atRequest x).params.get? n.toNat = some old := hold
    simp only [askSetParam, hget]
    refine congrArg₂ Prod.mk rfl (congrArg₂ Prod.mk (adjusted_bne v _) ?_)
    have hbyte : u8 n.toNat = [n] := by simp [u8]
    by_cases h8 : n.toNat = 8
    · simp only [h8, if_true]
      rw [← h8, hbyte]
      rfl
    · simp only [h8, if_false, hbyte]
      rfl
  have hshape : after.shape = (put.atRequest x).shape := ((put.atRequest x).afterParam_keeps n.toNat old v).shape
  refine ⟨s.console x (askSetParam [n, h, l]), rfl, State.console_replied_of_frame hwork hshape (.inl ?_) rfl rfl rfl, ?_, ?_, ?_, ?_, ?_⟩
  · split <;> rfl
  · exact congrArg Shape.params ((State.giveSignals_shape _).trans ((congrArg (fun r : Reply => r.1.shape) hwork).trans hshape))
  · intro hcap
    refine State.console_alike hwork (State.afterParam_frame _ _ _ _ ?_)
    rcases hcap with h13 | hle
    · exact fun h => absurd h.1 h13
    · exact fun h => absurd h.2 (Nat.not_lt.2 hle)
  · exact State.console_alikeButWatches hwork (State.afterParam_frameWatch _ _ _ _)
  · intro hmark marks clears hnothing
    have hafter : after = { put.atRequest x with
        chans := s.chans.map (Channel.held marks), signals := allChans.filter clears } :=
      (State.afterParam_of_mark _ hmark _ _).trans (State.foldl_flowEval_all (s := put.atRequest x) rfl)
    have hgive : after.giveSignals = { put.atRequest x with
        chans := s.chans.map (Channel.held marks), choices := s.choices + ((allChans.filter clears).length - 1) } := by
      rw [State.giveSignals_of_nothing (s := after) fun c hc => ?_, hafter]
      · rfl
      · rw [hafter] at hc ⊢
        have hchan : (s.chans.map (Channel.held marks)).get c = (s.chan c).held marks := Four.get_map _ _ _
        have hdeferred := hnothing c (List.mem_filter.1 hc).2
        exact ⟨(congrArg Channel.permitDefer hchan).trans hdeferred.1, (congrArg Channel.orderDefer hchan).trans hdeferred.2⟩
    refine (congrArg State.bare (State.console_of_signals hwork hgive)).trans ?_
    exact (State.settle_bare _).trans rfl
  · intro h13 hlow badge w hw watched isCut e left lead due
    have hcut := State.cutMembers_worker? (s := put.atRequest x) (badge := badge)
      (l := ((put.atRequest x).crews.filter fun k => (put.atRequest x).highRisk k.slot).flatMap (·.members)) hw
    have hcaps : (put.atRequest x).params.highRiskCap = v ∧ (put.atRequest x).params.promptLead = s.params.promptLead := by
      have hput : (put.atRequest x).params = s.params.put 13 v := congrArg (s.params.put · v) h13
      rw [hput]
      exact ⟨rfl, rfl⟩
    have hmem : badge ∈ ((put.atRequest x).crews.filter fun k => (put.atRequest x).highRisk k.slot).flatMap (·.members) ↔ isCut := by
      simp only [List.mem_flatMap, List.mem_filter, and_assoc]
      rfl
    rw [hcaps.1, hcaps.2] at hcut
    have hafter : after = _ := (congrArg (fun m => (put.atRequest x).afterParam m old v) h13).trans (State.afterParam_of_cap _ hlow)
    have hend : ∀ {α : Type} (g : Worker → α) {u : Worker}, (∀ w, g w.unprompted = g w) →
        (after.worker? badge).map Worker.unprompted = some u.unprompted →
        ((s.console x (askSetParam [n, h, l])).worker? badge).map g = some (g u) := by
      intro α g u hg hu
      obtain ⟨u', hu', hunprompted⟩ := Option.map_eq_some_iff.1 hu
      rw [State.worker?_of_watches (State.console_watches hwork) g hg, hu', Option.map_some, ← hg u', hunprompted, hg]
    have hcutTo : isCut → (after.worker? badge).map Worker.unprompted = some (w.cutLead v s.params.promptLead).unprompted := fun h => by
      rw [hafter, hcut, if_pos (hmem.2 h)]
    have hleft : ¬ isCut → (after.worker? badge).map Worker.unprompted = some w.unprompted := fun h => by
      rw [hafter, hcut, if_neg (mt hmem.1 h)]
    refine ⟨fun hin hwatch => ⟨?_, ?_⟩, fun hin hrest => ?_, fun hout => ?_⟩
    · rw [hend watched (fun _ => rfl) (hcutTo hin), Worker.cutLead, Worker.cut_of_watching hwatch]
    · rw [hend (·.leadOwed) (fun _ => rfl) (hcutTo hin), Worker.cutLead, Worker.cut_of_watching hwatch, Worker.leadDue_eq]
      simp only [hwatch, beq_self_eq_true, Bool.true_and]
      cases w.leadOwed <;> rfl
    · rw [hend watched (fun _ => rfl) (hcutTo hin), Worker.cutLead, Worker.cut_of_resting hrest]
    · by_cases hin : isCut
      · obtain ⟨hw, hr⟩ := hout.resolve_left (not_not.2 hin)
        rw [hend watched (fun _ => rfl) (hcutTo hin), Worker.cutLead, Worker.cut_of_other hw hr]
      · exact hend watched (fun _ => rfl) (hleft hin)

end Sys2Proof.Machine
end

section
/-!
CLEAR_ALARM: the claims of permits that resume from alarm hold, and O43.
-/

namespace Sys2Proof.Machine

/-! ### Records as the frames have them -/

section
variable {s t : State} (h : s.frameWatch = t.frameWatch)
include h

theorem State.modPermit_frameWatch_congr (serial : Nat) {f : Permit → Permit} (hf : ∀ p, (f p).frame = (f p.frame).frame) :
    (s.modPermit serial f).frameWatch = (t.modPermit serial f).frameWatch := by
  have hpermits := tMod_map_congr (fr := Permit.frame) (fun _ => Permit.frame_serial _) hf serial (congrArg State.permits h)
  show ({ s.frameWatch with permits := (tMod Permit.serial serial f s.permits).map Permit.frame } : State)
    = { t.frameWatch with permits := (tMod Permit.serial serial f t.permits).map Permit.frame }
  rw [h, hpermits]

theorem State.modDevice_frameWatch_congr (n : Nat) (f : Device → Device) :
    (s.modDevice n f).frameWatch = (t.modDevice n f).frameWatch := by
  have hdevices : s.devices = t.devices := (congrArg State.devices h :)
  show ({ s.frameWatch with devices := tMod Device.number n f s.devices } : State)
    = { t.frameWatch with devices := tMod Device.number n f t.devices }
  rw [h, hdevices]

theorem State.leaveWaits_frameWatch_congr (serial : Nat) : (s.leaveWaits serial).frameWatch = (t.leaveWaits serial).frameWatch := by
  have hdevices : s.devices = t.devices := (congrArg State.devices h :)
  show ({ s.frameWatch with devices := s.devices.map fun d => { d with waits := d.waits.erase serial } } : State)
    = { t.frameWatch with devices := t.devices.map fun d => { d with waits := d.waits.erase serial } }
  rw [h, hdevices]

theorem State.permit?_of_frameWatch (n : Nat) : (s.permit? n).map Permit.frame = (t.permit? n).map Permit.frame := by
  have hone : ∀ u : State, (u.permit? n).map Permit.frame = tFind Permit.serial n (u.permits.map Permit.frame) := fun u =>
    (tFind_map_of Permit.serial n Permit.frame u.permits Permit.frame_serial).symm
  have hpermits : s.permits.map Permit.frame = t.permits.map Permit.frame := congrArg State.permits h
  rw [hone, hone, hpermits]

theorem State.device?_of_frameWatch (n : Nat) : s.device? n = t.device? n :=
  congrArg (tFind Device.number n) (congrArg State.devices h :)

theorem State.crew?_of_frameWatch (n : Nat) : (s.crew? n).map Crew.frame = (t.crew? n).map Crew.frame := by
  have hone : ∀ u : State, (u.crew? n).map Crew.frame = tFind Crew.slot n (u.crews.map Crew.frame) := fun u =>
    (tFind_map_of Crew.slot n Crew.frame u.crews Crew.frame_slot).symm
  have hcrews : s.crews.map Crew.frame = t.crews.map Crew.frame := congrArg State.crews h
  rw [hone, hone, hcrews]

theorem State.order?_of_frameWatch (n : Nat) : (s.order? n).map Order.frame = (t.order? n).map Order.frame := by
  have hone : ∀ u : State, (u.order? n).map Order.frame = tFind Order.number n (u.orders.map Order.frame) := fun u =>
    (tFind_map_of Order.number n Order.frame u.orders Order.frame_number).symm
  have horders : s.orders.map Order.frame = t.orders.map Order.frame := congrArg State.orders h
  rw [hone, hone, horders]

end

/-- A change of a permit is found where it was made, and nowhere else. -/
theorem State.permit?_modPermit_other {s : State} {n m : Nat} {f : Permit → Permit} (hf : ∀ p, (f p).serial = p.serial) (hm : m ≠ n) :
    (s.modPermit n f).permit? m = s.permit? m := tFind_tMod_other Permit.serial f s.permits hf hm

theorem State.device?_modDevice {s : State} {n : Nat} {f : Device → Device} {d : Device} (hf : ∀ d, (f d).number = d.number)
    (hd : s.device? n = some d) : (s.modDevice n f).device? n = some (f d) :=
  (tFind_tMod_same Device.number n f s.devices hf).trans (congrArg (Option.map f) hd)

theorem State.device?_modDevice_other {s : State} {n m : Nat} {f : Device → Device} (hf : ∀ d, (f d).number = d.number) (hm : m ≠ n) :
    (s.modDevice n f).device? m = s.device? m := tFind_tMod_other Device.number f s.devices hf hm

theorem State.device?_leaveWaits (s : State) (serial n : Nat) :
    (s.leaveWaits serial).device? n = (s.device? n).map fun d => { d with waits := d.waits.erase serial } :=
  tFind_map_of Device.number n (fun d => { d with waits := d.waits.erase serial }) s.devices fun _ => rfl

/-! ### What a permit's claim does, up to traffic (R71, R86, R88) -/

/-- A permit stalled. -/
def Permit.stalledBy (p : Permit) (phase : Phase) (cause : StallCause) : Permit :=
  { p with stall := some (phase, cause), waiting := false, readback := none, issueOwed := false, state := .stalled }

theorem State.setPermitState_frameWatch {s : State} {serial : Nat} {p : Permit} (hp : s.permit? serial = some p) (new : PermitState)
    (cause : PermitCause) : (s.setPermitState serial new cause).frameWatch =
      (s.modPermit serial fun p => { p with state := new }).frameWatch := by
  simp only [State.setPermitState, hp]
  split
  · rw [State.cutCrew_frameWatch, State.post_frameWatch]
  · rw [State.post_frameWatch]

/-- A permit stalled, up to its notice (R88). -/
theorem State.stall_of_permit? {s : State} {serial : Nat} {p : Permit} (phase : Phase) (cause : StallCause)
    (hp : s.permit? serial = some p) : s.stall serial phase cause =
      ((s.leaveWaits serial).modPermit serial fun p => p.stalledBy phase cause).post
        (.permitState serial p.holder p.state .stalled (.stalled cause)) := State.stall_eq phase cause hp

/-- What a permit becomes by the answer to its claim. -/
def Permit.answered (p : Permit) (device : Nat) (what : ClaimFor) : ClaimAnswer → Permit
  | .granted a => { p with outstanding := some ⟨p.instructionIndex device what, device, what.role, a, .queued⟩, waiting := false }
  | .wait => { p with waiting := true }
  | .tagLimit => p.stalledBy .switching .tagLimit

theorem Permit.answered_serial (p : Permit) (device : Nat) (what : ClaimFor) (a : ClaimAnswer) :
    (p.answered device what a).serial = p.serial := by cases a <;> rfl

theorem Permit.answered_frame (p : Permit) (device : Nat) (what : ClaimFor) (a : ClaimAnswer) :
    (p.answered device what a).frame = (p.frame.answered device what a).frame := by
  cases a <;> simp [Permit.answered, Permit.frame, Permit.stalledBy, Permit.instructionIndex, Function.comp_def]

/-- What a permit's record and the wait lists become by the answer to its claim. -/
def State.answeredClaim (s : State) (serial device : Nat) (what : ClaimFor) (a : ClaimAnswer) : State :=
  (if a = .tagLimit then s.leaveWaits serial else s).modPermit serial fun p => p.answered device what a

theorem State.actOnClaim_frame {s : State} {serial : Nat} {p : Permit} (hp : s.permit? serial = some p) (device : Nat) (what : ClaimFor)
    (a : ClaimAnswer) : (s.actOnClaim serial device what a).frame = (s.answeredClaim serial device what a).frame := by
  cases a with
  | granted a => exact State.offerPermit_frame _ _ _
  | wait => rfl
  | tagLimit =>
    rw [State.actOnClaim, State.stall_of_permit? _ _ hp, State.post_frame]
    rfl

theorem State.answeredClaim_permit? {s : State} {serial : Nat} {p : Permit} (hp : s.permit? serial = some p) (device : Nat)
    (what : ClaimFor) (a : ClaimAnswer) : (s.answeredClaim serial device what a).permit? serial = some (p.answered device what a) := by
  unfold State.answeredClaim
  split
  · exact State.permit?_modPermit (fun p => p.answered_serial device what a) hp
  · exact State.permit?_modPermit (fun p => p.answered_serial device what a) hp

theorem State.answeredClaim_permit?_other {s : State} {serial m : Nat} (device : Nat) (what : ClaimFor) (a : ClaimAnswer)
    (hm : m ≠ serial) : (s.answeredClaim serial device what a).permit? m = s.permit? m := by
  unfold State.answeredClaim
  split
  · exact State.permit?_modPermit_other (fun p => p.answered_serial device what a) hm
  · exact State.permit?_modPermit_other (fun p => p.answered_serial device what a) hm

/-- A permit that is not to claim. -/
theorem State.claimNext_of_blocked {s : State} {serial : Nat} {p : Permit} (hp : s.permit? serial = some p)
    (h : p.hold = true ∨ p.cancelWait = true ∨ p.outstanding ≠ none ∨ p.wants = none) : s.claimNext serial = (s, none) := by
  simp only [State.claimNext, hp]
  split
  · rfl
  next hfree =>
    simp only [Bool.or_eq_true, not_or, Bool.not_eq_true, Option.isSome_eq_false_iff, Option.isNone_iff_eq_none] at hfree
    obtain ⟨⟨hhold, hwait⟩, hout⟩ := hfree
    have hwants : p.wants = none := by simpa [hhold, hwait, hout] using h
    rw [hwants]

theorem State.claimNext_of_free {s : State} {serial device : Nat} {p : Permit} {what : ClaimFor} {d : Device}
    (hp : s.permit? serial = some p) (hhold : p.hold = false) (hwait : p.cancelWait = false) (hout : p.outstanding = none)
    (hwants : p.wants = some (device, what)) (hd : s.device? device = some d) : s.claimNext serial =
      ((s.modDevice device fun d => (d.claim serial what).1).actOnClaim serial device what (d.claim serial what).2,
        some (d.claim serial what).2) := by
  simp only [State.claimNext, hp, hhold, hwait, hout, hwants, Bool.or_self, Option.isSome_none, Bool.false_eq_true, if_false,
    State.claim, hd]

/-- A claim on a device that is not loaded waits. -/
theorem State.claimNext_of_unloaded {s : State} {serial device : Nat} {p : Permit} {what : ClaimFor}
    (hp : s.permit? serial = some p) (hhold : p.hold = false) (hwait : p.cancelWait = false) (hout : p.outstanding = none)
    (hwants : p.wants = some (device, what)) (hd : s.device? device = none) : s.claimNext serial =
      (s.modPermit serial fun p => { p with waiting := true }, some .wait) := by
  simp only [State.claimNext, hp, hhold, hwait, hout, hwants, Bool.or_self, Option.isSome_none, Bool.false_eq_true, if_false,
    State.claim, hd, State.actOnClaim]

/-- What a permit's claim can do. -/
theorem State.claimNext_cases (s : State) (serial : Nat) : s.claimNext serial = (s, none) ∨
    ∃ p device what, s.permit? serial = some p ∧ p.hold = false ∧ p.wants = some (device, what)
      ∧ (s.claimNext serial = (s.modPermit serial fun p => { p with waiting := true }, some .wait)
        ∨ ∃ d, s.device? device = some d ∧ s.claimNext serial =
          ((s.modDevice device fun d => (d.claim serial what).1).actOnClaim serial device what (d.claim serial what).2,
            some (d.claim serial what).2)) := by
  cases hp : s.permit? serial with
  | none => left; simp only [State.claimNext, hp]
  | some p =>
    by_cases hblocked : p.hold = true ∨ p.cancelWait = true ∨ p.outstanding ≠ none ∨ p.wants = none
    · exact .inl (State.claimNext_of_blocked hp hblocked)
    · simp only [not_or, Bool.not_eq_true, not_not] at hblocked
      obtain ⟨hhold, hwait, hout, hwants⟩ := hblocked
      obtain ⟨⟨device, what⟩, hwants⟩ := Option.ne_none_iff_exists'.1 hwants
      refine .inr ⟨p, device, what, rfl, hhold, hwants, ?_⟩
      cases hd : s.device? device with
      | none => exact .inl (State.claimNext_of_unloaded hp hhold hwait hout hwants hd)
      | some d => exact .inr ⟨d, rfl, State.claimNext_of_free hp hhold hwait hout hwants hd⟩

/-- What a claim makes of the permit: nothing, or what the answer brings. -/
theorem State.claimNext_permit? {s : State} {serial : Nat} {p : Permit} (hp : s.permit? serial = some p) :
    ∃ p', (s.claimNext serial).1.permit? serial = some p' ∧ (p'.frame = p.frame ∨ ∃ device what a,
      p.hold = false ∧ p.wants = some (device, what) ∧ p'.frame = (p.answered device what a).frame) := by
  rcases s.claimNext_cases serial with hnone | ⟨q, device, what, hq, hhold, hwants, hwait | ⟨d, -, hclaim⟩⟩
  · rw [hnone]
    exact ⟨p, hp, .inl rfl⟩
  · obtain rfl := Option.some.inj (hp.symm.trans hq)
    rw [hwait]
    exact ⟨_, State.permit?_modPermit (by intro; rfl) hp, .inr ⟨device, what, .wait, hhold, hwants, rfl⟩⟩
  · obtain rfl := Option.some.inj (hp.symm.trans hq)
    have hp' : (s.modDevice device fun d => (d.claim serial what).1).permit? serial = some p := hp
    have hmap := State.permit?_of_frameWatch
      (State.frameWatch_of_frame (State.actOnClaim_frame hp' device what (d.claim serial what).2)) serial
    rw [State.answeredClaim_permit? hp'] at hmap
    obtain ⟨p', hp'', heq⟩ := Option.map_eq_some_iff.1 hmap
    rw [hclaim]
    exact ⟨p', hp'', .inr ⟨device, what, _, hhold, hwants, heq⟩⟩

/-- A claim changes no other permit but by traffic. -/
theorem State.claimNext_permit?_other (s : State) {serial m : Nat} (hm : m ≠ serial) :
    ((s.claimNext serial).1.permit? m).map Permit.frame = (s.permit? m).map Permit.frame := by
  rcases s.claimNext_cases serial with hnone | ⟨p, device, what, hp, -, -, hwait | ⟨d, -, hclaim⟩⟩
  · rw [hnone]
  · rw [hwait, State.permit?_modPermit_other (by intro; rfl) hm]
  · have hp' : (s.modDevice device fun d => (d.claim serial what).1).permit? serial = some p := hp
    have hframe := State.frameWatch_of_frame (State.actOnClaim_frame hp' device what (d.claim serial what).2)
    rw [hclaim, State.permit?_of_frameWatch hframe, State.answeredClaim_permit?_other _ _ _ hm]
    rfl

theorem State.offerPermit_watches (s : State) (serial : Nat) (tg : PermitTg) : (s.offerPermit serial tg).watches = s.watches :=
  (watches_spared s.watches).offerPermit rfl trivial

theorem State.post_watches (s : State) (n : Subject) : (s.post n).watches = s.watches := congrArg (List.map Worker.unprompted) (State.post_workers s n)

/-- A claim changes no worker but by its prompts. -/
theorem State.claimNext_watches (s : State) (serial : Nat) : (s.claimNext serial).1.watches = s.watches := by
  rcases s.claimNext_cases serial with hnone | ⟨p, device, what, hp, -, -, hwait | ⟨d, -, hclaim⟩⟩
  · rw [hnone]
  · rw [hwait]; rfl
  · have hp' : (s.modDevice device fun d => (d.claim serial what).1).permit? serial = some p := hp
    rw [hclaim]
    cases (d.claim serial what).2 with
    | granted a => exact State.offerPermit_watches _ _ _
    | wait => rfl
    | tagLimit =>
      rw [State.actOnClaim, State.stall_of_permit? _ _ hp']
      exact State.post_watches _ _

/-! ### Permits that resume from alarm hold (R94) -/

theorem State.resumePermit_cases {s : State} {serial : Nat} {p : Permit} (hp : s.permit? serial = some p) :
    (s.resumePermit serial = s ∧ (p.state = .issuing → p.issueOwed = false))
      ∨ (p.state ≠ .issuing ∧ s.resumePermit serial = (s.claimNext serial).1)
      ∨ (p.state = .issuing ∧ p.issueOwed = true ∧ s.resumePermit serial = s.issuePermit serial) := by
  simp only [State.resumePermit, hp]
  split
  next hst => exact .inr (.inl ⟨by rw [hst]; nofun, rfl⟩)
  next hst => exact .inr (.inl ⟨by rw [hst]; nofun, rfl⟩)
  next hst =>
    cases howed : p.issueOwed with
    | true => exact .inr (.inr ⟨hst, rfl, by simp⟩)
    | false => exact .inl ⟨by simp, fun _ => rfl⟩
  next hst => exact .inl ⟨rfl, fun h => absurd h hst⟩

theorem State.resumePermit_of_none {s : State} {serial : Nat} (hp : s.permit? serial = none) : s.resumePermit serial = s := by
  simp only [State.resumePermit, hp]

/-- What a permit is after it has resumed under no alarm hold. -/
structure Permit.Resumed (p p' : Permit) : Prop where
  hold  : p'.hold = false
  issue : p.state = .issuing → p'.state = .issuing ∧ p'.issueOwed = false ∧ p'.issueCount = p.issueCount + if p.issueOwed then 1 else 0

theorem Permit.Resumed.of_frame {p p' q : Permit} (h : p.Resumed p') (hq : q.frame = p'.frame) : p.Resumed q :=
  ⟨(congrArg Permit.hold hq).trans h.hold, fun hst =>
    have ⟨hstate, howed, hcount⟩ := h.issue hst
    ⟨(congrArg Permit.state hq).trans hstate, (congrArg Permit.issueOwed hq).trans howed, (congrArg Permit.issueCount hq).trans hcount⟩⟩

theorem Permit.Resumed.of_frame_left {p p' q : Permit} (h : p.Resumed p') (hq : q.frame = p.frame) : q.Resumed p' :=
  ⟨h.hold, fun hst => by
    have hcount : q.issueCount = p.issueCount := (congrArg Permit.issueCount hq :)
    have howed : q.issueOwed = p.issueOwed := (congrArg Permit.issueOwed hq :)
    rw [hcount, howed]
    exact h.issue ((congrArg Permit.state hq).symm.trans hst)⟩

/-- A permit that has resumed stays so when it is called on again. -/
theorem Permit.Resumed.trans {p p' q : Permit} (h : p.Resumed p') (h' : p'.Resumed q) : p.Resumed q :=
  ⟨h'.hold, fun hst => by
    obtain ⟨hstate, howed, hcount⟩ := h.issue hst
    obtain ⟨hstate', howed', hcount'⟩ := h'.issue hstate
    refine ⟨hstate', howed', ?_⟩
    rw [hcount', hcount, howed]
    rfl⟩

theorem State.resumePermit_permit? {s : State} {serial : Nat} {p : Permit} (hp : s.permit? serial = some p) (hhold : p.hold = false) :
    ∃ p', (s.resumePermit serial).permit? serial = some p' ∧ p.Resumed p' := by
  rcases State.resumePermit_cases hp with ⟨hsame, howed⟩ | ⟨hst, hclaim⟩ | ⟨hst, howed, hissue⟩
  · rw [hsame]
    exact ⟨p, hp, hhold, fun h => ⟨h, howed h, by simp [howed h]⟩⟩
  · rw [hclaim]
    obtain ⟨p', hp', hframe⟩ := State.claimNext_permit? hp
    refine ⟨p', hp', ?_, fun h => absurd h hst⟩
    rcases hframe with hframe | ⟨device, what, a, -, -, hframe⟩
    · exact (congrArg Permit.hold hframe).trans hhold
    · refine (congrArg Permit.hold hframe).trans ?_
      cases a <;> exact hhold
  · rw [hissue]
    have hmap := State.permit?_of_frameWatch (State.frameWatch_of_frame (s.issuePermit_frame serial)) serial
    rw [State.permit?_modPermit (by intro; rfl) hp] at hmap
    obtain ⟨p', hp', hframe⟩ := Option.map_eq_some_iff.1 hmap
    exact ⟨p', hp', (congrArg Permit.hold hframe).trans hhold, fun _ => ⟨(congrArg Permit.state hframe).trans hst,
      congrArg Permit.issueOwed hframe, (congrArg Permit.issueCount hframe).trans (by simp [howed]; rfl)⟩⟩

theorem State.resumePermit_permit?_other (s : State) {serial m : Nat} (hm : m ≠ serial) :
    ((s.resumePermit serial).permit? m).map Permit.frame = (s.permit? m).map Permit.frame := by
  cases hp : s.permit? serial with
  | none => rw [State.resumePermit_of_none hp]
  | some p =>
    rcases State.resumePermit_cases hp with ⟨hsame, -⟩ | ⟨-, hclaim⟩ | ⟨-, -, hissue⟩
    · rw [hsame]
    · rw [hclaim, State.claimNext_permit?_other s hm]
    · rw [hissue, State.permit?_of_frameWatch (State.frameWatch_of_frame (s.issuePermit_frame serial)),
        State.permit?_modPermit_other (by intro; rfl) hm]

theorem State.resumePermit_watches (s : State) (serial : Nat) : (s.resumePermit serial).watches = s.watches := by
  cases hp : s.permit? serial with
  | none => rw [State.resumePermit_of_none hp]
  | some p =>
    rcases State.resumePermit_cases hp with ⟨hsame, -⟩ | ⟨-, hclaim⟩ | ⟨-, -, hissue⟩
    · rw [hsame]
    · rw [hclaim, State.claimNext_watches]
    · rw [hissue]; exact State.offerPermit_watches _ _ _

/-- A crew's permits after it has left the alarm condition: those that it holds have resumed, and the others are as they were. -/
theorem State.resumeAll_permit? {l : List Nat} {s : State} {n : Nat} {p : Permit} (hp : s.permit? n = some p) :
    ∃ p', (l.foldl (fun t serial => (t.modPermit serial fun p => { p with hold := false }).resumePermit serial) s).permit? n = some p'
      ∧ (n ∉ l → p'.frame = p.frame) ∧ (n ∈ l → p.Resumed p') := by
  induction l generalizing s p with
  | nil => exact ⟨p, hp, fun _ => rfl, fun h => absurd h List.not_mem_nil⟩
  | cons m l ih =>
    rw [List.foldl_cons]
    by_cases hm : m = n
    · subst hm
      obtain ⟨p1, hp1, hone⟩ := State.resumePermit_permit? (State.permit?_modPermit (f := fun p => { p with hold := false }) (fun _ => rfl) hp) rfl
      obtain ⟨p', hp', hout, hin⟩ := ih hp1
      refine ⟨p', hp', fun h => absurd List.mem_cons_self h, fun _ => ?_⟩
      have hp1 : p.Resumed p1 := ⟨hone.hold, hone.issue⟩
      by_cases hl : m ∈ l
      · exact hp1.trans (hin hl)
      · exact hp1.of_frame (hout hl)
    · have hother : (((s.modPermit m fun p => { p with hold := false }).resumePermit m).permit? n).map Permit.frame = some p.frame := by
        rw [State.resumePermit_permit?_other _ (Ne.symm hm), State.permit?_modPermit_other (by intro; rfl) (Ne.symm hm), hp]
        rfl
      obtain ⟨p1, hp1, hframe⟩ := Option.map_eq_some_iff.1 hother
      obtain ⟨p', hp', hout, hin⟩ := ih hp1
      refine ⟨p', hp', fun h => ?_, fun h => ?_⟩
      · exact (hout fun hl => h (List.mem_cons_of_mem m hl)).trans hframe
      · exact (hin ((List.mem_cons.1 h).resolve_left (Ne.symm hm))).of_frame_left hframe.symm

theorem State.resumePermits_watches (s : State) (slot : Nat) : (s.resumePermits slot).watches = s.watches :=
  List.foldlRecOn (motive := fun t : State => t.watches = s.watches) _ _ rfl fun _ ht serial _ => (State.resumePermit_watches _ serial).trans ht

theorem State.mem_heldBy {s : State} {slot serial : Nat} :
    serial ∈ s.heldBy slot ↔ ∃ p ∈ s.permits, p.serial = serial ∧ p.holder = slot ∧ p.state ≠ .closed := by
  simp [State.heldBy, and_assoc, and_comm]

/-! ### CLEAR_ALARM (R117) -/

theorem State.leaveSets_frame (s : State) (a : AlarmRef) : (s.leaveSets a).frame =
    ({ s.modChans (fun ch => { ch with alarmSet := ch.alarmSet.erase a }) with alarmOrder := s.alarmOrder.erase a } : State).frame :=
  State.foldl_frame _ (fun t c => t.settleCall_frame c) _ _

theorem State.settleCall_onlyChans (s : State) (c : Chan) : OnlyChans s (s.settleCall c) := by
  unfold State.settleCall
  split
  · exact .refl s
  · exact s.withdrawOn_onlyChans c _

/-- No worker and no permit changes when an alarm leaves its sets. -/
theorem State.leaveSets_records (s : State) (a : AlarmRef) : (s.leaveSets a).workers = s.workers ∧ (s.leaveSets a).crews = s.crews
    ∧ (s.leaveSets a).permits = s.permits ∧ (s.leaveSets a).params = s.params := by
  have h : OnlyChans ((s.modChans fun ch => { ch with alarmSet := ch.alarmSet.erase a }).withAlarmOrder (s.alarmOrder.erase a)) (s.leaveSets a) :=
    OnlyChans.foldl (fun t c => t.settleCall_onlyChans c) _ _
  exact ⟨h.workers, h.crews, h.permits, by rw [h]; rfl⟩

theorem State.reportCondition_watches (s : State) (slot : Nat) (was : Bool) : (s.reportCondition slot was).watches = s.watches := by
  unfold State.reportCondition
  split
  · exact List.foldlRecOn (motive := fun t : State => t.watches = s.watches) _ _ rfl fun _ ht _ _ => ht
  · exact s.resumePermits_watches slot
  · rfl

/-- A crew's permits when an alarm of it has been cleared: they resume where it was the last. -/
theorem State.reportCleared_permit? {s : State} {slot n : Nat} {p : Permit} (hp : s.permit? n = some p) :
    ∃ p', (s.reportCondition slot true).permit? n = some p'
      ∧ (s.inAlarm slot = true ∨ n ∉ s.heldBy slot → p'.frame = p.frame) ∧ (s.inAlarm slot = false → n ∈ s.heldBy slot → p.Resumed p') := by
  cases halarm : s.inAlarm slot with
  | true =>
    simp only [State.reportCondition, halarm]
    exact ⟨p, hp, fun _ => rfl, nofun⟩
  | false =>
    simp only [State.reportCondition, halarm]
    obtain ⟨p', hp', hout, hin⟩ := State.resumeAll_permit? (l := s.heldBy slot) hp
    exact ⟨p', hp', fun h => hout (h.resolve_left nofun), fun _ => hin⟩

theorem State.inAlarm_eq_false_iff {s : State} {slot : Nat} : s.inAlarm slot = false ↔
    (∀ w ∈ s.workers, w.crew = slot → ¬ (w.watch = .alarm ∨ w.watch = .acknowledged)) ∧ ∀ k, s.crew? slot = some k → k.alarm = .none := by
  have hcrew : ((s.crew? slot).any fun k => k.alarm != .none) = false ↔ ∀ k, s.crew? slot = some k → k.alarm = .none := by
    cases s.crew? slot with
    | none => simp
    | some k => simp
  rw [State.inAlarm, Bool.or_eq_false_iff, hcrew, List.any_eq_false]
  refine and_congr (forall₂_congr fun w _ => ?_) .rfl
  rw [Bool.and_eq_true, beq_iff_eq, WatchState.inAlarm_iff, not_and]

theorem State.mem_heldBy_of_frame {s t : State} (h : s.frame = t.frame) (slot serial : Nat) : serial ∈ s.heldBy slot ↔ serial ∈ t.heldBy slot := by
  have hpermits : s.permits.map Permit.frame = t.permits.map Permit.frame := congrArg State.permits h
  have hone : ∀ u : State, serial ∈ u.heldBy slot ↔
      ∃ p ∈ u.permits.map Permit.frame, p.serial = serial ∧ p.holder = slot ∧ p.state ≠ .closed := fun u => by
    simp only [State.mem_heldBy, List.mem_map, exists_exists_and_eq_and]
    rfl
  rw [hone, hone, hpermits]

theorem State.console_permit? {s t : State} {x : Xfer} {work : State → Reply} {r : Status × List Byte}
    (hw : work (s.atRequest x) = (t, r)) (n : Nat) :
    ((s.console x work).permit? n).map Permit.frame = (t.permit? n).map Permit.frame := by
  rw [State.console_eq, State.settle_permit?, State.respond_permit?, hw]
  exact State.permit?_of_frameWatch t.giveSignals_frameWatch n

/-- What CLEAR_ALARM leaves of the crew's permits (R94, R117): they resume where the alarm was the last of its crew. -/
theorem State.cleared_permits {s u : State} {x : Xfer} {work : State → Reply} {r : Status × List Byte} {slot : Nat} {calm : Prop}
    (hw : work (s.atRequest x) = (u.reportCondition slot true, r)) {v : State} (hframe : u.frame = v.frame) (hpermits : v.permits = s.permits)
    (hcalm : v.inAlarm slot = false ↔ calm) (serial : Nat) {p : Permit} (hp : s.permit? serial = some p) :
    ∃ p', (s.console x work).permit? serial = some p'
      ∧ (calm → p.holder = slot → p.state ≠ .closed → p'.hold = false
          ∧ (p.state = .issuing → p.issueOwed = true → p'.issueCount = p.issueCount + 1 ∧ p'.issueOwed = false))
      ∧ (¬ calm ∨ (∀ q ∈ s.permits, q.serial = serial → q.holder ≠ slot ∨ q.state = .closed) → p'.hold = p.hold) := by
  have hheld : serial ∈ u.heldBy slot ↔ ∃ q ∈ s.permits, q.serial = serial ∧ q.holder = slot ∧ q.state ≠ .closed := by
    rw [State.mem_heldBy_of_frame hframe, State.mem_heldBy, hpermits]
  have hp1 : (u.permit? serial).map Permit.frame = some p.frame := by
    rw [State.permit?_of_frameWatch (State.frameWatch_of_frame hframe), State.permit?, hpermits]
    exact congrArg (Option.map Permit.frame) hp
  rw [← State.inAlarm_of_frame hframe] at hcalm
  obtain ⟨p1, hp1, hframe1⟩ := Option.map_eq_some_iff.1 hp1
  obtain ⟨p2, hp2, hsame, hresumed⟩ := State.reportCleared_permit? hp1
  have hp3 := State.console_permit? hw serial
  rw [hp2] at hp3
  obtain ⟨p3, hp3, hframe3⟩ := Option.map_eq_some_iff.1 hp3
  refine ⟨p3, hp3, fun hc hholder hstate => ?_, fun hout => ?_⟩
  · have hres := ((hresumed (hcalm.2 hc) (hheld.2 ⟨p, (tFind_some Permit.serial hp).2, State.serial_of_permit? hp, hholder, hstate⟩)).of_frame
      hframe3).of_frame_left hframe1.symm
    refine ⟨hres.hold, fun hissuing howed => ?_⟩
    obtain ⟨-, hdone, hcount⟩ := hres.issue hissuing
    exact ⟨by rw [hcount, howed]; rfl, hdone⟩
  · have hstill : p2.frame = p1.frame := hsame <| hout.imp (fun hc => by simpa using mt hcalm.1 hc) fun hno hmem => by
      obtain ⟨q, hq, hserial, hholder, hstate⟩ := hheld.1 hmem
      exact (hno q hq hserial).elim (· hholder) hstate
    exact (congrArg Permit.hold ((hframe3.trans hstill).trans hframe1) :)

/-- The sets after an alarm has left (R117, R119), without its calls. -/
def State.leftSets (s : State) (a : AlarmRef) : State :=
  { s.modChans (fun ch => { ch with alarmSet := ch.alarmSet.erase a }) with alarmOrder := s.alarmOrder.erase a }

/-- What CLEAR_ALARM makes of a worker, before the restart. -/
def Worker.cleared (w : Worker) : Worker := { w with escal := none, escalated := false, watch := .watching }

/-- What CLEAR_ALARM makes of a crew. -/
def Crew.cleared (k : Crew) : Crew := { k with alarm := .none, escal := none, escalated := false }

/-- A worker's watch restarted after its alarm was cleared. -/
theorem State.clearedWatch {s : State} {badge : Nat} {w : Worker} (hw : s.worker? badge = some w) (a : AlarmRef) {e l : Nat}
    (he : e = effectiveInterval w.interval w.missed (s.highRisk w.crew) s.params.highRiskCap) (hl : l = leadTime s.params.promptLead e) :
    (((s.leaveSets a).modWorker badge Worker.cleared).restart badge).frame
        = ((s.leftSets a).modWorker badge fun w => w.cleared.restarted e l).frame
      ∧ ∀ {t : State}, t.watches = (((s.leaveSets a).modWorker badge Worker.cleared).restart badge).watches →
        ∀ {α : Type} (g : Worker → α), (∀ w, g w.unprompted = g w) →
          (t.worker? badge).map g = some (g (w.cleared.restarted e l)) := by
  obtain ⟨hworkers, -, hpermits, hparams⟩ := s.leaveSets_records a
  have hw' : ((s.leaveSets a).modWorker badge Worker.cleared).worker? badge = some w.cleared :=
    State.worker?_modWorker (fun _ => rfl) ((congrArg (tFind Worker.badge badge) hworkers).trans hw)
  have hrisk : ((s.leaveSets a).modWorker badge Worker.cleared).highRisk w.crew = s.highRisk w.crew :=
    congrArg (fun l : List Permit => l.any fun p => p.holder == w.crew && p.state.active) hpermits
  have he' : e = effectiveInterval w.cleared.interval w.cleared.missed
      (((s.leaveSets a).modWorker badge Worker.cleared).highRisk w.cleared.crew)
      ((s.leaveSets a).modWorker badge Worker.cleared).params.highRiskCap := by
    rw [show w.cleared.crew = w.crew from rfl, hrisk, State.modWorker_params, hparams]
    exact he
  have hl' : l = leadTime ((s.leaveSets a).modWorker badge Worker.cleared).params.promptLead e := by
    rw [State.modWorker_params, hparams]
    exact hl
  refine ⟨?_, fun ht _ g hg => State.restart_worker? hw' he' hl' ht g hg⟩
  rw [State.restart_eq hw' he' hl', State.strike_frame, State.modWorker_modWorker _ _ _ (by intro; rfl)]
  exact State.modWorker_frame_congr (s.leaveSets_frame a) badge fun _ => rfl

/-- No other alarm of a worker's crew stands, as the roster tells after the clearing. -/
theorem State.calm_of_cleared {s : State} {w : Worker} {badge e l : Nat} (hbadge : w.badge = badge) :
    (∀ v ∈ (s.modWorker badge fun w => w.cleared.restarted e l).workers, v.crew = w.crew → ¬ (v.watch = .alarm ∨ v.watch = .acknowledged))
      ↔ ∀ v ∈ s.workers, v.crew = w.crew → v.badge ≠ w.badge → ¬ (v.watch = .alarm ∨ v.watch = .acknowledged) := by
  simp only [State.modWorker_workers, tMod, List.forall_mem_map, hbadge]
  refine forall₂_congr fun v _ => ?_
  by_cases hv : v.badge = badge
  · simp [hv, Worker.restarted, Worker.cleared]
  · simp [hv]

theorem State.modWorker_frameWatch_ext (s : State) (badge : Nat) {f g : Worker → Worker} (h : ∀ w, (f w).frameWatch = (g w).frameWatch) :
    (s.modWorker badge f).frameWatch = (s.modWorker badge g).frameWatch := by
  have hworkers : (tMod Worker.badge badge f s.workers).map Worker.frameWatch = (tMod Worker.badge badge g s.workers).map Worker.frameWatch := by
    simp only [tMod, List.map_map]
    refine List.map_congr_left fun w _ => ?_
    simp only [Function.comp_apply]
    split
    · exact h w
    · rfl
  exact congrArg (fun l => { s.frameWatch with workers := l }) hworkers

/-- Settles O43. -/
theorem clearAlarmEnds : Obligations.ClearAlarmEnds := by
  intro x h l b s stands holds
  have hone : (1 : Byte).toNat = 1 := by decide
  have htwo : (2 : Byte).toNat = 2 := by decide
  constructor
  · intro w h1 h2 hw
    have hask := (askClearAlarm_worker (s := s.atRequest x) (h := h) (l := l) hone).trans
      (State.onWorker_of_worker? (s := s.atRequest x) _ (by omega) hw)
    constructor
    · intro hno hno'
      refine refuses_of_refuse rfl (hask.trans (if_pos ?_))
      rw [Bool.not_eq_true', Bool.eq_false_iff, ne_eq, WatchState.inAlarm_iff]
      tauto
    · intro hyes
      have hbadge : w.badge = be16 h l := State.badge_of_worker? hw
      have hwork := hask.trans (if_neg (by rw [WatchState.inAlarm_iff.2 hyes]; nofun))
      obtain ⟨hframe, hwatch⟩ := State.clearedWatch (s := s.atRequest x) hw (.worker (be16 h l)) rfl rfl
      have hwas : (s.atRequest x).inAlarm w.crew = true := by
        by_contra hcalm
        exact (State.inAlarm_eq_false_iff.1 (Bool.eq_false_iff.2 hcalm)).1 w (tFind_some Worker.badge hw).2 rfl hyes
      simp only [State.clearWorker, hbadge, hwas] at hwork
      have hframe' := (State.post_frame _ (.watchState (be16 h l) w.crew w.watch .watching .request)).trans hframe
      refine ⟨s.console x (askClearAlarm [1, h, l]), rfl, State.console_replied_of_frame hwork ?_ (.inl rfl) rfl rfl rfl,
        State.console_alikeButPermits hwork ?_, ?_, ?_⟩
      · refine (State.reportCondition_shape _ _ _).trans ((State.shape_of_frame hframe').trans ?_)
        exact State.modWorker_shape_of _ _ _ fun _ => rfl
      · refine (State.reportCondition_framePermits _ _ _).trans ?_
        refine (State.framePermits_of_frame hframe').trans (State.framePermits_of_frameWatch ?_)
        exact State.modWorker_frameWatch_ext ((s.leftSets (.worker (be16 h l))).atRequest x) (be16 h l) fun _ => rfl
      · refine (hwatch ?_ (fun w => (w.eff, w.lead, w.remaining, w.graceLeft, w.leadOwed)) fun _ => rfl).trans rfl
        rw [State.console_watches hwork, State.reportCondition_watches, State.post_watches]
        rfl
      · refine fun serial p hp => State.cleared_permits hwork hframe' rfl ?_ serial hp
        refine State.inAlarm_eq_false_iff.trans (and_congr ?_ .rfl)
        exact State.calm_of_cleared hbadge
  · intro k hb hk
    have hask := (askClearAlarm_crew (s := s.atRequest x) htwo).trans (State.onCrew_of_crew? (s := s.atRequest x) _ hb hk)
    refine ⟨fun hno => refuses_of_refuse rfl (hask.trans (if_pos hno)), fun hyes => ?_⟩
    have hslot : k.slot = b.toNat := State.slot_of_crew? hk
    have hwork := hask.trans (if_neg hyes)
    have hwas : (s.atRequest x).inAlarm b.toNat = true := State.inAlarm_of_crew (s := s.atRequest x) hk hyes
    simp only [State.clearCrew, hslot, hwas] at hwork
    have hframe : (((s.atRequest x).leaveSets (.crew b.toNat)).modCrew b.toNat Crew.cleared).frame
        = (((s.atRequest x).leftSets (.crew b.toNat)).modCrew b.toNat Crew.cleared).frame :=
      State.modCrew_frame_congr (State.leaveSets_frame _ _) b.toNat fun k => by simp [Crew.cleared, Crew.frame, sort_sort]
    refine ⟨s.console x (askClearAlarm [2, b]), rfl, State.console_replied_of_frame hwork ?_ (.inl rfl) rfl rfl rfl,
      State.console_alikeButPermits hwork ?_, ?_⟩
    · rw [State.reportCondition_shape]
      refine (State.shape_of_frame hframe).trans ?_
      exact State.modCrew_shape_of _ _ _ fun _ => rfl
    · rw [State.reportCondition_framePermits]
      exact State.framePermits_of_frame hframe
    · refine fun serial p hp => State.cleared_permits hwork hframe rfl ?_ serial hp
      refine State.inAlarm_eq_false_iff.trans ⟨fun h => h.1, fun h => ⟨h, fun k' hk' => ?_⟩⟩
      have hkept := State.crew?_modCrew (s := (s.atRequest x).leftSets (.crew b.toNat)) (f := Crew.cleared) (fun _ => rfl) hk
      rw [← Option.some.inj (hkept.symm.trans hk')]
      rfl

end Sys2Proof.Machine
end

section
/-!
The channels' controllers and the modem lines (R140, R141): O56.
-/

namespace Sys2Proof.Machine
/-! ### The channels' controllers (7.2) -/

/-- The controllers of the channels: all of each channel but what telegram traffic changes. -/
def State.airs (s : State) : Four Channel := s.chans.map Channel.frame

section
variable {s t : State}

theorem State.airs_of_frame (h : t.frame = s.frame) : t.airs = s.airs := (congrArg State.chans h :)

theorem State.airs_of_framePermits (h : t.framePermits = s.framePermits) : t.airs = s.airs := (congrArg State.chans h :)

theorem State.air_of_airs (h : t.airs = s.airs) (c : Chan) : (t.chan c).air = (s.chan c).air := by
  have hget : (t.airs).get c = (s.airs).get c := congrArg (Four.get · c) h
  simp only [State.airs, Four.get_map] at hget
  exact congrArg (fun ch : Channel => { ch with key := false }) hget

@[simp] theorem State.post_airs (n : Subject) : (s.post n).airs = s.airs := State.airs_of_frame (State.post_frame _ _)

@[simp] theorem State.removeEntry_airs (c : Chan) (e : Entry) : (s.removeEntry c e).airs = s.airs :=
  State.airs_of_frame (State.removeEntry_frame _ _ _)

@[simp] theorem State.leaveQueue_airs (slot n : Nat) : (s.leaveQueue slot n).airs = s.airs :=
  (State.airs_of_frame (State.leaveQueue_frame s slot n)).trans rfl

@[simp] theorem State.checkCrewOf_airs (n : Nat) : (s.checkCrewOf n).airs = s.airs :=
  State.airs_of_frame (State.checkCrewOf_frame _ _)

@[simp] theorem State.offerFollowUp_airs (n : Nat) : (s.offerFollowUp n).airs = s.airs :=
  State.airs_of_frame (State.offerFollowUp_frame _ _)

@[simp] theorem State.followWithCancel_airs (n : Nat) : (s.followWithCancel n).airs = s.airs := by
  have hcleared (t : State) (ht : t.airs = s.airs) :
      (((t.withOwed (t.owed.erase n)).modOrder n fun o => { o with followUp := some (.cancel, .owed) }).offerFollowUp n).airs
        = s.airs := (State.offerFollowUp_airs n).trans ht
  rw [State.followWithCancel]
  refine hcleared _ ?_
  split
  · exact State.airs_of_frame (State.withdraw_frame _ _)
  · exact State.airs_of_frame (State.unlink_frame _ _)
  · rfl

@[simp] theorem State.orderDelivered_airs (n : Nat) : (s.orderDelivered n).airs = s.airs := by
  rw [State.orderDelivered]
  split
  · rfl
  · split
    · exact (State.checkCrewOf_airs n).trans ((State.post_airs _).trans rfl)
    · split
      · exact (State.checkCrewOf_airs n).trans ((State.followWithCancel_airs n).trans rfl)
      · exact (State.checkCrewOf_airs n).trans rfl

@[simp] theorem State.orderFailed_airs (n : Nat) (cause : OrderCause) : (s.orderFailed n cause).airs = s.airs := by
  rw [State.orderFailed]
  split
  · rfl
  · split
    · split
      · exact (State.leaveQueue_airs _ n).trans ((State.post_airs _).trans rfl)
      · exact (State.post_airs _).trans rfl
    · exact State.airs_of_frame (State.unlinkOrder_frame _ _)

@[simp] theorem State.followUpFailed_airs (n : Nat) : (s.followUpFailed n).airs = s.airs := by
  rw [State.followUpFailed]
  split
  · rfl
  · exact (State.post_airs _).trans (State.airs_of_frame (State.setFollowUp_frame _ _ _))

@[simp] theorem State.setStanding_airs (slot failures : Nat) (reach : Reach) (heard : Bool) :
    (s.setStanding slot failures reach heard).airs = s.airs := by
  cases h : s.crew? slot with
  | none => rw [State.setStanding, h]
  | some k => exact (State.airs_of_frame (State.setStanding_frame s slot failures reach heard h)).trans rfl

theorem State.rosterTakes_airs (e : Entry) (f : State → Nat → State) (hf : ∀ t slot, (f t slot).airs = t.airs) :
    (s.rosterTakes e f).airs = s.airs := by
  rw [State.rosterTakes]
  split
  · exact hf s _
  · rfl

@[simp] theorem State.rosterHeard_airs (slot : Nat) : (s.rosterHeard slot).airs = s.airs := State.setStanding_airs ..

@[simp] theorem State.rosterFailure_airs (slot : Nat) : (s.rosterFailure slot).airs = s.airs := by
  rw [State.rosterFailure]
  split
  · rfl
  · exact State.setStanding_airs ..

@[simp] theorem State.ownerDelivered_airs (c : Chan) (e : Entry) : (s.ownerDelivered c e).airs = s.airs := by
  rw [State.ownerDelivered]
  split
  · exact State.orderDelivered_airs _
  · split
    · exact State.airs_of_frame (State.setFollowUp_frame _ _ _)
    · rfl
  · split
    · exact State.airs_of_framePermits (State.permitDelivered_framePermits _ _ _)
    · rfl
  · exact State.airs_of_frame (State.setPrompts_frame _ _ _ _)
  · exact State.airs_of_frame (State.textResult_frame _ _ _ _)
  all_goals rfl

@[simp] theorem State.ownerFailed_airs (c : Chan) (e : Entry) (cause : OrderCause) (r : TextOutcome) :
    (s.ownerFailed c e cause r).airs = s.airs := by
  rw [State.ownerFailed]
  split
  · exact State.orderFailed_airs _ _
  · split
    · exact State.followUpFailed_airs _
    · rfl
  · split
    · exact State.airs_of_framePermits (State.permitFailed_framePermits _ _ _)
    · rfl
  · exact State.airs_of_frame (State.setPrompts_frame _ _ _ _)
  · exact State.airs_of_frame (State.textResult_frame _ _ _ _)
  all_goals rfl

@[simp] theorem State.endFailed_airs (c : Chan) (e : Entry) (cause : FailCause) : (s.endFailed c e cause).airs = s.airs := by
  rw [State.endFailed]
  split
  · exact (State.airs_of_frame (State.endUnlinked_frame _ _)).trans (State.removeEntry_airs c e)
  · split
    · exact State.airs_of_frame (State.requeue_frame _ _ _)
    · refine (State.rosterTakes_airs _ _ fun t slot => State.rosterFailure_airs slot).trans ?_
      rw [State.ownerFailed_airs, State.removeEntry_airs]

@[simp] theorem State.endSent_airs (c : Chan) (e : Entry) : (s.endSent c e).airs = s.airs := by
  rw [State.endSent]
  split
  · dsimp only
    split
    · exact State.removeEntry_airs c e
    · split
      · exact State.airs_of_frame (State.modFlying_frame _ _ _)
      · split
        · exact State.removeEntry_airs c e
        · exact State.airs_of_frame (State.modFlying_frame _ _ _)
  · exact (State.airs_of_frame (State.textResult_frame _ _ _ _)).trans (State.removeEntry_airs c e)

/-- What the end of an attempt changes in its channel's controller (R151). -/
def Channel.unattempted (ch : Channel) : Channel := { ch with attempt := none, replyWindow := none, txFrame := [] }

theorem State.endAttempt_of_idle {c : Chan} {r : Result} (h : s.flying c = none) : s.endAttempt c r = s := by
  rw [State.endAttempt, h]

/-- Beside its channel's attempt, the end of an attempt leaves every controller as it was (R151). -/
theorem State.endAttempt_airs {c : Chan} {r : Result} {e : Entry} (h : s.flying c = some e) :
    (s.endAttempt c r).airs = (s.modChan c Channel.unattempted).airs := by
  rw [State.endAttempt, h]
  dsimp only
  split
  · exact State.airs_of_frame (State.endOrphan_frame _ _ _ _)
  · split
    · refine (State.rosterTakes_airs _ _ fun t slot => State.rosterHeard_airs slot).trans ?_
      rw [State.ownerDelivered_airs, State.removeEntry_airs]
      rfl
    · rw [State.ownerFailed_airs, State.removeEntry_airs]
      rfl
    · rw [State.endFailed_airs]
      rfl
    · rw [State.endSent_airs]
      rfl

theorem State.settle_air (s : State) (c : Chan) : (s.settle.chan c).air = (s.chan c).air := by
  have hkey : s.settle.chan c = { s.chan c with key := (s.chan c).state.keyed } :=
    s.modChans_chan c fun ch => { ch with key := ch.state.keyed }
  rw [hkey]
  rfl

theorem State.event_air (work : State → State) (c : Chan) : ((s.event work).chan c).air = ((work s.atEvent).chan c).air := by
  rw [State.event_eq]
  exact (State.settle_air _ c).trans (State.air_of_airs (State.airs_of_frame (State.giveSignals_frame _)) c)

end
/-! ### The modem lines (R140, R141) -/

/-- A channel whose READY has become inactive while it was in service (R140). -/
def Channel.fallen (failoverTime : Nat) (ch : Channel) : Channel :=
  { ({ ch with ready := false } : Channel).offAir with state := .down, failover := some failoverTime, txFrame := [] }

theorem State.readyUp_of_not_down {s : State} {c : Chan} (h : (s.chan c).state ≠ .down) :
    s.readyUp c = s.modChan c fun ch => { ch with ready := true } := if_neg h

theorem State.readyUp_of_down {s : State} {c : Chan} (h : (s.chan c).state = .down) : (s.readyUp c).frame =
    (s.modChan c fun ch =>
      { ch with ready := true, state := .idle, failover := none, failback := some s.params.failoverTime, txFrame := [] }).frame := by
  rw [State.readyUp, if_pos h, State.enterIdleFromDown_frame, State.modChan_modChan]
  rfl

/-- A state in which a channel has left the air with its READY (R140). -/
def State.fell (s : State) (c : Chan) : State :=
  (s.modChan c (Channel.fallen s.params.failoverTime)).post (.channelState c (s.chan c).state .down .ready)

theorem State.readyDown_of_in_service {s : State} {c : Chan} (h : s.inService c = true) :
    s.readyDown c = (s.fell c).endAttempt c (.failed .carrierLost) := by
  rw [State.readyDown, if_pos h, State.enterDown, State.modChan_modChan, State.modChan_modChan]
  rfl

theorem State.fell_chan (s : State) (c : Chan) : (s.fell c).chan c = (s.chan c).fallen s.params.failoverTime := by
  rw [State.fell, State.post_chan, State.modChan_chan_same]

theorem State.fell_chan_other (s : State) {c c' : Chan} (h : c' ≠ c) : (s.fell c).chan c' = s.chan c' := by
  rw [State.fell, State.post_chan, State.modChan_chan_other _ _ (Ne.symm h)]

theorem State.fell_flying (s : State) (c : Chan) : (s.fell c).flying c = s.flying c := by
  rw [State.flying, State.fell_chan]
  rfl

theorem State.any_inFlight_of_flying {s : State} {c : Chan} {e : Entry} (h : s.flying c = some e) :
    (s.chan c).queue.any (·.inFlight) = true :=
  List.any_eq_true.2 ⟨e, List.mem_of_find?_eq_some h, List.find?_some h⟩

theorem State.any_inFlight_of_none {s : State} {c : Chan} (h : s.flying c = none) :
    (s.chan c).queue.any (·.inFlight) = false := by
  rw [List.any_eq_false]
  exact List.find?_eq_none.1 h

theorem State.readyDown_air_same {s : State} {c : Chan} (h : s.inService c = true) : ((s.readyDown c).chan c).air =
    ({ (s.chan c).fallen s.params.failoverTime with
        attempt := if (s.chan c).queue.any (·.inFlight) then none else (s.chan c).attempt } : Channel).air := by
  rw [State.readyDown_of_in_service h]
  cases hf : s.flying c with
  | none =>
    rw [State.endAttempt_of_idle ((s.fell_flying c).trans hf), State.any_inFlight_of_none hf, s.fell_chan c]
    rfl
  | some e =>
    rw [State.air_of_airs (State.endAttempt_airs ((s.fell_flying c).trans hf)), State.modChan_chan_same,
      State.any_inFlight_of_flying hf, s.fell_chan c]
    rfl

theorem State.readyDown_air_other {s : State} {c c' : Chan} (h : s.inService c = true) (hc : c' ≠ c) :
    ((s.readyDown c).chan c').air = (s.chan c').air := by
  rw [State.readyDown_of_in_service h]
  cases hf : s.flying c with
  | none => rw [State.endAttempt_of_idle ((s.fell_flying c).trans hf), s.fell_chan_other hc]
  | some e =>
    rw [State.air_of_airs (State.endAttempt_airs ((s.fell_flying c).trans hf)), State.modChan_chan_other _ _ (Ne.symm hc),
      s.fell_chan_other hc]

theorem State.flying_eq_none_iff {s : State} {c : Chan} : s.flying c = none ↔ ∀ e ∈ (s.chan c).queue, e.inFlight = false := by
  rw [State.flying, List.find?_eq_none]
  simp

theorem State.carrierUp_of_up {s : State} {c : Chan} (h : (s.chan c).carrier = true) : s.carrierUp c = s := if_pos h

theorem State.carrierUp_of_down {s : State} {c : Chan} (h : (s.chan c).carrier = false)
    (hno : ¬ ((s.chan c).ranOut = true ∧ (s.chan c).state = .idle)) : s.carrierUp c = s.modChan c Channel.carrierUp := by
  rw [State.carrierUp, if_neg (Bool.eq_false_iff.1 h), if_neg hno]

theorem State.carrierUp_of_same_moment {s : State} {c : Chan} (h : (s.chan c).carrier = false)
    (hsame : (s.chan c).ranOut = true ∧ (s.chan c).state = .idle) :
    s.carrierUp c = { s with choices := s.choices + 1 }.modChan c Channel.carrierUp
      ∨ s.carrierUp c = { s with choices := s.choices + 1 }.modChan c Channel.carrierMissed := by
  rw [State.carrierUp, if_neg (Bool.eq_false_iff.1 h), if_pos hsame]
  split
  · exact .inl rfl
  · exact .inr rfl

/-- What CARRIER becoming active does, by the state of its channel (R141). -/
theorem Channel.carrierUp_eq (ch : Channel) : ch.carrierUp =
    (let up := { ch with carrier := true, carrierSpent := false, ranOut := false }
     if ch.state = .idle then { up with state := .receiving, origin := some .idle }
     else if ch.state = .awaitRepeat then { up with state := .receiving, origin := some .awaitRepeat, repeatWait := none }
     else if ch.state = .awaitReply then { up with replyWindow := none }
     else up) := by
  cases hstate : ch.state <;> simp [Channel.carrierUp, hstate]

/-- Settles O56. -/
theorem linesFollow : Obligations.LinesFollow := by
  intro c s
  refine ⟨fun hno => ?_, fun hdown => ?_, fun hout => ?_, ?_, ?_, ?_, fun place => ?_⟩
  · exact runs_event_effect rfl (State.readyUp_of_not_down (s := s.atEvent) hno) rfl rfl rfl rfl
  · exact runs_event_alike rfl (State.readyUp_of_down (s := s.atEvent) hdown) (State.modChan_shape _ _ _)
  · exact runs_event_effect rfl (if_neg (Bool.eq_false_iff.1 hout)) rfl rfl rfl rfl
  · intro hin fallen
    have hin' : s.atEvent.inService c = true := hin
    have hwork := State.readyDown_of_in_service hin'
    refine ⟨_, rfl, s.event_quiet_of_shape _ ?_, (State.event_air _ c).trans ?_, fun c' hc' => (State.event_air _ c').trans ?_,
      fun hquiet => State.event_alike ?_⟩
    · rw [hwork, State.endAttempt_shape, State.fell, State.post_shape]
      exact State.modChan_shape _ _ _
    · exact State.readyDown_air_same hin'
    · exact State.readyDown_air_other hin' hc'
    · have hnone : s.flying c = none := State.flying_eq_none_iff.2 hquiet
      rw [hwork, State.endAttempt_of_idle ((s.atEvent.fell_flying c).trans hnone), State.fell, State.post_frame]
      refine Eq.trans (b := (s.atEvent.modChan c fallen).frame) (congrArg State.frame (State.modChan_congr ?_)) rfl
      have hany : (s.atEvent.chan c).queue.any (·.inFlight) = false := State.any_inFlight_of_none hnone
      simp only [fallen, hany]
      rfl
  · intro risen missed sameMoment chosen
    have hrisen : Channel.carrierUp = risen := funext Channel.carrierUp_eq
    rw [← hrisen]
    refine ⟨fun hup => ?_, fun hdown hno => ?_, fun hdown hsame => ?_⟩
    · exact runs_event_effect rfl (State.carrierUp_of_up (s := s.atEvent) hup) rfl rfl rfl rfl
    · exact runs_event_effect rfl (State.carrierUp_of_down (s := s.atEvent) hdown hno) rfl rfl rfl rfl
    · rcases State.carrierUp_of_same_moment (s := s.atEvent) hdown hsame with h | h
      · obtain ⟨t, ht, htakes⟩ := runs_event_effect (i := .carrierActive c) (effect := chosen.modChan c Channel.carrierUp) rfl h rfl rfl rfl rfl
        exact ⟨t, ht, .inl htakes⟩
      · obtain ⟨t, ht, htakes⟩ := runs_event_effect (i := .carrierActive c) (effect := chosen.modChan c missed) rfl h rfl rfl rfl rfl
        exact ⟨t, ht, .inr htakes⟩
  · exact runs_event_effect rfl rfl rfl rfl rfl rfl
  · exact runs_event_effect rfl rfl rfl rfl rfl rfl

end Sys2Proof.Machine
end

section
/-!
The course of a send (R142, R143, R149, R151): O57.
-/

namespace Sys2Proof.Machine
/-! ### An attempt begins (R142, R164) -/

/-- Two states with the same queues that owe the same space signals. -/
def State.SameQueues (s t : State) : Prop := t.signals = s.signals ∧ ∀ c, (t.chan c).queue = (s.chan c).queue

section
variable {s : State}

theorem State.sameQueues_modChan {c : Chan} {f : Channel → Channel} (hf : ∀ ch, (f ch).queue = ch.queue) :
    s.SameQueues (s.modChan c f) := by
  refine ⟨rfl, fun d => ?_⟩
  rw [State.modChan_chan]
  split
  · exact hf _
  · rfl

theorem State.sameQueues_syncOrderDefer (slot : Nat) : s.SameQueues (s.syncOrderDefer slot) := by
  obtain ⟨c, l, h⟩ := s.syncOrderDefer_eq slot
  rw [h]
  exact State.sameQueues_modChan fun _ => rfl

theorem State.sameQueues_syncPermitDefer (serial : Nat) : s.SameQueues (s.syncPermitDefer serial) := by
  have hmod (f : Permit → Permit) (c : Chan) (g : Channel → Channel) (hg : ∀ ch, (g ch).queue = ch.queue) :
      s.SameQueues ((s.modPermit serial f).modChan c g) := State.sameQueues_modChan (s := s.modPermit serial f) hg
  rw [State.syncPermitDefer]
  split
  · exact ⟨rfl, fun _ => rfl⟩
  · split
    · exact ⟨rfl, fun _ => rfl⟩
    · split
      · split
        · exact ⟨rfl, fun _ => rfl⟩
        · exact hmod _ _ _ fun _ => rfl
      · exact hmod _ _ _ fun _ => rfl

theorem State.sameQueues_setFollowUp (n : Nat) (st : FollowStatus) : s.SameQueues (s.setFollowUp n st) := by
  rw [State.setFollowUp]
  split
  · exact ⟨rfl, fun _ => rfl⟩
  · dsimp only
    split
    · exact (State.sameQueues_syncOrderDefer _ : State.SameQueues _ _)
    · exact ⟨rfl, fun _ => rfl⟩

theorem State.sameQueues_setPrompts (slot : Nat) (body : Body) (st : PromptStatus) : s.SameQueues (s.setPrompts slot body st) := by
  cases body <;> exact ⟨rfl, fun _ => rfl⟩

/-- What an owner is told of its entry changes no queue (R150). -/
theorem State.sameQueues_tellOwner (e : Entry) (flying : Bool) : s.SameQueues (s.tellOwner e flying) := by
  rw [State.tellOwner]
  split
  · exact ⟨rfl, fun _ => rfl⟩
  · split
    · exact ⟨rfl, fun _ => rfl⟩
    · exact State.sameQueues_setFollowUp _ _
    · exact (State.sameQueues_syncPermitDefer _ : State.SameQueues _ _)
    · exact State.sameQueues_setPrompts _ _ _
    all_goals exact ⟨rfl, fun _ => rfl⟩

end

theorem modFirst_append {p : Entry → Bool} {f : Entry → Entry} {front back : List Entry} {e : Entry}
    (hfront : ∀ x ∈ front, p x = false) (he : p e = true) :
    modFirst p f (front ++ e :: back) = front ++ f e :: back := by
  induction front with
  | nil => exact if_pos he
  | cons x front ih =>
    have hx : ¬ p x = true := Bool.eq_false_iff.1 (hfront x List.mem_cons_self)
    exact (if_neg hx).trans (congrArg (x :: ·) (ih fun y hy => hfront y (List.mem_cons_of_mem _ hy)))

theorem find?_append_cons {p : Entry → Bool} {front back : List Entry} {e : Entry}
    (hfront : ∀ x ∈ front, p x = false) (he : p e = true) : (front ++ e :: back).find? p = some e := by
  rw [List.find?_append, List.find?_eq_none.2 fun x hx => Bool.eq_false_iff.1 (hfront x hx), List.find?_cons, he]
  rfl

/-- An entry in flight for one attempt more, with every block to send (R142). -/
def Entry.begun (blocks : Nat) (e : Entry) : Entry := { e with inFlight := true, attempts := e.attempts + 1, blocksSent := blocks }

/-- A channel whose controller begins an attempt with an entry (R142). -/
def Channel.attempting (ch : Channel) (e : Entry) (body : List Byte) : Channel :=
  { ch with
    state := .sending, ranOut := false
    attempt := some { entry := e.admission, rpt := false, missing := [], body := body, seq := e.seq.getD ch.groupSeq }
    groupSeq := if e.seq.isSome then ch.groupSeq else ch.groupSeq + 1
    txFrame := telegramFrame e.kind e.addr (e.seq.getD ch.groupSeq) body false (allBlocks body) }

theorem State.modChan_frame_ext (s : State) (c : Chan) {f g : Channel → Channel} (h : (f (s.chan c)).frame = (g (s.chan c)).frame) :
    (s.modChan c f).frame = (s.modChan c g).frame := by
  have h' : (f (s.chans.get c)).frame = (g (s.chans.get c)).frame := h
  show ({ s.frame with chans := (s.chans.set c (f (s.chans.get c))).map Channel.frame } : State)
    = { s.frame with chans := (s.chans.set c (g (s.chans.get c))).map Channel.frame }
  rw [Four.map_set, Four.map_set, h']

theorem State.beginAttempt_frame (s : State) (c : Chan) (e : Entry) :
    (s.beginAttempt c e).frame = (s.modChan c fun ch => ch.attempting e (s.bodyOf c e)).frame := by
  rw [State.beginAttempt]
  refine (State.modChan_frame_congr (State.tellOwner_frame _ _ _) c fun _ => rfl).trans ?_
  rw [State.modChan_modChan]
  exact State.modChan_frame_ext s c rfl

theorem State.beginAttempt_queues (s : State) (c : Chan) (e : Entry) :
    (s.beginAttempt c e).signals = s.signals
      ∧ ((s.beginAttempt c e).chan c).queue
        = modFirst (· == e) (Entry.begun (blockCount (s.bodyOf c e).length)) (s.chan c).queue := by
  rw [State.beginAttempt]
  refine ⟨(State.sameQueues_tellOwner e true).1, ?_⟩
  rw [State.modChan_chan_same]
  refine ((State.sameQueues_tellOwner e true).2 c).trans ?_
  rw [State.modChan_chan_same]
  rfl

theorem State.startAttempt_of {s : State} {c : Chan} {e : Entry} (hidle : (s.chan c).state = .idle) (hair : (s.chan c).carrier = false)
    (he : select (s.chan c).queue = some e) : s.startAttempt c = s.beginAttempt c e := by
  simp only [State.startAttempt, he]
  exact if_pos ⟨hidle, by rw [hair]; rfl⟩

theorem State.startAttempt_of_not {s : State} {c : Chan}
    (h : (s.chan c).state ≠ .idle ∨ (s.chan c).carrier = true ∨ ∀ e ∈ (s.chan c).queue, e.holdOff ≠ 0) : s.startAttempt c = s := by
  rw [State.startAttempt]
  split
  · rfl
  next e he =>
    refine if_neg fun ⟨hidle, hair⟩ => ?_
    rcases h with h | h | h
    · exact h hidle
    · rw [h] at hair
      exact absurd hair (by decide)
    · exact h e (List.mem_of_find?_eq_some he) (by simpa using List.find?_some he)
/-! ### The end of a send (R143, R149) -/

/-- A channel whose group send is over (R143, R151). -/
def Channel.idled (ch : Channel) : Channel :=
  { ch with
    state := .idle, attempt := none, txFrame := [], origin := none, afterAnswer := none, replyWindow := none, repeatWait := none }

theorem State.sent_of_not {s : State} {c : Chan}
    (h : (s.chan c).state ≠ .sending ∨ ∀ e ∈ (s.chan c).queue, e.inFlight = false) : s.sent c = s := by
  rw [State.sent]
  split
  · rfl
  next e he =>
    refine if_neg fun hstate => h.elim (absurd hstate) fun hquiet => ?_
    rw [State.flying_eq_none_iff.2 hquiet] at he
    cases he

section
variable {s : State} {c : Chan} {e : Entry} (hstate : (s.chan c).state = .sending) (hfly : s.flying c = some e)
include hstate hfly

theorem State.sent_of_crew {slot unit : Nat} (haddr : e.addr = .crew slot unit) : s.sent c = s.awaitReply c := by
  simp only [State.sent, hfly, hstate, haddr, if_true]

theorem State.sent_of_group {sel m : Nat} (haddr : e.addr = .group sel m) : s.sent c = (s.endAttempt c .sent).enterIdle c := by
  simp only [State.sent, hfly, hstate, haddr, if_true]

theorem State.sent_air_same {sel m : Nat} (haddr : e.addr = .group sel m) :
    ((s.sent c).chan c).air = ((s.chan c).idled).air := by
  have hair := State.air_of_airs (State.endAttempt_airs (r := .sent) hfly) c
  rw [State.modChan_chan_same] at hair
  rw [State.sent_of_group hstate hfly haddr, State.enterIdle, State.modChan_chan_same]
  exact (congrArg (fun ch : Channel => { ch with
    state := .idle, txFrame := [], origin := none, afterAnswer := none, replyWindow := none, repeatWait := none }) hair :)

theorem State.sent_of_group_linked {sel m : Nat} (haddr : e.addr = .group sel m) (horphan : e.orphan = false) :
    s.sent c = ((s.modChan c Channel.unattempted).endSent c e).enterIdle c := by
  rw [State.sent_of_group hstate hfly haddr, State.endAttempt, hfly]
  simp only [horphan]
  rfl

end

/-- A channel whose group send is over and whose entry has left the queue (R149, R168). -/
def Channel.emptied (p : Params) (q : List Entry) (ch : Channel) : Channel := { ch.idled with queue := q }.held p

theorem State.signal_withSignals (s : State) (c : Chan) (b : Bool) :
    (s.withSignals (if b then [c] else [])).signal c = s.withSignals [c] := by
  cases b <;> simp [State.signal, State.withSignals]

/-- The slot that an entry frees where no space signal is owed yet (R151, R168, R171). -/
theorem State.removeEntry_of_no_signals {s : State} {c : Chan} {e : Entry} (h : s.signals = []) :
    s.removeEntry c e = (s.modChan c fun ch => ({ ch with queue := ch.queue.erase e } : Channel).held s.params).withSignals [c] := by
  have hsignals : (s.modChan c fun ch => { ch with queue := ch.queue.erase e }).signals = [] := h
  rw [State.removeEntry, State.flowEval_eq (by rw [hsignals]; exact List.not_mem_nil), State.modChan_modChan, hsignals]
  exact State.signal_withSignals _ c _

/-- An event that frees a slot on a channel with nothing deferred (R171). -/
theorem runs_event_freed {i : Instr} {s effect : State} {c : Chan} {work : State → State} (hi : exec i s = .next (s.event work))
    (hw : work s.atEvent = effect.atEvent.withSignals [c]) (hshape : effect.shape = s.shape)
    (hp : (effect.chan c).permitDefer = []) (ho : (effect.chan c).orderDefer = []) : Runs i s (Takes s effect) := by
  have hgive : (work s.atEvent).giveSignals = effect.atEvent := by
    rw [hw]
    refine (State.giveSignals_of_nothing ?_).trans rfl
    intro d hd
    obtain rfl : d = c := List.mem_singleton.1 hd
    exact ⟨hp, ho⟩
  refine ⟨_, hi, s.event_quiet_of_shape work (by rw [hw]; exact hshape), ?_⟩
  rw [State.event_eq, State.settle_bare, hgive]
  rfl
theorem State.post_modChan (s : State) (n : Subject) (c : Chan) (f : Channel → Channel) :
    (s.modChan c f).post n = (s.post n).modChan c f := by
  have hnotices : (s.modChan c f).notices = s.notices := rfl
  simp only [State.post, hnotices]
  split
  · rfl
  · split
    · cases dropOldestOrdinary s.notices <;> rfl
    · rfl

theorem State.post_withSignals (s : State) (n : Subject) (l : List Chan) :
    (s.withSignals l).post n = (s.post n).withSignals l := by
  have hnotices : (s.withSignals l).notices = s.notices := rfl
  simp only [State.post, hnotices]
  split
  · rfl
  · split
    · cases dropOldestOrdinary s.notices <;> rfl
    · rfl

/-! What the end of a group send leaves (R121, R149, R173). -/

section
variable {s : State} {c : Chan} {e : Entry} {front back : List Entry} (hsignals : s.signals = [])
  (hq : (s.chan c).queue = front ++ e :: back) (hfront : ∀ x ∈ front, x.inFlight = false) (hfly : e.inFlight = true)
include hsignals hq hfront hfly

theorem State.removeEntry_idled : ((s.modChan c Channel.unattempted).removeEntry c e).enterIdle c
    = (s.modChan c (Channel.emptied s.params (front ++ back))).withSignals [c] := by
  have hnot : e ∉ front := fun hmem => absurd hfly (by rw [hfront e hmem]; decide)
  have hgone : (s.chan c).queue.erase e = front ++ back := by
    rw [hq, List.erase_append_right _ hnot, List.erase_cons_head (a := e)]
  have hremoved := State.removeEntry_of_no_signals (c := c) (e := e) (s := s.modChan c Channel.unattempted) hsignals
  rw [State.modChan_modChan] at hremoved
  have hmove (t : State) : (t.withSignals [c]).enterIdle c = (t.enterIdle c).withSignals [c] := rfl
  rw [hremoved, hmove, State.enterIdle, State.modChan_modChan]
  refine congrArg (State.withSignals · [c]) (State.modChan_congr ?_)
  simp only [Channel.emptied, Channel.unattempted, hgone]
  rfl

omit hsignals in
theorem State.modFlying_idled (f : Entry → Entry) : ((s.modChan c Channel.unattempted).modFlying c f).enterIdle c
    = s.modChan c fun ch => { ch.idled with queue := front ++ f e :: back } := by
  rw [State.modFlying, State.enterIdle, State.modChan_modChan, State.modChan_modChan]
  refine State.modChan_congr ?_
  have hqueue : modFirst (·.inFlight) f (s.chan c).queue = front ++ f e :: back := by rw [hq, modFirst_append hfront hfly]
  simp only [Channel.unattempted, hqueue]
  rfl

end

theorem State.endSent_of_text {s : State} {c : Chan} {e : Entry} {n sel m : Nat} (howner : e.owner = .text n)
    (haddr : e.addr = .group sel m) : s.endSent c e = (s.removeEntry c e).post (.textResult n (.group c sel m) .sent) := by
  simp only [State.endSent, State.textResult, howner, haddr]

section
variable {s : State} {c ch : Chan} {e : Entry} (howner : e.owner = .alarmCall ch)
include howner

theorem State.endSent_of_call_ended (h : s.callsFor c = false ∨ e.rearm = false ∧ e.repeats.getD 0 ≤ 1) :
    s.endSent c e = s.removeEntry c e := by
  simp only [State.endSent, howner]
  rcases h with h | ⟨hrearm, hspent⟩
  · rw [h]; rfl
  · rw [hrearm, if_pos hspent]
    split <;> rfl

theorem State.endSent_of_call_rearmed (hcall : s.callsFor c = true) (hrearm : e.rearm = true) :
    s.endSent c e = s.modFlying c fun e =>
      { e with inFlight := false, attempts := 0, rearm := false, repeats := some s.params.alarmRepeats, holdOff := 0 } := by
  simp only [State.endSent, howner, hcall, hrearm]
  rfl

theorem State.endSent_of_call_repeated {left : Nat} (hcall : s.callsFor c = true) (hrearm : e.rearm = false)
    (hleft : e.repeats = some left) (htwo : 2 ≤ left) : s.endSent c e = s.modFlying c fun e =>
      { e with inFlight := false, attempts := 0, repeats := some (left - 1), holdOff := s.params.alarmRepeatInterval } := by
  have hmore : ¬ left ≤ 1 := by omega
  simp only [State.endSent, howner, hcall, hrearm, hleft, Option.getD_some, hmore]
  rfl

end

/-- Settles O57. -/
theorem sendingCourse : Obligations.SendingCourse := by
  intro c s
  refine ⟨fun front e back hidle hair hq hfront hready => ?_, fun hno => ?_, fun hno => ?_, fun front e back hstate hq hfront hfly => ?_⟩
  · intro body seq
    have hsel : select (s.chan c).queue = some e := by
      rw [hq]
      exact find?_append_cons (fun x hx => by simpa using hfront x hx) (by simpa using hready)
    have hwork := State.startAttempt_of (s := s.atEvent) hidle hair hsel
    have hframe := hwork ▸ s.atEvent.beginAttempt_frame c e
    refine ⟨_, rfl, s.event_quiet_of_shape _ ?_, State.event_alike hframe, ?_⟩
    · exact (State.shape_of_frame hframe).trans (State.modChan_shape _ _ _)
    · obtain ⟨hsignals, hqueue⟩ := s.atEvent.beginAttempt_queues c e
      rw [State.event_eq, State.settle_queue, hwork, State.giveSignals_none hsignals, hqueue]
      refine (congrArg _ hq).trans (modFirst_append (fun x hx => ?_) (beq_self_eq_true e))
      rw [beq_eq_false_iff_ne]
      rintro rfl
      exact hfront x hx hready
  · exact runs_event_effect rfl (State.startAttempt_of_not (s := s.atEvent) hno) rfl rfl rfl rfl
  · exact runs_event_effect rfl (State.sent_of_not (s := s.atEvent) hno) rfl rfl rfl rfl
  · intro idled
    have hf : s.atEvent.flying c = some e := by
      refine (congrArg _ hq).trans ?_
      exact find?_append_cons hfront hfly
    have hlinked (sel m : Nat) (haddr : e.addr = .group sel m) (horphan : e.orphan = false) :=
      State.sent_of_group_linked (s := s.atEvent) hstate hf haddr horphan
    refine ⟨fun slot unit haddr => ?_, fun sel m haddr => ?_, fun sel m haddr horphan => ?_⟩
    · exact runs_event_effect rfl (State.sent_of_crew (s := s.atEvent) hstate hf haddr) rfl rfl rfl rfl
    · refine ⟨_, rfl, s.event_quiet_of_shape _ ?_, (State.event_air _ c).trans (State.sent_air_same (s := s.atEvent) hstate hf haddr)⟩
      rw [State.sent_of_group (s := s.atEvent) hstate hf haddr, State.enterIdle_shape, State.endAttempt_shape]
    · intro depth gone stays nothingDeferred calls
      have hunlinked := State.sent_of_group_linked (s := s.atEvent) hstate hf haddr horphan
      have hgone := State.removeEntry_idled (s := s.atEvent) rfl hq hfront hfly
      have hcalls : (s.atEvent.modChan c Channel.unattempted).callsFor c = true ↔ calls := by
        rw [State.callsFor, State.modChan_chan_same, List.any_eq_true]
        rfl
      have heffect : gone = s.modChan c (Channel.emptied s.params (front ++ back)) := rfl
      have hchan : gone.chan c = (s.chan c).emptied s.params (front ++ back) := State.modChan_chan_same _ _ _
      refine ⟨fun n howner ⟨hp, ho⟩ => ?_, fun ch howner => ⟨fun hend ⟨hp, ho⟩ => ?_, fun hcall hrearm => ?_,
        fun hcall hrearm left hleft htwo => ?_⟩⟩
      · have hposted (m : Subject) : (gone.post m).chan c = (s.chan c).emptied s.params (front ++ back) :=
          (State.post_chan _ _ _).trans hchan
        refine runs_event_freed (c := c) rfl (hunlinked.trans ?_) ((State.post_shape _ _).trans (State.modChan_shape _ _ _))
          (by rw [hposted]; exact hp) (by rw [hposted]; exact ho)
        rw [State.endSent_of_text howner haddr, State.enterIdle, ← State.post_modChan]
        refine (congrArg (State.post · _) hgone).trans ((State.post_withSignals _ _ _).trans ?_)
        exact congrArg (State.withSignals · [c]) (gone.atEvent_post _)
      · refine runs_event_freed (c := c) rfl (hunlinked.trans (Eq.trans (congrArg (State.enterIdle · c) ?_) hgone))
          (State.modChan_shape _ _ _) (by rw [hchan]; exact hp) (by rw [hchan]; exact ho)
        refine State.endSent_of_call_ended howner (hend.imp_left fun hno => ?_)
        rw [Bool.eq_false_iff]
        exact fun h => hno (hcalls.1 h)
      · exact runs_event_effect rfl (hunlinked.trans (Eq.trans (congrArg (State.enterIdle · c)
          (State.endSent_of_call_rearmed howner (hcalls.2 hcall) hrearm))
          (State.modFlying_idled (s := s.atEvent) hq hfront hfly _))) rfl rfl rfl rfl
      · exact runs_event_effect rfl (hunlinked.trans (Eq.trans (congrArg (State.enterIdle · c)
          (State.endSent_of_call_repeated howner (hcalls.2 hcall) hrearm hleft htwo))
          (State.modFlying_idled (s := s.atEvent) hq hfront hfly _))) rfl rfl rfl rfl

end Sys2Proof.Machine
end

section
/-!
What a claim brings to a permit and its device, and RETRY_PERMIT: O35.
-/

namespace Sys2Proof.Machine
/-! ### What a claim brings to the permit and the device (R54, R71, R86) -/

section
variable {d : Device} {serial : Nat} {what : ClaimFor}

/-- A claim is answered whatever waits on the device. -/
theorem Device.claim_waits (d : Device) (serial : Nat) (what : ClaimFor) (l : List Nat) :
    (({ d with waits := l } : Device).claim serial what).2 = (d.claim serial what).2
      ∧ (({ d with waits := l } : Device).claim serial what).1.pending = (d.claim serial what).1.pending := by
  unfold Device.claim
  cases hp : d.pending with
  | some q => exact ⟨rfl, rfl⟩
  | none =>
    cases what with
    | isolation a =>
      by_cases hlimit : 8 ≤ d.tags.length
      · simp [hlimit, hp]
      · simp only [hlimit, if_false]
        exact ⟨rfl, rfl⟩
    | restoration => exact ⟨rfl, rfl⟩

/-- A permit asked to wait stands on the wait list. -/
theorem Device.mem_waits_of_claim (h : (d.claim serial what).2 = .wait) : serial ∈ (d.claim serial what).1.waits := by
  unfold Device.claim at h ⊢
  split at h
  · dsimp only
    split
    next hin => simpa using hin
    next => simp
  · split at h
    · split at h <;> cases h
    · cases h

/-- The tag limit answers a claim for isolation on a free device that holds its tags. -/
theorem Device.claim_tagLimit_iff : (d.claim serial what).2 = .tagLimit ↔
    d.pending = none ∧ (∃ a, what = .isolation a) ∧ 8 ≤ d.tags.length := by
  unfold Device.claim
  cases hp : d.pending with
  | some q => simp
  | none =>
    cases what with
    | isolation a =>
      by_cases hlimit : 8 ≤ d.tags.length <;> simp [hlimit]
    | restoration => simp

end

/-- What a claim has made of the permit and of the device claimed, up to traffic. -/
structure Permit.Claiming (s0 t : State) (p0 p' : Permit) (serial n : Nat) (what : ClaimFor) : Prop where
  record   : ∀ d, s0.device? n = some d → p'.frame = (p0.answered n what (d.claim serial what).2).frame
  device   : ∀ d, s0.device? n = some d → ∃ d', t.device? n = some d' ∧ d'.pending = (d.claim serial what).1.pending
    ∧ ((d.claim serial what).2 ≠ .tagLimit → d' = (d.claim serial what).1)
  unloaded : s0.device? n = none → p'.frame = ({ p0 with waiting := true } : Permit).frame

section
variable {s s0 : State} {serial : Nat} {p0 : Permit} (h : s.frameWatch = s0.frameWatch) (hp0 : s0.permit? serial = some p0)
include h hp0

theorem State.permit?_of_frameWatch_some : ∃ p, s.permit? serial = some p ∧ p.frame = p0.frame :=
  Option.map_eq_some_iff.1 ((State.permit?_of_frameWatch h serial).trans (congrArg (Option.map Permit.frame) hp0))

/-- A permit under alarm hold, with an instruction outstanding or waiting for one after a cancellation makes no claim (R71, R94). -/
theorem State.claimNext_of_blocked_frame
    (hblocked : p0.hold = true ∨ p0.cancelWait = true ∨ p0.outstanding ≠ none ∨ p0.wants = none) : s.claimNext serial = (s, none) := by
  obtain ⟨p, hp, hframe⟩ := State.permit?_of_frameWatch_some h hp0
  have hhold : p.hold = p0.hold := (congrArg Permit.hold hframe :)
  have hwait : p.cancelWait = p0.cancelWait := (congrArg Permit.cancelWait hframe :)
  have hout : p.outstanding = none ↔ p0.outstanding = none := by
    have hmap := congrArg Permit.outstanding hframe
    simp only [Permit.frame] at hmap
    rw [← Option.map_eq_none_iff, hmap, Option.map_eq_none_iff]
  have hwants : p.wants = p0.wants := (congrArg Permit.wants hframe :)
  refine State.claimNext_of_blocked hp ?_
  rw [hhold, hwait, hwants]
  exact hblocked.imp_right (Or.imp_right (Or.imp_left (mt hout.1)))

/-- A permit free to claim claims the device it wants. -/
theorem State.claimNext_claiming {device : Nat} {what : ClaimFor} (hhold : p0.hold = false) (hwait : p0.cancelWait = false)
    (hout : p0.outstanding = none) (hwants : p0.wants = some (device, what)) : ∃ p', (s.claimNext serial).1.permit? serial = some p'
      ∧ Permit.Claiming s0 (s.claimNext serial).1 p0 p' serial device what := by
  obtain ⟨p, hp, hframe⟩ := State.permit?_of_frameWatch_some h hp0
  have hhold' : p.hold = false := (congrArg Permit.hold hframe :).trans hhold
  have hwait' : p.cancelWait = false := (congrArg Permit.cancelWait hframe :).trans hwait
  have hout' : p.outstanding = none := by
    have hmap := congrArg Permit.outstanding hframe
    simpa [Permit.frame, hout] using hmap
  have hwants' : p.wants = some (device, what) := (congrArg Permit.wants hframe :).trans hwants
  have hdevice := State.device?_of_frameWatch h device
  have hanswered (a : ClaimAnswer) : (p.answered device what a).frame = (p0.answered device what a).frame := by
    rw [p.answered_frame, hframe, ← p0.answered_frame]
  cases hd : s.device? device with
  | none =>
    rw [State.claimNext_of_unloaded hp hhold' hwait' hout' hwants' hd]
    refine ⟨_, State.permit?_modPermit (by intro; rfl) hp, ?_, ?_, fun _ => hanswered .wait⟩
    all_goals
      intro d hd0
      rw [← hdevice, hd] at hd0
      cases hd0
  | some d =>
    have hp1 : (s.modDevice device fun d => (d.claim serial what).1).permit? serial = some p := hp
    have hact := State.frameWatch_of_frame (State.actOnClaim_frame hp1 device what (d.claim serial what).2)
    obtain ⟨p', hp', hframe'⟩ := State.permit?_of_frameWatch_some hact (State.answeredClaim_permit? hp1 device what _)
    rw [State.claimNext_of_free hp hhold' hwait' hout' hwants' hd]
    refine ⟨p', hp', fun d0 hd0 => ?_, fun d0 hd0 => ?_, fun hd0 => ?_⟩
    · obtain rfl : d = d0 := Option.some.inj (hd.symm.trans (hdevice.trans hd0))
      exact hframe'.trans (hanswered _)
    · obtain rfl : d = d0 := Option.some.inj (hd.symm.trans (hdevice.trans hd0))
      have hd1 : (s.modDevice device fun d => (d.claim serial what).1).device? device = some (d.claim serial what).1 :=
        State.device?_modDevice (fun d => d.claim_number serial what) hd
      rw [State.device?_of_frameWatch hact]
      by_cases hlimit : (d.claim serial what).2 = .tagLimit
      · refine ⟨{ (d.claim serial what).1 with waits := (d.claim serial what).1.waits.erase serial }, ?_, rfl, fun hno => absurd hlimit hno⟩
        rw [State.answeredClaim, if_pos hlimit]
        refine (State.device?_leaveWaits _ _ _).trans ?_
        rw [hd1]
        rfl
      · refine ⟨_, ?_, rfl, fun _ => rfl⟩
        rw [State.answeredClaim, if_neg hlimit]
        exact hd1
    · rw [← hdevice, hd] at hd0
      cases hd0

end

/-- A claim that has been made shows in every state with the same devices and, up to traffic, the same permit. -/
theorem Permit.Claiming.of_frame {s0 t u : State} {p0 p' q : Permit} {serial device : Nat} {what : ClaimFor}
    (h : Permit.Claiming s0 t p0 p' serial device what) (hd : u.device? device = t.device? device) (hq : q.frame = p'.frame) :
    Permit.Claiming s0 u p0 q serial device what :=
  ⟨fun d hd0 => hq.trans (h.record d hd0), fun d hd0 => by rw [hd]; exact h.device d hd0, fun hd0 => hq.trans (h.unloaded hd0)⟩

/-- A claim that has been made is one on the record of the command's start, where the device was the same but for its wait list. -/
theorem Permit.Claiming.claimed {s s0 t : State} {p p0 p' : Permit} {device index : Nat} {what : ClaimFor}
    (h : Permit.Claiming s0 t p0 p' p.serial device what)
    (hd : ∀ d, s.device? device = some d → ∃ l, s0.device? device = some { d with waits := l })
    (hout : p0.outstanding = none) (hindex : p0.instructionIndex device what = index) : Claimed s t p p' device index what := by
  intro d hd0 r
  obtain ⟨l, hl⟩ := hd d hd0
  obtain ⟨hanswer, hpending⟩ := d.claim_waits p.serial what l
  obtain ⟨d', hd', hpend, hsame⟩ := h.device _ hl
  have hrecord := h.record _ hl
  rw [hanswer] at hrecord
  refine ⟨by rw [hd', Option.map_some, hpend, hpending], fun act hact => ?_, fun hwait => ?_⟩
  · have hgranted : p'.frame = (p0.answered device what (.granted act)).frame := hact ▸ hrecord
    have houtstanding := congrArg Permit.outstanding hgranted
    have hmap := congrArg (Option.map fun i : Outstanding => (i.index, i.device, i.role, i.action)) houtstanding
    simp only [Permit.frame, Permit.answered, Option.map_map, Function.comp_def, Option.map_some, hindex] at hmap
    exact ⟨hmap, (congrArg Permit.waiting hgranted :)⟩
  · have hwaits : p'.frame = (p0.answered device what .wait).frame := hwait ▸ hrecord
    have houtstanding := congrArg Permit.outstanding hwaits
    simp only [Permit.frame, Permit.answered, hout, Option.map_none, Option.map_eq_none_iff] at houtstanding
    refine ⟨houtstanding, (congrArg Permit.waiting hwaits :), d', hd', ?_⟩
    rw [hsame (by rw [hanswer, hwait]; nofun)]
    exact Device.mem_waits_of_claim (hanswer.trans hwait)

/-- What a permit and a device are after the permit has been called on to claim (R71, R86, R94). -/
structure Permit.Claims (s0 t : State) (serial : Nat) (p0 p' : Permit) : Prop where
  blocked  : p0.hold = true ∨ p0.cancelWait = true ∨ p0.outstanding ≠ none ∨ p0.wants = none → p'.frame = p0.frame
  claiming : ∀ device what, p0.hold = false → p0.cancelWait = false → p0.outstanding = none → p0.wants = some (device, what) →
    Permit.Claiming s0 t p0 p' serial device what

theorem State.claimNext_claims {s s0 : State} {serial : Nat} {p0 : Permit} (h : s.frameWatch = s0.frameWatch)
    (hp0 : s0.permit? serial = some p0) : ∃ p', (s.claimNext serial).1.permit? serial = some p'
      ∧ Permit.Claims s0 (s.claimNext serial).1 serial p0 p' := by
  by_cases hblocked : p0.hold = true ∨ p0.cancelWait = true ∨ p0.outstanding ≠ none ∨ p0.wants = none
  · obtain ⟨p, hp, hframe⟩ := State.permit?_of_frameWatch_some h hp0
    rw [State.claimNext_of_blocked_frame h hp0 hblocked]
    refine ⟨p, hp, fun _ => hframe, fun device what hhold hwait hout hwants => ?_⟩
    rw [hhold, hwait, hout, hwants] at hblocked
    simp at hblocked
  · simp only [not_or, Bool.not_eq_true, not_not] at hblocked
    obtain ⟨hhold, hwait, hout, hwants⟩ := hblocked
    obtain ⟨⟨device, what⟩, hwants⟩ := Option.ne_none_iff_exists'.1 hwants
    obtain ⟨p', hp', hclaim⟩ := State.claimNext_claiming h hp0 hhold hwait hout hwants
    refine ⟨p', hp', fun hblocked => ?_, fun n w _ _ _ hw => ?_⟩
    · rw [hhold, hwait, hout, hwants] at hblocked
      simp at hblocked
    · cases hwants.symm.trans hw
      exact hclaim

/-- A permit that stalls by its claim: the device it wants to isolate holds its tags (R71). -/
def State.atLimit (s : State) (p : Permit) : Prop :=
  p.hold = false ∧ p.cancelWait = false ∧ p.outstanding = none ∧ ∃ n a d, p.wants = some (n, .isolation a) ∧ s.device? n = some d
    ∧ d.pending = none ∧ 8 ≤ d.tags.length

namespace Permit.Claims
variable {s0 t : State} {serial : Nat} {p0 p' : Permit} (h : Permit.Claims s0 t serial p0 p')
include h

theorem of_frame {u : State} {q : Permit} (hd : ∀ n, u.device? n = t.device? n) (hq : q.frame = p'.frame) :
    Permit.Claims s0 u serial p0 q :=
  ⟨fun hb => hq.trans (h.blocked hb), fun n what hhold hwait hout hwants =>
    (h.claiming n what hhold hwait hout hwants).of_frame (hd n) hq⟩

/-- What the record can be after the permit has been called on to claim. -/
theorem record : (s0.atLimit p0 ∧ p'.frame = (p0.stalledBy .switching .tagLimit).frame)
    ∨ (¬ s0.atLimit p0 ∧ (p'.frame = p0.frame ∨ ∃ n what, p'.frame = (p0.answered n what .wait).frame
      ∨ ∃ a, p'.frame = (p0.answered n what (.granted a)).frame)) := by
  by_cases hblocked : p0.hold = true ∨ p0.cancelWait = true ∨ p0.outstanding ≠ none ∨ p0.wants = none
  · refine .inr ⟨fun ⟨hhold, hwait, hout, n, a, d, hwants, _⟩ => ?_, .inl (h.blocked hblocked)⟩
    rw [hhold, hwait, hout, hwants] at hblocked
    simp at hblocked
  · simp only [not_or, Bool.not_eq_true, not_not] at hblocked
    obtain ⟨hhold, hwait, hout, hwants⟩ := hblocked
    obtain ⟨⟨n, what⟩, hwants⟩ := Option.ne_none_iff_exists'.1 hwants
    have hclaim := h.claiming n what hhold hwait hout hwants
    cases hd : s0.device? n with
    | none =>
      refine .inr ⟨fun ⟨_, _, _, m, a, d, hm, hd', _⟩ => ?_, .inr ⟨n, what, .inl (hclaim.unloaded hd)⟩⟩
      cases hwants.symm.trans hm
      rw [hd] at hd'
      cases hd'
    | some d =>
      have hrecord := hclaim.record d hd
      have hunlimited (hanswer : (d.claim serial what).2 ≠ .tagLimit) : ¬ s0.atLimit p0 := by
        rintro ⟨-, -, -, m, a, d', hm, hd', hfree, htags⟩
        cases hwants.symm.trans hm
        cases hd.symm.trans hd'
        exact hanswer (Device.claim_tagLimit_iff.2 ⟨hfree, ⟨a, rfl⟩, htags⟩)
      cases hanswer : (d.claim serial what).2 with
      | tagLimit =>
        obtain ⟨hfree, ⟨a, rfl⟩, htags⟩ := Device.claim_tagLimit_iff.1 hanswer
        rw [hanswer] at hrecord
        exact .inl ⟨⟨hhold, hwait, hout, n, a, d, hwants, hd, hfree, htags⟩, hrecord⟩
      | wait =>
        rw [hanswer] at hrecord
        exact .inr ⟨hunlimited (by rw [hanswer]; nofun), .inr ⟨n, what, .inl hrecord⟩⟩
      | granted a =>
        rw [hanswer] at hrecord
        exact .inr ⟨hunlimited (by rw [hanswer]; nofun), .inr ⟨n, what, .inr ⟨a, hrecord⟩⟩⟩

theorem of_limit (hlimit : s0.atLimit p0) : p'.state = .stalled ∧ p'.stall = some (.switching, .tagLimit) := by
  rcases h.record with ⟨-, hframe⟩ | ⟨hno, -⟩
  · exact ⟨congrArg Permit.state hframe, congrArg Permit.stall hframe⟩
  · exact absurd hlimit hno

theorem of_not_limit (hno : ¬ s0.atLimit p0) : p'.state = p0.state ∧ p'.stall = p0.stall := by
  rcases h.record with ⟨hlimit, -⟩ | ⟨-, hframe | ⟨n, what, hframe | ⟨a, hframe⟩⟩⟩
  · exact absurd hlimit hno
  all_goals exact ⟨(congrArg Permit.state hframe :), (congrArg Permit.stall hframe :)⟩

/-- What no answer to a claim changes of the permit. -/
theorem kept : p'.stack = p0.stack ∧ p'.cancelWait = p0.cancelWait ∧ p'.lastReleased = p0.lastReleased
    ∧ (p0.readback = none → p'.readback = none) ∧ (p0.issueOwed = false → p'.issueOwed = false) := by
  rcases h.record with ⟨-, hframe⟩ | ⟨-, hframe | ⟨n, what, hframe | ⟨a, hframe⟩⟩⟩
  · exact ⟨(congrArg Permit.stack hframe :), (congrArg Permit.cancelWait hframe :), (congrArg Permit.lastReleased hframe :),
      fun _ => (congrArg Permit.readback hframe :), fun _ => (congrArg Permit.issueOwed hframe :)⟩
  all_goals
    exact ⟨(congrArg Permit.stack hframe :), (congrArg Permit.cancelWait hframe :), (congrArg Permit.lastReleased hframe :),
      fun hr => (congrArg Permit.readback hframe :).trans hr, fun ho => (congrArg Permit.issueOwed hframe :).trans ho⟩

end Permit.Claims
/-! ### A request's work on a permit, and the state after the request -/

section
variable {s t : State} {x : Xfer} {work : State → Reply} {r : Status × List Byte} (hw : work (s.atRequest x) = (t, r))
include hw

theorem State.console_device? (n : Nat) : (s.console x work).device? n = t.device? n := by
  rw [State.console_eq, State.settle_device?, State.respond_device?, hw]
  exact State.device?_of_frameWatch t.giveSignals_frameWatch n

theorem State.console_permit_some {serial : Nat} {p : Permit} (hp : t.permit? serial = some p) :
    ∃ p', (s.console x work).permit? serial = some p' ∧ p'.frame = p.frame :=
  Option.map_eq_some_iff.1 ((State.console_permit? hw serial).trans (congrArg (Option.map Permit.frame) hp))

end

theorem State.permitStateField_of_permit? {s : State} {serial : Nat} {p : Permit} (hp : s.permit? serial = some p) :
    s.permitStateField serial = u8 p.state.code := by rw [State.permitStateField, hp]; rfl

/-! ### RETRY_PERMIT (R89) -/

/-- A permit back in the phase it stalled from. -/
def Permit.retried (phase : Phase) (p : Permit) : Permit := { p with stall := none, state := phase.state }

/-- A permit is taken back to the phase it stalled from. -/
def State.retried (s : State) (serial : Nat) (phase : Phase) : State :=
  (s.modPermit serial fun p => { p with stall := none }).setPermitState serial phase.state .retry

section
variable {s : State} {serial : Nat} {p : Permit} (hp : s.permit? serial = some p) (phase : Phase)
include hp

theorem State.retried_frameWatch : (s.retried serial phase).frameWatch = (s.modPermit serial (Permit.retried phase)).frameWatch := by
  have hp' := State.permit?_modPermit (f := fun p => { p with stall := none }) (fun _ => rfl) hp
  rw [State.retried, State.setPermitState_frameWatch hp', State.modPermit_modPermit _ _ _ (by intro; rfl)]
  rfl

omit hp in
theorem State.retry_framePermits : (s.retry serial phase).framePermits = s.framePermits := by
  have hretried : (s.retried serial phase).framePermits = s.framePermits := (State.setPermitState_framePermits _ _ _ _).trans rfl
  cases phase with
  | issuing => exact (State.callIssue_framePermits _ _).trans hretried
  | switching => exact (State.claimNext_framePermits _ _).trans hretried
  | restoring => exact (State.claimNext_framePermits _ _).trans hretried

theorem State.retry_claims (hphase : phase ≠ .issuing) : ∃ p', (s.retry serial phase).permit? serial = some p'
    ∧ Permit.Claims (s.modPermit serial (Permit.retried phase)) (s.retry serial phase) serial (p.retried phase) p' := by
  have hclaims := State.claimNext_claims (State.retried_frameWatch hp phase)
    (State.permit?_modPermit (f := Permit.retried phase) (fun _ => rfl) hp)
  cases phase with
  | issuing => exact absurd rfl hphase
  | switching => exact hclaims
  | restoring => exact hclaims

theorem State.retry_issues : ∃ p', (s.retry serial .issuing).permit? serial = some p' ∧ p'.state = .issuing ∧ p'.stall = none
    ∧ (p.hold = false → p'.issueCount = 1) ∧ (p.hold = true → p'.issueCount = 0 ∧ p'.issueOwed = true) := by
  obtain ⟨p1, hp1, hframe⟩ := State.permit?_of_frameWatch_some (State.retried_frameWatch hp .issuing)
    (State.permit?_modPermit (f := Permit.retried .issuing) (fun _ => rfl) hp)
  have hstate : p1.state = .issuing := (congrArg Permit.state hframe :)
  have hstall : p1.stall = none := (congrArg Permit.stall hframe :)
  have hhold : p1.hold = p.hold := (congrArg Permit.hold hframe :)
  have hp2 := State.permit?_modPermit (f := fun p => { p with issueCount := 0 }) (fun _ => rfl) hp1
  have hwork : s.retry serial .issuing = ((s.retried serial .issuing).modPermit serial fun p => { p with issueCount := 0 }).callIssue serial := rfl
  rw [hwork]
  cases hcase : p.hold with
  | true =>
    rw [State.callIssue_of_hold hp2 (hhold.trans hcase)]
    exact ⟨_, State.permit?_modPermit (by intro; rfl) hp2, hstate, hstall, nofun, fun _ => ⟨rfl, rfl⟩⟩
  | false =>
    rw [State.callIssue_of_free hp2 (hhold.trans hcase)]
    obtain ⟨p', hp', hframe'⟩ := State.permit?_of_frameWatch_some
      (State.frameWatch_of_frame (State.issuePermit_frame _ serial)) (State.permit?_modPermit (by intro; rfl) hp2)
    exact ⟨p', hp', (congrArg Permit.state hframe').trans hstate, (congrArg Permit.stall hframe').trans hstall,
      fun _ => congrArg Permit.issueCount hframe', nofun⟩

end

section
variable {s : State} {h l : Byte} {p : Permit} (h1 : 1 ≤ be16 h l) (hp : s.permit? (be16 h l) = some p)
include h1 hp

theorem askRetryPermit_of_stalled {phase : Phase} {cause : StallCause} (hst : p.state = .stalled) (hstall : p.stall = some (phase, cause)) :
    askRetryPermit [h, l] s
      = (s.retry (be16 h l) phase, .ok, (s.retry (be16 h l) phase).permitStateField (be16 h l)) := by
  refine (State.onPermit_of_permit? _ h1 hp).trans ?_
  rw [hst, hstall, State.serial_of_permit? hp]

theorem askRetryPermit_of_not (hst : p.state ≠ .stalled) : askRetryPermit [h, l] s = s.refuse .badState := by
  refine (State.onPermit_of_permit? _ h1 hp).trans ?_
  split
  next hstalled _ => exact absurd hstalled hst
  next => rfl

end

/-- Settles O35. -/
theorem retryPermitResumes : Obligations.RetryPermitResumes := by
  intro x h l p s h1 hp
  refine ⟨fun hno => refuses_of_refuse rfl (askRetryPermit_of_not (s := s.atRequest x) h1 hp hno), fun phase cause hst hstall => ?_⟩
  have hp' : (s.atRequest x).permit? (be16 h l) = some p := hp
  have hwork := askRetryPermit_of_stalled (s := s.atRequest x) h1 hp hst hstall
  have hkept := State.retry_keeps (s.atRequest x) (be16 h l) phase
  have hpermits : AlikeButPermits (s.console x (askRetryPermit [h, l])) s :=
    State.console_alikeButPermits hwork (State.retry_framePermits phase)
  have hreplied {p1 p' : Permit} (hp1 : ((s.atRequest x).retry (be16 h l) phase).permit? (be16 h l) = some p1) (hframe : p'.frame = p1.frame) :
      Replied s x .ok (u8 p'.state.code) (s.console x (askRetryPermit [h, l])) := by
    have hstate : p'.state = p1.state := (congrArg Permit.state hframe :)
    rw [hstate, ← State.permitStateField_of_permit? hp1]
    exact State.console_replied_of_frame hwork hkept.shape (.inl rfl) rfl rfl rfl
  by_cases hphase : phase = .issuing
  · subst hphase
    obtain ⟨p1, hp1, hstate, hstall', hfree, hheld⟩ := State.retry_issues hp'
    obtain ⟨p', hp'', hframe⟩ := State.console_permit_some hwork hp1
    have hstate' : p'.state = .issuing := (congrArg Permit.state hframe :).trans hstate
    refine ⟨_, rfl, p', hp'', hreplied hp1 hframe, hpermits, ?_,
      fun _ _ => ⟨nofun, nofun, fun hno => absurd rfl hno⟩, fun _ hhold => ?_, fun _ hhold => ?_⟩
    · intro limit
      exact ⟨fun hlimit => (nomatch hlimit.1), fun _ => ⟨hstate', (congrArg Permit.stall hframe :).trans hstall'⟩⟩
    · exact (congrArg Permit.issueCount hframe :).trans (hfree hhold)
    · exact ⟨(congrArg Permit.issueCount hframe :).trans (hheld hhold).1, (congrArg Permit.issueOwed hframe :).trans (hheld hhold).2⟩
  · obtain ⟨p1, hp1, hclaims1⟩ := State.retry_claims hp' phase hphase
    obtain ⟨p', hp'', hframe⟩ := State.console_permit_some hwork hp1
    have hclaims := hclaims1.of_frame (State.console_device? hwork) hframe
    refine ⟨_, rfl, p', hp'', hreplied hp1 hframe, hpermits, ?_, fun hwait hout => ⟨fun hsw hhold step hstep => ?_, fun hre hhold n a rest hstack => ?_,
      fun _ hhold => ?_⟩, fun hno => absurd hno hphase, fun hno => absurd hno hphase⟩
    · intro limit
      have hlimit : limit ↔ ((s.atRequest x).modPermit (be16 h l) (Permit.retried phase)).atLimit (p.retried phase) := by
        constructor
        · rintro ⟨rfl, hhold, hwait, hout, step, d, hstep, hd, hfree, htags⟩
          exact ⟨hhold, hwait, hout, step.device, step.action, d, congrArg (Option.map _) hstep, hd, hfree, htags⟩
        · rintro ⟨hhold, hwait, hout, n, a, d, hwants, hd, hfree, htags⟩
          cases phase with
          | issuing => exact absurd rfl hphase
          | restoring =>
            obtain ⟨e, -, he⟩ := Option.map_eq_some_iff.1 hwants
            cases he
          | switching =>
            obtain ⟨step, hstep, he⟩ := Option.map_eq_some_iff.1 hwants
            cases he
            exact ⟨rfl, hhold, hwait, hout, step, d, hstep, hd, hfree, htags⟩
      exact ⟨fun h => hclaims.of_limit (hlimit.1 h), fun h => hclaims.of_not_limit (mt hlimit.2 h)⟩
    · subst hsw
      have hclaim := hclaims.claiming step.device (.isolation step.action) hhold hwait hout (congrArg (Option.map _) hstep)
      exact (State.serial_of_permit? hp ▸ hclaim).claimed (fun d hd => ⟨d.waits, hd⟩) hout rfl
    · subst hre
      have hwants : (p.retried .restoring).wants = some (n, .restoration) := by
        simp [Permit.wants, Permit.retried, Phase.state, hstack]
      have hclaim := hclaims.claiming n .restoration hhold hwait hout hwants
      exact (State.serial_of_permit? hp ▸ hclaim).claimed (fun d hd => ⟨d.waits, hd⟩) hout rfl
    · have hblocked := hclaims.blocked (.inl hhold)
      have hmap := congrArg Permit.outstanding hblocked
      simpa [Permit.frame, Permit.retried, hout] using hmap

end Sys2Proof.Machine
end

section
/-!
A device handed over, restoration begun, and CANCEL_PERMIT: O37.
-/

namespace Sys2Proof.Machine
/-! ### A device handed over (R59) -/

/-- What neither traffic nor a claim changes of a permit. -/
def Permit.core (p : Permit) : Permit :=
  { p.frame with state := .draft, outstanding := none, waiting := false, stall := none, readback := none, issueOwed := false }

theorem Permit.core_of_frame {p q : Permit} (h : p.frame = q.frame) : p.core = q.core :=
  congrArg (fun f : Permit =>
    { f with state := .draft, outstanding := none, waiting := false, stall := none, readback := none, issueOwed := false }) h

theorem Permit.answered_core (p : Permit) (n : Nat) (what : ClaimFor) (a : ClaimAnswer) : (p.answered n what a).core = p.core := by
  cases a <;> rfl

/-- What the work on another permit leaves of a state: every permit but for what claims change, those outside a list wholly, and
every device but one up to its wait list. -/
structure State.Spared (s t : State) (serials : List Nat) (device : Nat) : Prop where
  core    : ∀ m, (t.permit? m).map Permit.core = (s.permit? m).map Permit.core
  permits : ∀ m, m ∉ serials → (t.permit? m).map Permit.frame = (s.permit? m).map Permit.frame
  devices : ∀ m d, m ≠ device → s.device? m = some d → ∃ l, t.device? m = some { d with waits := l }
  restore : ∀ m p, s.permit? m = some p → p.state = .restoring → ∃ p', t.permit? m = some p' ∧ p'.state = .restoring

theorem State.Spared.refl (s : State) (serials : List Nat) (device : Nat) : s.Spared s serials device :=
  ⟨fun _ => rfl, fun _ _ => rfl, fun _ d _ hd => ⟨d.waits, hd⟩, fun _ p hp hst => ⟨p, hp, hst⟩⟩

theorem State.Spared.trans {s t u : State} {serials : List Nat} {device : Nat} (h : s.Spared t serials device)
    (h' : t.Spared u serials device) : s.Spared u serials device := by
  refine ⟨fun m => (h'.core m).trans (h.core m), fun m hm => (h'.permits m hm).trans (h.permits m hm), fun m d hm hd => ?_,
    fun m p hp hst => (h.restore m p hp hst).elim fun q hq => h'.restore m q hq.1 hq.2⟩
  obtain ⟨l, hl⟩ := h.devices m d hm hd
  obtain ⟨l', hl'⟩ := h'.devices m { d with waits := l } hm hl
  exact ⟨l', hl'⟩

theorem State.Spared.mono {s t : State} {l l' : List Nat} {device : Nat} (h : s.Spared t l device) (hl : l ⊆ l') : s.Spared t l' device :=
  ⟨h.core, fun m hm => h.permits m fun hin => hm (hl hin), h.devices, h.restore⟩

theorem State.Spared.of_frameWatch {s t : State} (h : t.frameWatch = s.frameWatch) (serials : List Nat) (device : Nat) :
    s.Spared t serials device := by
  have hpermits := State.permit?_of_frameWatch h
  refine ⟨fun m => ?_, fun m _ => hpermits m, fun m d _ hd => ⟨d.waits, (State.device?_of_frameWatch h m).trans hd⟩, fun m p hp hst => ?_⟩
  swap
  · obtain ⟨p', hp', hframe⟩ := State.permit?_of_frameWatch_some h hp
    exact ⟨p', hp', (congrArg Permit.state hframe :).trans hst⟩
  have hcore (o : Option Permit) : o.map Permit.core = (o.map Permit.frame).map fun f : Permit =>
      { f with state := .draft, outstanding := none, waiting := false, stall := none, readback := none, issueOwed := false } := by
    rw [Option.map_map]; rfl
  rw [hcore, hcore, hpermits]

/-- A change of one permit that leaves its core. -/
theorem State.Spared.modPermit {s : State} {serial : Nat} {f : Permit → Permit} (hf : ∀ p, (f p).serial = p.serial)
    (hcore : ∀ p, (f p).core = p.core) (device : Nat)
    (hrestore : ∀ p, s.permit? serial = some p → p.state = .restoring → (f p).state = .restoring) :
    s.Spared (s.modPermit serial f) [serial] device := by
  refine ⟨fun m => ?_, fun m hm => ?_, fun m d _ hd => ⟨d.waits, hd⟩, fun m p hp hst => ?_⟩
  · by_cases hm : m = serial
    · subst hm
      cases hp : s.permit? m with
      | none => rw [State.permit?, State.modPermit, tFind_tMod Permit.serial _ _ _ _ hf]; exact congrArg (Option.map _) (congrArg (Option.map _) hp)
      | some p => rw [State.permit?_modPermit hf hp]; exact congrArg some (hcore p)
    · rw [State.permit?_modPermit_other hf hm]
  · rw [State.permit?_modPermit_other hf (by simpa using hm)]
  · by_cases hm : m = serial
    · subst hm
      exact ⟨_, State.permit?_modPermit hf hp, hrestore p hp hst⟩
    · exact ⟨p, (State.permit?_modPermit_other hf hm).trans hp, hst⟩

theorem State.Spared.leaveWaits (s : State) (serial : Nat) (serials : List Nat) (device : Nat) :
    s.Spared (s.leaveWaits serial) serials device :=
  ⟨fun _ => rfl, fun _ _ => rfl, fun m d _ hd => ⟨d.waits.erase serial, by rw [State.device?_leaveWaits, hd]; rfl⟩,
    fun _ p hp hst => ⟨p, hp, hst⟩⟩

theorem State.Spared.modDevice {s : State} {device : Nat} {f : Device → Device} (hf : ∀ d, (f d).number = d.number) (serials : List Nat) :
    s.Spared (s.modDevice device f) serials device :=
  ⟨fun _ => rfl, fun _ _ => rfl, fun _ d hm hd => ⟨d.waits, (State.device?_modDevice_other hf hm).trans hd⟩,
    fun _ p hp hst => ⟨p, hp, hst⟩⟩

theorem Permit.answered_restoring {p : Permit} {n : Nat} {what : ClaimFor} {a : ClaimAnswer} (ha : a ≠ .tagLimit) :
    (p.answered n what a).state = p.state := by
  cases a with
  | granted a => rfl
  | wait => rfl
  | tagLimit => exact absurd rfl ha

theorem State.Spared.answeredClaim {s : State} {serial : Nat} {p : Permit} (hp : s.permit? serial = some p) (device : Nat) (what : ClaimFor)
    {a : ClaimAnswer} (ha : p.state = .restoring → a ≠ .tagLimit) : s.Spared (s.answeredClaim serial device what a) [serial] device := by
  have hmod {t : State} (ht : t.permit? serial = some p) := State.Spared.modPermit (s := t) (serial := serial)
    (f := fun p => p.answered device what a) (fun p => p.answered_serial device what a) (fun p => p.answered_core device what a) device
    fun q hq hst => by
      cases ht.symm.trans hq
      exact (Permit.answered_restoring (ha hst)).trans hst
  unfold State.answeredClaim
  split
  · exact (State.Spared.leaveWaits s serial _ _).trans (hmod hp)
  · exact hmod hp

/-- A claim and the permit's acting on its answer (R71, R86). -/
theorem State.Spared.claim {s : State} {serial n : Nat} {p : Permit} {what : ClaimFor} (hp : s.permit? serial = some p)
    (hwants : p.wants = some (n, what)) (device : Nat) :
    s.Spared ((s.claim device serial what).1.actOnClaim serial device what (s.claim device serial what).2) [serial] device := by
  have hact {t : State} (ht : t.permit? serial = some p) {a : ClaimAnswer} (ha : p.state = .restoring → a ≠ .tagLimit) :
      t.Spared (t.actOnClaim serial device what a) [serial] device :=
    (State.Spared.answeredClaim ht device what ha).trans
      (.of_frameWatch (State.frameWatch_of_frame (State.actOnClaim_frame ht device what a)) _ _)
  unfold State.claim
  split
  · exact hact hp fun _ => nofun
  · refine (State.Spared.modDevice (fun d => d.claim_number serial what) _).trans (hact (by exact hp) fun hst hlimit => ?_)
    obtain ⟨-, ⟨a, rfl⟩, -⟩ := Device.claim_tagLimit_iff.1 hlimit
    rw [Permit.wants, hst] at hwants
    obtain ⟨e, -, he⟩ := Option.map_eq_some_iff.1 hwants
    cases he

theorem State.handTo_spared (device : Nat) (ws : List Nat) (s : State) : s.Spared (State.handTo device ws s) ws device := by
  induction ws generalizing s with
  | nil => exact .refl s _ _
  | cons serial more ih =>
    have hskip := (ih s).mono (List.subset_cons_self serial more)
    simp only [State.handTo]
    split
    · exact hskip
    next p hp =>
      split
      · exact hskip
      · split
        · exact hskip
        next n what hwants =>
          have hleft : s.Spared ((s.leaveWaits serial).modPermit serial fun p => { p with waiting := false }) [serial] device :=
            (State.Spared.leaveWaits s serial _ _).trans (.modPermit (f := fun p => { p with waiting := false }) (fun _ => rfl) (fun _ => rfl) device
              fun _ _ hst => hst)
          have hp' : ((s.leaveWaits serial).modPermit serial fun p => { p with waiting := false }).permit? serial
              = some { p with waiting := false } := State.permit?_modPermit (f := fun p => { p with waiting := false }) (fun _ => rfl) (show (s.leaveWaits serial).permit? serial = some p from hp)
          have hone := (hleft.trans (.claim hp' hwants device)).mono (l' := serial :: more) (by simp)
          split
          · exact hone.trans ((ih _).mono (List.subset_cons_self serial more))
          · exact hone

theorem State.freeDevice_spared (s : State) (device : Nat) :
    s.Spared (s.freeDevice device) (((s.device? device).map (·.waits)).getD []) device :=
  (State.Spared.modDevice (f := fun d => { d with pending := none }) (fun _ => rfl) _).trans (State.handTo_spared device _ _)

/-- A device freed that no permit waits on (R57, R58). -/
theorem State.freeDevice_of_no_waits {s : State} {device : Nat} {d : Device} (hd : s.device? device = some d) (hwaits : d.waits = []) :
    s.freeDevice device = s.modDevice device fun d => { d with pending := none } := by
  rw [State.freeDevice, hd, Option.map_some, hwaits]
  rfl
/-! ### Restoration begun (R87, R92) -/

/-- A permit closed. -/
def Permit.closedOff (p : Permit) : Permit :=
  { p with hold := false, waiting := false, surrender := false, stall := none, readback := none, state := .closed }

theorem State.closePermit_frameWatch {s : State} {serial : Nat} {p : Permit} (hp : s.permit? serial = some p) (cause : PermitCause) :
    (s.closePermit serial cause).frameWatch = ((s.leaveWaits serial).modPermit serial Permit.closedOff).frameWatch := by
  have hp1 : ((s.leaveWaits serial).modPermit serial fun p =>
      { p with hold := false, waiting := false, surrender := false, stall := none, readback := none }).permit? serial = some
        { p with hold := false, waiting := false, surrender := false, stall := none, readback := none } :=
    State.permit?_modPermit (f := fun p => { p with hold := false, waiting := false, surrender := false, stall := none, readback := none })
      (fun _ => rfl) (show (s.leaveWaits serial).permit? serial = some p from hp)
  have hset := (State.setPermitState_frameWatch hp1 .closed cause).trans
    (congrArg State.frameWatch (State.modPermit_modPermit _ _ _ (by intro; rfl)))
  simp only [State.closePermit, hp]
  split
  · exact hset
  · exact (State.offerPermit_frameWatch _ _ _).trans hset

/-- What the record of a permit in RESTORING and the devices are after restoration has begun (R92). -/
structure Permit.Restoring (s0 t : State) (serial : Nat) (p0 p' : Permit) : Prop where
  closed  : p0.stack = [] → p'.frame = p0.closedOff.frame
  claims  : p0.stack ≠ [] → Permit.Claims s0 t serial p0 p'
  devices : ∀ n d, s0.device? n = some d → d.waits = [] → (∀ e, p0.stack.head? = some e → e.1 ≠ n) → t.device? n = some d

/-- A claim on another device leaves a device on which no permit waits. -/
theorem State.claimNext_device?_other {s : State} {serial : Nat} {p : Permit} (hp : s.permit? serial = some p) {n : Nat} {d : Device}
    (hd : s.device? n = some d) (hwaits : d.waits = []) (hn : ∀ device what, p.wants = some (device, what) → device ≠ n) :
    (s.claimNext serial).1.device? n = some d := by
  rcases s.claimNext_cases serial with hnone | ⟨q, device, what, hq, -, hwants, hwait | ⟨d', -, hclaim⟩⟩
  · rw [hnone]; exact hd
  · rw [hwait]; exact hd
  · obtain rfl := Option.some.inj (hp.symm.trans hq)
    have hother : (s.modDevice device fun d => (d.claim serial what).1).device? n = some d :=
      (State.device?_modDevice_other (fun d => d.claim_number serial what) (Ne.symm (hn device what hwants))).trans hd
    have hp1 : (s.modDevice device fun d => (d.claim serial what).1).permit? serial = some p := hp
    rw [hclaim, State.device?_of_frameWatch (State.frameWatch_of_frame (State.actOnClaim_frame hp1 device what _)), State.answeredClaim]
    split
    · refine (State.device?_leaveWaits _ _ _).trans ?_
      rw [hother, Option.map_some, hwaits, List.erase_nil, ← hwaits]
    · exact hother

section
variable {s s0 : State} {serial : Nat} {p0 : Permit} (h : s.frameWatch = s0.frameWatch) (hp0 : s0.permit? serial = some p0)
include h hp0

theorem State.beginRestoration_restoring (hst : p0.state = .restoring) (cause : PermitCause) :
    ∃ p', (s.beginRestoration serial cause).permit? serial = some p'
      ∧ Permit.Restoring s0 (s.beginRestoration serial cause) serial p0 p' := by
  obtain ⟨p, hp, hframe⟩ := State.permit?_of_frameWatch_some h hp0
  have hstack : p.stack = p0.stack := (congrArg Permit.stack hframe :)
  cases hs : p0.stack with
  | nil =>
    have hwork : s.beginRestoration serial cause = s.closePermit serial cause := by
      simp only [State.beginRestoration, hp, hstack, hs, List.isEmpty_nil, if_true]
    have hclosed := State.closePermit_frameWatch hp cause
    obtain ⟨p', hp', hframe'⟩ := State.permit?_of_frameWatch_some hclosed
      (State.permit?_modPermit (f := Permit.closedOff) (fun _ => rfl) (show (s.leaveWaits serial).permit? serial = some p from hp))
    rw [hwork]
    refine ⟨p', hp', fun _ => ?_, fun hno => absurd hs hno, fun n d hd hwaits _ => ?_⟩
    · rw [hframe']
      exact congrArg (fun f : Permit => f.closedOff) hframe
    · rw [State.device?_of_frameWatch hclosed]
      refine (State.device?_leaveWaits _ _ _).trans ?_
      rw [State.device?_of_frameWatch h, hd, Option.map_some, hwaits, List.erase_nil, ← hwaits]
  | cons e rest =>
    have hwork : s.beginRestoration serial cause = (s.claimNext serial).1 := by
      simp only [State.beginRestoration, hp, hstack, hs, List.isEmpty_cons]
      rfl
    obtain ⟨p', hp', hclaims⟩ := State.claimNext_claims h hp0
    rw [hwork]
    refine ⟨p', hp', fun hno => absurd (hs.symm.trans hno) nofun, fun _ => hclaims, fun n d hd hwaits hn => ?_⟩
    refine State.claimNext_device?_other hp ((State.device?_of_frameWatch h n).trans hd) hwaits fun device what hwants => ?_
    have hstate : p.state = .restoring := (congrArg Permit.state hframe :).trans hst
    rw [Permit.wants, hstate, hstack] at hwants
    obtain ⟨e', he', heq⟩ := Option.map_eq_some_iff.1 hwants
    cases heq
    exact hn e' he'

/-- A cancelled permit turned to RESTORING (R91, R92). -/
theorem State.turnToRestoring_restoring : ∃ p', (s.turnToRestoring serial).permit? serial = some p'
    ∧ Permit.Restoring (s0.modPermit serial fun p => { p with state := .restoring }) (s.turnToRestoring serial) serial
      { p0 with state := .restoring } p' := by
  obtain ⟨p, hp, -⟩ := State.permit?_of_frameWatch_some h hp0
  have hset := (State.setPermitState_frameWatch hp .restoring .cancel).trans (State.modPermit_frameWatch_congr h serial (by intro; simp [Permit.frame, Function.comp_def]))
  exact State.beginRestoration_restoring hset (State.permit?_modPermit (f := fun p => { p with state := .restoring }) (fun _ => rfl) hp0) rfl .cancel

end

namespace Permit.Restoring
variable {s0 t : State} {serial : Nat} {p0 p' : Permit} (h : Permit.Restoring s0 t serial p0 p')
include h

theorem of_frame {u : State} {q : Permit} (hd : ∀ n, u.device? n = t.device? n) (hq : q.frame = p'.frame) :
    Permit.Restoring s0 u serial p0 q :=
  ⟨fun hs => hq.trans (h.closed hs), fun hs => (h.claims hs).of_frame hd hq, fun n d hd0 hwaits hn => (hd n).trans (h.devices n d hd0 hwaits hn)⟩

theorem state (hst : p0.state = .restoring) : p'.state = if p0.stack = [] then .closed else .restoring := by
  split
  next hs => exact (congrArg Permit.state (h.closed hs) :)
  next hs =>
    refine ((h.claims hs).of_not_limit ?_).1.trans hst
    rintro ⟨-, -, -, n, a, d, hwants, -⟩
    rw [Permit.wants, hst] at hwants
    obtain ⟨e, -, he⟩ := Option.map_eq_some_iff.1 hwants
    cases he

theorem stall (hst : p0.state = .restoring) (hnone : p0.stall = none) : p'.stall = none := by
  by_cases hs : p0.stack = []
  · exact (congrArg Permit.stall (h.closed hs) :)
  · refine ((h.claims hs).of_not_limit ?_).2.trans hnone
    rintro ⟨-, -, -, n, a, d, hwants, -⟩
    rw [Permit.wants, hst] at hwants
    obtain ⟨e, -, he⟩ := Option.map_eq_some_iff.1 hwants
    cases he

theorem kept : p'.stack = p0.stack ∧ p'.cancelWait = p0.cancelWait ∧ p'.lastReleased = p0.lastReleased
    ∧ (p0.readback = none → p'.readback = none) ∧ (p0.issueOwed = false → p'.issueOwed = false) := by
  by_cases hs : p0.stack = []
  · have hclosed := h.closed hs
    exact ⟨(congrArg Permit.stack hclosed :), (congrArg Permit.cancelWait hclosed :), (congrArg Permit.lastReleased hclosed :),
      fun _ => (congrArg Permit.readback hclosed :), fun ho => (congrArg Permit.issueOwed hclosed :).trans ho⟩
  · exact (h.claims hs).kept

/-- A permit free to claim has claimed the device of its stack top. -/
theorem restores {s : State} {p : Permit} (hst : p0.state = .restoring) (hserial : p.serial = serial) (hhold : p0.hold = p.hold)
    (hstack : p0.stack = p.stack) (hsteps : p0.steps = p.steps) (hwait : p0.cancelWait = false) (hout : p0.outstanding = none)
    (hd : ∀ e, p.stack.head? = some e → ∀ d, s.device? e.1 = some d → ∃ l, s0.device? e.1 = some { d with waits := l }) :
    Restores s t p p' := by
  intro hfree n a rest hs
  have hwants : p0.wants = some (n, .restoration) := by
    rw [Permit.wants, hst, hstack, hs]
    rfl
  have hclaim := (h.claims (by rw [hstack, hs]; nofun)).claiming n .restoration (hhold.trans hfree) hwait hout hwants
  rw [← hserial] at hclaim
  refine hclaim.claimed (hd (n, a) (by rw [hs]; rfl)) hout ?_
  rw [Permit.instructionIndex, hsteps]

end Permit.Restoring
/-! ### What a withdrawal leaves of the queues (R170) -/

theorem State.signal_chan (s : State) (c d : Chan) : (s.signal c).chan d = s.chan d := by
  rw [State.signal]
  split <;> rfl

theorem State.flowEval_queue (s : State) (c d : Chan) : ((s.flowEval c).chan d).queue = (s.chan d).queue := by
  have hmod (f : Channel → Channel) (hf : ∀ ch, (f ch).queue = ch.queue) : ((s.modChan c f).chan d).queue = (s.chan d).queue := by
    rw [State.modChan_chan]
    split
    · exact hf _
    · rfl
  rw [State.flowEval]
  split
  · exact hmod _ fun _ => rfl
  · split
    · rw [State.signal_chan]
      exact hmod _ fun _ => rfl
    · rfl

theorem State.withdrawOn_queue (s : State) (c d : Chan) (p : Entry → Bool) : ((s.withdrawOn c p).chan d).queue =
    if c = d then (s.chan d).queue.filter fun e => !(!e.inFlight && p e) else (s.chan d).queue := by
  rw [State.withdrawOn]
  split
  next hany =>
    rw [State.signal_chan, State.flowEval_queue, State.modChan_chan]
    split <;> rfl
  next hnone =>
    split
    next heq =>
      subst heq
      refine (List.filter_eq_self.2 fun e he => ?_).symm
      by_contra hno
      exact hnone (List.any_eq_true.2 ⟨e, he, by simpa using hno⟩)
    · rfl

/-- No entry that satisfies the test of a withdrawal waits after it, and no entry is new. -/
theorem State.mem_withdraw {s : State} {p : Entry → Bool} {c : Chan} {e : Entry} (h : e ∈ ((s.withdraw p).chan c).queue) :
    e ∈ (s.chan c).queue ∧ (p e = true → e.inFlight = true) := by
  have hfold : ∀ (l : List Chan) (t : State), e ∈ ((l.foldl (fun t c => t.withdrawOn c p) t).chan c).queue →
      e ∈ (t.chan c).queue ∧ (c ∈ l → p e = true → e.inFlight = true) := by
    intro l
    induction l with
    | nil => exact fun t he => ⟨he, nofun⟩
    | cons d l ih =>
      intro t he
      obtain ⟨hin, hlater⟩ := ih _ he
      rw [State.withdrawOn_queue] at hin
      split at hin
      next heq =>
        obtain ⟨hmem, hkept⟩ := List.mem_filter.1 hin
        exact ⟨hmem, fun _ hp => by simpa [hp] using hkept⟩
      next hne => exact ⟨hin, fun hc => hlater ((List.mem_cons.1 hc).resolve_left (Ne.symm hne))⟩
  obtain ⟨hmem, hwait⟩ := hfold allChans s h
  exact ⟨hmem, hwait (mem_allChans c)⟩

/-! ### A permit's telegram taken back (R67) -/

/-- A permit that has one of its telegrams in no place: none waits that the record links, and its status is none of this kind. -/
structure State.Untold (s : State) (tg : PermitTg) (serial : Nat) : Prop where
  record : ∀ p, s.permit? serial = some p → p.tg? tg = none
  waits  : s.noneWaits (.permit tg serial)

theorem Permit.setTg_tg?_other {p : Permit} {tg tg' : PermitTg} (h : tg' ≠ tg) (st : TgStatus) : (p.setTg tg st).tg? tg' = p.tg? tg' := by
  cases tg <;> cases tg' <;> simp [Permit.setTg, Permit.tg?] at h ⊢

theorem State.noneWaits_of_queues {s t : State} {o : Owner} (h : ∀ c, ∀ e ∈ (t.chan c).queue, e.owner = o → e ∈ (s.chan c).queue)
    (hs : s.noneWaits o) : t.noneWaits o := fun c e he ho hwait => hs c e (h c e he ho) ho hwait

/-- A change of one permit that leaves one of its telegrams where it is. -/
theorem State.Untold.modPermit {s : State} {tg : PermitTg} {serial n : Nat} (h : s.Untold tg serial) {f : Permit → Permit}
    (hf : ∀ p, (f p).serial = p.serial) (htg : n = serial → ∀ p : Permit, p.tg? tg = none → (f p).tg? tg = none) :
    (s.modPermit n f).Untold tg serial := by
  refine ⟨fun p hp => ?_, h.waits⟩
  by_cases hn : serial = n
  · subst hn
    cases hq : s.permit? serial with
    | none =>
      rw [State.permit?, State.modPermit, tFind_tMod Permit.serial _ _ _ _ hf] at hp
      obtain ⟨q, hq', -⟩ := Option.map_eq_some_iff.1 hp
      exact absurd (hq.symm.trans hq') nofun
    | some q =>
      rw [State.permit?_modPermit hf hq] at hp
      cases hp
      exact htg rfl q (h.record q hq)
  · rw [State.permit?_modPermit_other hf hn] at hp
    exact h.record p hp

/-- Traffic that has nothing of a telegram to move gives it no place (R69). -/
theorem untold_spared (tg : PermitTg) (serial : Nat) : Spares (· ≠ .permit tg serial) fun t => t.Untold tg serial where
  posted := posted_of_notices fun _ _ _ h => ⟨h.record, h.waits⟩
  quiet := fun _ _ _ _ h => ⟨h.record, h.waits⟩
  marks := fun s c f hf h => ⟨h.record, State.noneWaits_of_queues (fun d e he _ => by
    have hq : ∀ ch, (f ch).queue = ch.queue := fun ch => by rw [hf]
    rw [State.modChan_chan] at he
    split at he
    · rwa [hq] at he
    · exact he) h.waits⟩
  crew := fun _ _ _ _ h => ⟨h.record, h.waits⟩
  enter := fun s c e hfresh h => ⟨h.record, State.noneWaits_of_queues (fun d x hx ho => by
    rw [State.modChan_chan] at hx
    split at hx
    · rcases mem_insertEntry.1 hx with rfl | hx
      · exact absurd ho hfresh.owner
      · exact hx
    · exact hx) h.waits⟩
  leave := fun s c e _ _ _ _ h => ⟨h.record, State.noneWaits_of_queues (fun d x hx _ => by
    rw [State.modChan_chan] at hx
    split at hx
    · exact List.mem_of_mem_erase hx
    · exact hx) h.waits⟩
  drop := fun s c n _ h => ⟨h.record, State.noneWaits_of_queues (fun d x hx _ => by
    rw [State.modChan_chan] at hx
    split at hx
    · exact List.mem_of_mem_filter hx
    · exact hx) h.waits⟩
  order := fun _ _ _ _ _ _ _ h => ⟨h.record, h.waits⟩
  followUp := fun _ _ _ _ h => ⟨h.record, h.waits⟩
  permit := fun s n tg' st hmay h => h.modPermit (fun p => by cases tg' <;> rfl) fun hn p hp => by
    subst hn
    rw [Permit.setTg_tg?_other (fun heq => hmay (by rw [heq])), hp]
  mark := fun s n d h => h.modPermit (fun _ => rfl) fun _ p hp => by cases tg <;> exact hp
  prompt := fun s slot body st _ h => by
    unfold State.setPrompts
    split
    · exact ⟨h.record, h.waits⟩
    · exact h
  reorder := fun _ _ _ _ _ _ _ _ _ _ h => ⟨h.record, h.waits⟩
  respond := fun _ _ _ _ h => ⟨h.record, h.waits⟩
  settle := fun s h => ⟨h.record, State.noneWaits_of_queues (fun c e he _ => by rwa [State.settle_queue] at he) h.waits⟩
  headDue := fun _ _ _ _ _ _ _ _ _ _ => nofun
  followUpDue := fun _ _ _ _ _ _ _ => nofun
  permitDue := fun s n tg' p h hp hdue heq => by
    cases heq
    exact absurd ((h.record p hp).symm.trans hdue) nofun
  displaced := fun _ _ _ _ _ _ _ _ _ => nofun
  evicted := fun s c e h he hwait _ => ⟨fun _ _ => .inl nofun, fun _ _ => nofun, fun hlinked _ ho => by
    rw [h.waits c e he ho hwait] at hlinked
    cases hlinked⟩
/-! ### CANCEL_PERMIT (R91) -/

theorem State.dropInstruction_frame (s : State) (serial : Nat) :
    (s.dropInstruction serial).frame = (s.modPermit serial fun p => { p with outstanding := none }).frame := by
  rw [State.dropInstruction, State.syncPermitDefer_frame]
  exact State.modPermit_frame_congr (State.takeBack_frame _ _ _) serial fun _ => by simp [Permit.frame, Function.comp_def]

theorem State.dropIssue_frame (s : State) (serial : Nat) : (s.dropIssue serial).frame = s.frame := by
  rw [State.dropIssue, State.syncPermitDefer_frame]
  refine (State.modPermit_frame_congr (State.takeBack_frame _ _ _) serial fun _ => by simp [Permit.frame, Function.comp_def]).trans ?_
  exact State.modPermit_frame _ _ _ fun _ => rfl

theorem State.turnToRestoring_framePermits (s : State) (serial : Nat) : (s.turnToRestoring serial).framePermits = s.framePermits :=
  (State.beginRestoration_framePermits _ _ _).trans (State.setPermitState_framePermits _ _ _ _)

theorem State.cancelPermit_framePermits {s t : State} {p : Permit} (h : s.cancelPermit p = some t) : t.framePermits = s.framePermits := by
  unfold State.cancelPermit at h
  split at h
  · cases h
    exact State.closePermit_framePermits _ _ _
  · cases h
    unfold State.cancelSwitching
    split
    · exact (State.turnToRestoring_framePermits _ _).trans rfl
    · split
      · exact (State.turnToRestoring_framePermits _ _).trans ((State.freeDevice_framePermits _ _).trans (State.dropInstruction_framePermits _ _))
      · exact (State.turnToRestoring_framePermits _ _).trans ((State.freeDevice_framePermits _ _).trans (State.dropInstruction_framePermits _ _))
      · exact State.setPermitState_framePermits _ _ _ _
  · cases h
    exact (State.turnToRestoring_framePermits _ _).trans ((State.dropIssue_framePermits _ _).trans rfl)
  · split at h
    · cases h
    · cases h
      exact (State.turnToRestoring_framePermits _ _).trans rfl
  · split at h
    · cases h
      exact (State.beginRestoration_framePermits _ _ _).trans (State.releaseUnreported_framePermits _ _)
    · cases h
  · cases h
  · cases h

section
variable {s : State} {h l : Byte} {p : Permit} (h1 : 1 ≤ be16 h l) (hp : s.permit? (be16 h l) = some p)
include h1 hp

theorem askCancelPermit_of {t : State} (ht : s.cancelPermit p = some t) : askCancelPermit [h, l] s =
    (t, .ok, t.permitStateField (be16 h l) ++ mark ((t.permit? (be16 h l)).any (·.cancelWait))) := by
  refine (State.onPermit_of_permit? _ h1 hp).trans ?_
  rw [ht, State.serial_of_permit? hp]

theorem askCancelPermit_of_refused (ht : s.cancelPermit p = none) : askCancelPermit [h, l] s = s.refuse .badState := by
  refine (State.onPermit_of_permit? _ h1 hp).trans ?_
  rw [ht]

end

/-- What every accepted CANCEL_PERMIT shows after the request, by the permit its work leaves. -/
theorem cancelPermit_after {x : Xfer} {h l : Byte} {p p1 : Permit} {s t : State} (h1 : 1 ≤ be16 h l) (hp : s.permit? (be16 h l) = some p)
    (ht : (s.atRequest x).cancelPermit p = some t) (hp1 : t.permit? (be16 h l) = some p1) : ∃ p',
      (s.console x (askCancelPermit [h, l])).permit? (be16 h l) = some p' ∧ p'.frame = p1.frame
        ∧ Replied s x .ok (u8 p'.state.code ++ mark p'.cancelWait) (s.console x (askCancelPermit [h, l]))
        ∧ AlikeButPermits (s.console x (askCancelPermit [h, l])) s
        ∧ ∀ n, (s.console x (askCancelPermit [h, l])).device? n = t.device? n := by
  have hwork := askCancelPermit_of (s := s.atRequest x) h1 hp ht
  obtain ⟨p', hp', hframe⟩ := State.console_permit_some hwork hp1
  have hstate : p'.state = p1.state := (congrArg Permit.state hframe :)
  have hwait : p'.cancelWait = p1.cancelWait := (congrArg Permit.cancelWait hframe :)
  refine ⟨p', hp', hframe, ?_, State.console_alikeButPermits hwork (State.cancelPermit_framePermits ht), State.console_device? hwork⟩
  have hreplied := State.console_replied_of_frame (s := s) (effect := s) hwork (State.cancelPermit_keeps ht).shape (.inl rfl) rfl rfl rfl
  rw [State.permitStateField_of_permit? hp1, hp1, Option.any_some] at hreplied
  rw [hstate, hwait]
  exact hreplied

/-! What each kind of cancellation leaves: a permit whose restoration has begun. -/

section
variable {s : State} {serial : Nat} {p : Permit} (hp : s.permit? serial = some p)
include hp

/-- A cancellation in SWITCHING with no instruction outstanding (R91). -/
theorem State.cancelSwitching_of_none (hserial : p.serial = serial) (hout : p.outstanding = none) :
    ∃ p', (s.cancelSwitching p).permit? serial = some p' ∧ Permit.Restoring
      ((((s.leaveWaits serial).modPermit serial fun p => { p with waiting := false })).modPermit serial fun p => { p with state := .restoring })
      (s.cancelSwitching p) serial { p with waiting := false, state := .restoring } p' := by
  have hp1 : ((s.leaveWaits serial).modPermit serial fun p => { p with waiting := false }).permit? serial = some { p with waiting := false } :=
    State.permit?_modPermit (f := fun p => { p with waiting := false }) (fun _ => rfl) (show (s.leaveWaits serial).permit? serial = some p from hp)
  have hwork : s.cancelSwitching p = ((s.leaveWaits serial).modPermit serial fun p => { p with waiting := false }).turnToRestoring serial := by
    simp only [State.cancelSwitching, hout, hserial]
  rw [hwork]
  exact State.turnToRestoring_restoring rfl hp1

/-- A cancellation in ISSUING (R91). -/
theorem State.cancelIssuing_restoring (hserial : p.serial = serial) :
    ∃ p', (s.cancelIssuing p).permit? serial = some p' ∧ Permit.Restoring
      ((s.modPermit serial fun p => { p with readback := none, issueOwed := false }).modPermit serial fun p => { p with state := .restoring })
      (s.cancelIssuing p) serial { p with readback := none, issueOwed := false, state := .restoring } p' := by
  have hp1 := State.permit?_modPermit (f := fun p => { p with readback := none, issueOwed := false }) (fun _ => rfl) hp
  have hframe := State.frameWatch_of_frame ((s.modPermit serial fun p => { p with readback := none, issueOwed := false }).dropIssue_frame serial)
  subst hserial
  exact State.turnToRestoring_restoring hframe hp1

/-- A cancellation of a stalled permit (R91). -/
theorem State.cancelStalled_restoring :
    ∃ p', ((s.modPermit serial fun p => { p with stall := none }).turnToRestoring serial).permit? serial = some p' ∧ Permit.Restoring
      ((s.modPermit serial fun p => { p with stall := none }).modPermit serial fun p => { p with state := .restoring })
      ((s.modPermit serial fun p => { p with stall := none }).turnToRestoring serial) serial { p with stall := none, state := .restoring } p' :=
  State.turnToRestoring_restoring rfl (State.permit?_modPermit (f := fun p => { p with stall := none }) (fun _ => rfl) hp)

end

/-- What the state is from which a permit whose instruction has been given up begins restoration: its record with the instruction gone, and
the device freed. -/
structure Permit.GivenUp (s s0 : State) (serial : Nat) (p p0 : Permit) (i : Outstanding) : Prop where
  state    : p0.state = .restoring
  released : p0.lastReleased = some i.index
  stack    : p0.stack = p.stack
  free     : ∀ d, s.device? i.device = some d → p.serial ∉ d.waits →
    p0.hold = p.hold ∧ p0.steps = p.steps ∧ p0.outstanding = none
  freed    : ∀ d, s.device? i.device = some d → d.waits = [] → s0.device? i.device = some { d with pending := none }
  devices  : ∀ n, n ≠ i.device → ∀ d, s.device? n = some d → ∃ l, s0.device? n = some { d with waits := l }

section
variable {s : State} {serial : Nat} {p : Permit} {i : Outstanding} (hp : s.permit? serial = some p) (hserial : p.serial = serial)
  (hout : p.outstanding = some i)
include hp hserial hout

/-- An instruction given up before it was sent: it is dropped, its device is freed, and restoration begins (R91). -/
theorem State.cancelSwitching_of_unsent (hst : i.status = .deferred ∨ i.status = .queued) : ∃ s0 p0 p',
    (s.cancelSwitching p).permit? serial = some p' ∧ Permit.Restoring s0 (s.cancelSwitching p) serial p0 p'
      ∧ Permit.GivenUp s s0 serial p p0 i ∧ p0.cancelWait = p.cancelWait := by
  have hwork : s.cancelSwitching p = (((s.dropInstruction serial).freeDevice i.device).modPermit serial fun p =>
      { p with lastReleased := some i.index }).turnToRestoring serial := by
    rcases hst with hst | hst <;> simp only [State.cancelSwitching, hout, hst, hserial]
  have hdrop := State.frameWatch_of_frame (s.dropInstruction_frame serial)
  obtain ⟨q, hq, hqframe⟩ := State.permit?_of_frameWatch_some hdrop
    (State.permit?_modPermit (f := fun p => { p with outstanding := none }) (fun _ => rfl) hp)
  have hdevice (n : Nat) : (s.dropInstruction serial).device? n = s.device? n := (State.device?_of_frameWatch hdrop n).trans rfl
  have hspared := (s.dropInstruction serial).freeDevice_spared i.device
  obtain ⟨r, hr, hcore⟩ := Option.map_eq_some_iff.1 ((hspared.core serial).trans (congrArg (Option.map Permit.core) hq))
  have hcore' : r.core = p.core := hcore.trans ((Permit.core_of_frame hqframe).trans rfl)
  obtain ⟨p', hp', hrestoring⟩ := State.turnToRestoring_restoring (s := ((s.dropInstruction serial).freeDevice i.device).modPermit serial
    fun p => { p with lastReleased := some i.index }) rfl
    (State.permit?_modPermit (f := fun p => { p with lastReleased := some i.index }) (fun _ => rfl) hr)
  rw [hwork]
  refine ⟨_, _, p', hp', hrestoring, ⟨rfl, rfl, (congrArg Permit.stack hcore' :), fun d hd hno => ?_, fun d hd hwaits => ?_,
    fun n hn d hd => ?_⟩, (congrArg Permit.cancelWait hcore' :)⟩
  · have hframe := hspared.permits serial (by rw [hdevice, hd]; exact hserial ▸ hno)
    rw [hr, hq, Option.map_some, Option.map_some] at hframe
    have hrframe := (Option.some.inj hframe).trans hqframe
    refine ⟨(congrArg Permit.hold hrframe :), (congrArg Permit.steps hrframe :), ?_⟩
    exact Option.map_eq_none_iff.1 (congrArg Permit.outstanding hrframe :)
  · refine Eq.trans ?_ (State.device?_modDevice (f := fun d => { d with pending := none }) (fun _ => rfl) ((hdevice _).trans hd))
    rw [← State.freeDevice_of_no_waits ((hdevice _).trans hd) hwaits]
    rfl
  · exact hspared.devices n d hn ((hdevice n).trans hd)

/-- An instruction given up while its report was waited for: its device is freed, it is dropped, and restoration begins (R92). -/
theorem State.cancelWait_of_outstanding (hst : p.state = .restoring) : ∃ s0 p0 p',
    (s.cancelWait p).permit? serial = some p' ∧ Permit.Restoring s0 (s.cancelWait p) serial p0 p'
      ∧ Permit.GivenUp s s0 serial p p0 i ∧ p0.cancelWait = false := by
  have hrelease : s.releaseUnreported serial = ((s.freeDevice i.device).dropInstruction serial).modPermit serial fun p =>
      { p with lastReleased := some i.index } := by
    simp only [State.releaseUnreported, hp, Option.bind_some, hout]
  have hspared := s.freeDevice_spared i.device
  obtain ⟨r, hr, hcore⟩ := Option.map_eq_some_iff.1 ((hspared.core serial).trans (congrArg (Option.map Permit.core) hp))
  obtain ⟨r', hr', hrestore⟩ := hspared.restore serial p hp hst
  obtain rfl : r' = r := Option.some.inj (hr'.symm.trans hr)
  have hdrop := State.frameWatch_of_frame ((s.freeDevice i.device).dropInstruction_frame serial)
  obtain ⟨q, hq, hqframe⟩ := State.permit?_of_frameWatch_some hdrop
    (State.permit?_modPermit (f := fun p => { p with outstanding := none }) (fun _ => rfl) hr)
  have hdevice (n : Nat) : ((s.freeDevice i.device).dropInstruction serial).device? n = (s.freeDevice i.device).device? n :=
    (State.device?_of_frameWatch hdrop n).trans rfl
  have hq1 := State.permit?_modPermit (f := fun p => { p with lastReleased := some i.index }) (fun _ => rfl) hq
  have hq2 := State.permit?_modPermit (f := fun p => { p with cancelWait := false }) (fun _ => rfl) hq1
  have hqstate : q.state = .restoring := (congrArg Permit.state hqframe :).trans hrestore
  obtain ⟨p', hp', hrestoring⟩ := State.beginRestoration_restoring rfl hq2 hqstate .cancel
  have hcore' : q.core = p.core := ((Permit.core_of_frame hqframe).trans rfl).trans hcore
  have hqout : q.outstanding = none := Option.map_eq_none_iff.1 (congrArg Permit.outstanding hqframe :)
  rw [State.cancelWait, hserial, hrelease]
  refine ⟨_, _, p', hp', hrestoring, ⟨hqstate, rfl, (congrArg Permit.stack hcore' :), fun d hd hno => ?_, fun d hd hwaits => ?_,
    fun n hn d hd => ?_⟩, rfl⟩
  · have hframe := hspared.permits serial (by rw [hd]; exact hserial ▸ hno)
    rw [hr, hp, Option.map_some, Option.map_some] at hframe
    have hrframe := Option.some.inj hframe
    exact ⟨(congrArg Permit.hold hqframe :).trans (congrArg Permit.hold hrframe :),
      (congrArg Permit.steps hqframe :).trans (congrArg Permit.steps hrframe :), hqout⟩
  · refine (hdevice _).trans ?_
    rw [State.freeDevice_of_no_waits hd hwaits]
    exact State.device?_modDevice (f := fun d => { d with pending := none }) (fun _ => rfl) hd
  · obtain ⟨m, hm⟩ := hspared.devices n d hn hd
    exact ⟨m, (hdevice n).trans hm⟩

end

/-- A permit in RESTORING whose wait is given up with no instruction outstanding (R92). -/
theorem State.cancelWait_of_none {s : State} {serial : Nat} {p : Permit} (hp : s.permit? serial = some p) (hserial : p.serial = serial)
    (hst : p.state = .restoring) (hout : p.outstanding = none) : ∃ p', (s.cancelWait p).permit? serial = some p'
      ∧ Permit.Restoring (s.modPermit serial fun p => { p with cancelWait := false }) (s.cancelWait p) serial { p with cancelWait := false } p' := by
  have hrelease : s.releaseUnreported serial = s := by simp only [State.releaseUnreported, hp, Option.bind_some, hout]
  have hp1 := State.permit?_modPermit (f := fun p => { p with cancelWait := false }) (fun _ => rfl) hp
  have hbegun := State.beginRestoration_restoring rfl hp1 hst .cancel
  subst hserial
  rw [State.cancelWait, hrelease]
  exact hbegun

/-- What a given-up instruction's permit and device show once restoration has begun. -/
theorem Permit.Restoring.released {s s0 t : State} {serial : Nat} {p p0 p' : Permit} {i : Outstanding} (h : Permit.Restoring s0 t serial p0 p')
    (hup : Permit.GivenUp s s0 serial p p0 i) (hserial : p.serial = serial) : p'.lastReleased = some i.index
      ∧ ∀ d, s.device? i.device = some d → p.serial ∉ d.waits → (∀ e, p.stack.head? = some e → e.1 ≠ i.device) →
        (p0.cancelWait = false → Restores s t p p') ∧ (d.waits = [] → t.device? i.device = some { d with pending := none }) := by
  obtain ⟨-, -, hlast, -⟩ := h.kept
  refine ⟨hlast.trans hup.released, fun d hd hno htop => ⟨fun hwait => ?_, fun hwaits => ?_⟩⟩
  · obtain ⟨hhold, hsteps, hout⟩ := hup.free d hd hno
    exact h.restores hup.state hserial hhold hup.stack hsteps hwait hout fun e he d' hd' => hup.devices e.1 (htop e he) d' hd'
  · refine h.devices i.device { d with pending := none } (hup.freed d hd hwaits) hwaits fun e he => htop e ?_
    rw [← hup.stack]
    exact he

/-! The telegrams of the permit cancelled. -/

theorem State.setPermitState_of_active {s : State} {serial : Nat} {p : Permit} (hp : s.permit? serial = some p) (hactive : p.state.active = true)
    (new : PermitState) (cause : PermitCause) : s.setPermitState serial new cause =
      (s.modPermit serial fun p => { p with state := new }).post (.permitState serial p.holder p.state new cause) := by
  have hrisk : s.highRisk p.holder = true := by
    rw [State.highRisk, List.any_eq_true]
    exact ⟨p, (tFind_some Permit.serial hp).2, by rw [hactive, beq_self_eq_true]; rfl⟩
  simp only [State.setPermitState, hp, hrisk]
  rfl

/-- A cancellation that waits for the report of an instruction sent changes the permit and nothing else of it (R91). -/
theorem State.cancelSwitching_of_sent {s : State} {serial : Nat} {p : Permit} {i : Outstanding} (hp : s.permit? serial = some p)
    (hserial : p.serial = serial) (hstate : p.state = .switching) (hout : p.outstanding = some i) (hsent : i.status ≠ .deferred ∧ i.status ≠ .queued) :
    (s.cancelSwitching p).signals = s.signals
      ∧ (s.cancelSwitching p).permit? serial = some { p with state := .restoring, cancelWait := true } := by
  have hwork : s.cancelSwitching p = (s.setPermitState serial .restoring .cancel).modPermit serial fun p => { p with cancelWait := true } := by
    simp only [State.cancelSwitching, hout, hserial]
    split
    next h => exact absurd h hsent.1
    next h => exact absurd h hsent.2
    · rfl
  rw [hwork, State.setPermitState_of_active hp (by rw [hstate]; rfl)]
  refine ⟨(State.post_signals _ _).trans rfl, ?_⟩
  refine State.permit?_modPermit (f := fun p => { p with cancelWait := true }) (p := { p with state := .restoring }) (fun _ => rfl) ?_
  exact (congrArg (tFind Permit.serial serial) (State.post_permits _ _)).trans
    (State.permit?_modPermit (f := fun p => { p with state := .restoring }) (fun _ => rfl) hp)

theorem State.noneWaits_takeBack {s : State} {serial : Nat} {p : Permit} {tg : PermitTg} (hp : s.permit? serial = some p)
    (h : p.tg? tg = some .queued ∨ s.noneWaits (.permit tg serial)) : (s.takeBack serial tg).noneWaits (.permit tg serial) := by
  have hstatus : (s.permit? serial).bind (fun p => p.tg? tg) = p.tg? tg := by rw [hp]; rfl
  simp only [State.takeBack, hstatus]
  split
  · intro c e he howner hwait
    by_contra hlinked
    have hflies := (State.mem_withdraw he).2 (by rw [howner, beq_self_eq_true, Bool.true_and]; simpa using hlinked)
    rw [hwait] at hflies
    cases hflies
  next hflying =>
    rcases h with h | h
    · rw [h] at hflying; cases hflying
    · intro c e he howner hwait
      rw [State.unlink, State.modEntries, State.modChans_chan] at he
      obtain ⟨x, hx, rfl⟩ := List.mem_map.1 he
      split at howner
      · rw [if_pos ‹_›]
      next hno =>
        rw [if_neg hno] at hwait ⊢
        exact h c x hx howner hwait
  next hqueued _ => exact h.resolve_left hqueued

/-- An issue on its way that is given up leaves the permit with none (R78, R91). -/
theorem State.dropIssue_untold {s : State} {serial : Nat} {p : Permit} (hp : s.permit? serial = some p) (hnot : p.issue ≠ some .delivered)
    (h : p.issue = some .queued ∨ s.noneWaits (.permit .issue serial)) : (s.dropIssue serial).Untold .issue serial := by
  have hpermits : (s.takeBack serial .issue).permits = s.permits := by
    unfold State.takeBack
    split
    · exact (s.withdraw_onlyChans _).permits
    · rfl
    · rfl
  have hp1 : (s.takeBack serial .issue).permit? serial = some p := (congrArg (tFind Permit.serial serial) hpermits).trans hp
  have hnone : ((s.takeBack serial .issue).modPermit serial fun p =>
      { p with issue := if p.issue = some .delivered then p.issue else none }).Untold .issue serial := by
    refine ⟨fun q hq => ?_, State.noneWaits_takeBack hp h⟩
    rw [State.permit?_modPermit (by intro; rfl) hp1] at hq
    cases hq
    exact if_neg hnot
  exact (untold_spared .issue serial).syncPermitDefer hnone serial

theorem State.Untold.closePermit {s : State} {serial : Nat} {p : Permit} (h : s.Untold .issue serial) (hp : s.permit? serial = some p)
    (cause : PermitCause) : (s.closePermit serial cause).Untold .issue serial := by
  have hP := untold_spared .issue serial
  have hleft : (s.leaveWaits serial).Untold .issue serial := ⟨h.record, h.waits⟩
  have hmod : ((s.leaveWaits serial).modPermit serial fun p =>
      { p with hold := false, waiting := false, surrender := false, stall := none, readback := none }).Untold .issue serial :=
    hleft.modPermit (f := fun p => { p with hold := false, waiting := false, surrender := false, stall := none, readback := none })
      (fun _ => rfl) fun _ _ ht => ht
  have hp1 := State.permit?_modPermit (f := fun p => { p with hold := false, waiting := false, surrender := false, stall := none, readback := none })
    (fun _ => rfl) (show (s.leaveWaits serial).permit? serial = some p from hp)
  have hclosed : (((s.leaveWaits serial).modPermit serial fun p =>
      { p with hold := false, waiting := false, surrender := false, stall := none, readback := none }).setPermitState
        serial .closed cause).Untold .issue serial := by
    rw [State.setPermitState_of_inactive _ hp1 rfl]
    exact hP.post (hmod.modPermit (f := fun p => { p with state := .closed }) (fun _ => rfl) fun _ _ ht => ht) _ rfl
  simp only [State.closePermit, hp]
  split
  · exact hclosed
  · exact hP.offerPermit hclosed nofun

theorem State.Untold.claimNext {s : State} {serial : Nat} (h : s.Untold .issue serial) : (s.claimNext serial).1.Untold .issue serial := by
  have hP := untold_spared .issue serial
  have hwaiting : (s.modPermit serial fun p => { p with waiting := true }).Untold .issue serial :=
    h.modPermit (f := fun p => { p with waiting := true }) (fun _ => rfl) fun _ _ ht => ht
  rcases s.claimNext_cases serial with hnone | ⟨p, device, what, hp, -, -, hwait | ⟨d, -, hclaim⟩⟩
  · rw [hnone]; exact h
  · rw [hwait]; exact hwaiting
  · have hdevice : (s.modDevice device fun d => (d.claim serial what).1).Untold .issue serial := ⟨h.record, h.waits⟩
    have hp1 : (s.modDevice device fun d => (d.claim serial what).1).permit? serial = some p := hp
    rw [hclaim]
    cases (d.claim serial what).2 with
    | granted a =>
      exact hP.offerPermit (hdevice.modPermit (f := fun p => p.answered device what (.granted a)) (fun _ => rfl) fun _ _ ht => ht) nofun
    | wait => exact hdevice.modPermit (f := fun p => { p with waiting := true }) (fun _ => rfl) fun _ _ ht => ht
    | tagLimit =>
      rw [State.actOnClaim, State.stall_of_permit? _ _ hp1]
      have hleft : ((s.modDevice device fun d => (d.claim serial what).1).leaveWaits serial).Untold .issue serial := ⟨h.record, h.waits⟩
      exact hP.post (hleft.modPermit (f := fun p => p.stalledBy .switching .tagLimit) (fun _ => rfl) fun _ _ ht => ht) _ rfl

theorem State.cancelIssuing_untold {s : State} {serial : Nat} {p : Permit} (hp : s.permit? serial = some p) (hserial : p.serial = serial)
    (hstate : p.state = .issuing) (hnot : p.issue ≠ some .delivered) (h : p.issue = some .queued ∨ s.noneWaits (.permit .issue serial)) :
    (s.cancelIssuing p).Untold .issue serial := by
  have hp1 := State.permit?_modPermit (f := fun p => { p with readback := none, issueOwed := false }) (fun _ => rfl) hp
  have hdropped := State.dropIssue_untold hp1 hnot h
  obtain ⟨q, hq, hqframe⟩ := State.permit?_of_frameWatch_some
    (State.frameWatch_of_frame ((s.modPermit serial fun p => { p with readback := none, issueOwed := false }).dropIssue_frame serial)) hp1
  have hqactive : q.state.active = true := by
    rw [show q.state = .issuing from (congrArg Permit.state hqframe :).trans hstate]
    rfl
  subst hserial
  rw [State.cancelIssuing, State.turnToRestoring, State.setPermitState_of_active hq hqactive]
  have hrestoring := hdropped.modPermit (n := p.serial) (f := fun p => { p with state := .restoring }) (fun _ => rfl) fun _ _ ht => ht
  have hturned := (untold_spared .issue p.serial).post hrestoring (.permitState p.serial q.holder q.state .restoring .cancel) rfl
  unfold State.beginRestoration
  split
  · exact hturned
  next r hr =>
    split
    · exact hturned.closePermit hr _
    · exact hturned.claimNext

/-- Settles O37. -/
theorem cancelPermitTurnsBack : Obligations.CancelPermitTurnsBack := by
  intro x h l p s h1 hp refused
  have hp' : (s.atRequest x).permit? (be16 h l) = some p := hp
  have hserial : p.serial = be16 h l := State.serial_of_permit? hp
  have hnot {c c' : PermitState} (hc : p.state = c) (hne : c ≠ c') : p.state ≠ c' := fun h => hne (hc.symm.trans h)
  have hrefuse (hnone : (s.atRequest x).cancelPermit p = none) : Refuses (.cancelPermit x [h, l]) s x .badState :=
    refuses_of_refuse rfl (askCancelPermit_of_refused (s := s.atRequest x) h1 hp hnone)
  have hbegun {s0 t : State} {p0 p1 : Permit} (hres : Permit.Restoring s0 t (be16 h l) p0 p1) (hst : p0.state = .restoring)
      (hstack : p0.stack = p.stack) (hwait : p.cancelWait = false ∨ p.state = .restoring → p0.cancelWait = false) :
      p1.stack = p.stack ∧ p1.state = (if p.stack = [] then .closed else .restoring)
        ∧ (p.cancelWait = false ∨ p.state = .restoring → p1.cancelWait = false) := by
    obtain ⟨hstack1, hwait1, -⟩ := hres.kept
    exact ⟨hstack1.trans hstack, hstack ▸ hres.state hst, fun h => hwait1.trans (hwait h)⟩
  constructor
  · rintro (hst | hst | ⟨hst, hwait⟩ | ⟨hst, c, hstall⟩)
    · exact hrefuse (by simp only [State.cancelPermit, hst])
    · exact hrefuse (by simp only [State.cancelPermit, hst])
    · exact hrefuse (by simp only [State.cancelPermit, hst, hwait]; rfl)
    · exact hrefuse (by simp only [State.cancelPermit, hst, hstall])
  · intro hno
    cases hst : p.state with
    | inForce => exact absurd (.inl hst) hno
    | closed => exact absurd (.inr (.inl hst)) hno
    | draft =>
      have hcancel : (s.atRequest x).cancelPermit p = some ((s.atRequest x).closePermit (be16 h l) .cancel) := by
        simp only [State.cancelPermit, hst, hserial]
      obtain ⟨p1, hp1, hframe1⟩ := State.permit?_of_frameWatch_some (State.closePermit_frameWatch hp' .cancel)
        (State.permit?_modPermit (f := Permit.closedOff) (fun _ => rfl) (show ((s.atRequest x).leaveWaits (be16 h l)).permit? (be16 h l) = some p from hp))
      obtain ⟨p', hp'', hframe, hreplied, halike, -⟩ := cancelPermit_after h1 hp hcancel hp1
      refine ⟨_, rfl, p', hp'', hreplied, halike, (congrArg Permit.stack (hframe.trans hframe1) :), fun _ =>
        (congrArg Permit.state (hframe.trans hframe1) :), nofun, nofun, nofun, nofun, nofun, nofun⟩
    | switching =>
      have hcancel : (s.atRequest x).cancelPermit p = some ((s.atRequest x).cancelSwitching p) := by simp only [State.cancelPermit, hst]
      cases hout : p.outstanding with
      | none =>
        obtain ⟨p1, hp1, hres1⟩ := State.cancelSwitching_of_none hp' hserial hout
        obtain ⟨p', hp'', hframe, hreplied, halike, hdevice⟩ := cancelPermit_after h1 hp hcancel hp1
        have hres := hres1.of_frame hdevice hframe
        obtain ⟨hstack, hbegin⟩ := hbegun hres rfl rfl fun h => h.resolve_right (hnot hst (by decide))
        rw [hst] at hbegin
        refine ⟨_, rfl, p', hp'', hreplied, halike, hstack, nofun, nofun, fun _ _ => ⟨hbegin, fun hfree => ?_⟩, nofun, nofun, nofun, nofun⟩
        refine hres.restores rfl hserial rfl rfl rfl hfree.2 hout fun e _ d hd => ⟨d.waits.erase (be16 h l), ?_⟩
        refine (State.device?_leaveWaits (s.atRequest x) (be16 h l) e.1).trans ?_
        rw [show (s.atRequest x).device? e.1 = some d from hd]
        rfl
      | some i =>
        by_cases hunsent : i.status = .deferred ∨ i.status = .queued
        · obtain ⟨s0, p0, p1, hp1, hres1, hup, hwait⟩ := State.cancelSwitching_of_unsent hp' hserial hout hunsent
          obtain ⟨p', hp'', hframe, hreplied, halike, hdevice⟩ := cancelPermit_after h1 hp hcancel hp1
          have hres := hres1.of_frame hdevice hframe
          obtain ⟨hstack, hbegin⟩ := hbegun hres hup.state hup.stack fun h => hwait.trans (h.resolve_right (hnot hst (by decide)))
          obtain ⟨hlast, hreleased⟩ := hres.released (s := s) ⟨hup.state, hup.released, hup.stack, hup.free, hup.freed, hup.devices⟩ hserial
          rw [hst] at hbegin
          refine ⟨_, rfl, p', hp'', hreplied, halike, hstack, nofun, fun j _ hj hsent => ?_, nofun, fun j _ hj _ => ?_, nofun, nofun, nofun⟩
          · cases hj
            rcases hsent with h | h <;> rcases hunsent with h' | h' <;> exact absurd (h.symm.trans h') nofun
          · cases hj
            refine ⟨hbegin, hlast, fun d hd hno htop => ?_⟩
            obtain ⟨hrestores, hfreed⟩ := hreleased d hd hno htop
            exact ⟨fun h => hrestores (hwait.trans (h.resolve_right nofun)), hfreed⟩
        · simp only [not_or] at hunsent
          obtain ⟨hsignals, hp1⟩ := State.cancelSwitching_of_sent hp' hserial hst hout hunsent
          obtain ⟨p', hp'', hframe, hreplied, halike, -⟩ := cancelPermit_after h1 hp hcancel hp1
          have hwork := askCancelPermit_of (s := s.atRequest x) h1 hp' hcancel
          have hexact : p' = { p with state := .restoring, cancelWait := true } := by
            have hsame : (s.console x (askCancelPermit [h, l])).permit? (be16 h l) = ((s.atRequest x).cancelSwitching p).permit? (be16 h l) := by
              rw [State.console_eq, State.settle_permit?, State.respond_permit?, hwork, State.giveSignals_none hsignals]
            exact Option.some.inj (hp''.symm.trans (hsame.trans hp1))
          subst hexact
          refine ⟨_, rfl, _, hp'', hreplied, halike, rfl, nofun, fun j _ hj _ => ⟨rfl, rfl, hout.trans hj⟩, nofun, fun j _ hj hno => ?_, nofun, nofun, nofun⟩
          cases hj
          exact absurd hno (not_or.2 hunsent)
    | issuing =>
      have hcancel : (s.atRequest x).cancelPermit p = some ((s.atRequest x).cancelIssuing p) := by simp only [State.cancelPermit, hst]
      obtain ⟨p1, hp1, hres1⟩ := State.cancelIssuing_restoring hp' hserial
      obtain ⟨p', hp'', hframe, hreplied, halike, hdevice⟩ := cancelPermit_after h1 hp hcancel hp1
      have hres := hres1.of_frame hdevice hframe
      obtain ⟨hstack, hbegin⟩ := hbegun hres rfl rfl fun h => h.resolve_right (hnot hst (by decide))
      obtain ⟨-, -, -, hreadback, howed⟩ := hres.kept
      rw [hst] at hbegin
      refine ⟨_, rfl, p', hp'', hreplied, halike, hstack, nofun, nofun, nofun, nofun, fun _ => ⟨hbegin, hreadback rfl, howed rfl, fun hfree => ?_,
        fun hgiven => ?_⟩, nofun, nofun⟩
      · exact hres.restores rfl hserial rfl rfl rfl hfree.2 hfree.1 fun e _ d hd => ⟨d.waits, hd⟩
      · have huntold : ((s.atRequest x).cancelIssuing p).Untold .issue (be16 h l) := by
          refine State.cancelIssuing_untold hp' hserial hst (fun hdone => ?_) (hgiven.imp_right fun h => h.2)
          rw [hdone] at hgiven
          rcases hgiven with h | ⟨h | h, -⟩ <;> cases h
        have hwork := askCancelPermit_of (s := s.atRequest x) h1 hp' hcancel
        have hafter : (s.console x (askCancelPermit [h, l])).Untold .issue (be16 h l) :=
          (untold_spared .issue (be16 h l)).console (by rw [hwork]; exact huntold)
        exact hafter.record p' hp''
    | stalled =>
      have hcancel : (s.atRequest x).cancelPermit p
          = some (((s.atRequest x).modPermit (be16 h l) fun p => { p with stall := none }).turnToRestoring (be16 h l)) := by
        simp only [State.cancelPermit, hst, hserial]
        split
        next c hstall => exact absurd (.inr (.inr (.inr ⟨hst, c, hstall⟩))) hno
        · rfl
      obtain ⟨p1, hp1, hres1⟩ := State.cancelStalled_restoring hp'
      obtain ⟨p', hp'', hframe, hreplied, halike, hdevice⟩ := cancelPermit_after h1 hp hcancel hp1
      have hres := hres1.of_frame hdevice hframe
      obtain ⟨hstack, hbegin⟩ := hbegun hres rfl rfl fun h => h.resolve_right (hnot hst (by decide))
      rw [hst] at hbegin
      refine ⟨_, rfl, p', hp'', hreplied, halike, hstack, nofun, nofun, nofun, nofun, nofun, fun _ => ⟨hbegin, hres.stall rfl rfl, fun hfree => ?_⟩, nofun⟩
      exact hres.restores rfl hserial rfl rfl rfl hfree.2 hfree.1 fun e _ d hd => ⟨d.waits, hd⟩
    | restoring =>
      have hwaits : p.cancelWait = true := by
        by_contra hno'
        exact hno (.inr (.inr (.inl ⟨hst, Bool.eq_false_iff.2 hno'⟩)))
      have hcancel : (s.atRequest x).cancelPermit p = some ((s.atRequest x).cancelWait p) := by
        simp only [State.cancelPermit, hst, hwaits, if_true]
      cases hout : p.outstanding with
      | none =>
        obtain ⟨p1, hp1, hres1⟩ := State.cancelWait_of_none hp' hserial hst hout
        obtain ⟨p', hp'', hframe, hreplied, halike, hdevice⟩ := cancelPermit_after h1 hp hcancel hp1
        obtain ⟨hstack, hbegin⟩ := hbegun (hres1.of_frame hdevice hframe) hst rfl fun _ => rfl
        rw [hst] at hbegin
        exact ⟨_, rfl, p', hp'', hreplied, halike, hstack, nofun, nofun, nofun, nofun, nofun, nofun, fun _ => ⟨hbegin, nofun⟩⟩
      | some i =>
        obtain ⟨s0, p0, p1, hp1, hres1, hup, hwait⟩ := State.cancelWait_of_outstanding hp' hserial hout hst
        obtain ⟨p', hp'', hframe, hreplied, halike, hdevice⟩ := cancelPermit_after h1 hp hcancel hp1
        have hres := hres1.of_frame hdevice hframe
        obtain ⟨hstack, hbegin⟩ := hbegun hres hup.state hup.stack fun _ => hwait
        obtain ⟨hlast, hreleased⟩ := hres.released (s := s) ⟨hup.state, hup.released, hup.stack, hup.free, hup.freed, hup.devices⟩ hserial
        rw [hst] at hbegin
        refine ⟨_, rfl, p', hp'', hreplied, halike, hstack, nofun, nofun, nofun, nofun, nofun, nofun, fun _ => ⟨hbegin, fun j hj => ?_⟩⟩
        cases hj
        refine ⟨hlast, fun d hd hno htop => ?_⟩
        obtain ⟨hrestores, hfreed⟩ := hreleased d hd hno htop
        exact ⟨fun _ => hrestores hwait, hfreed⟩

end Sys2Proof.Machine
end

section
/-!
Telegrams that traffic leaves waiting, and the answer to a surrender: O34.
-/

namespace Sys2Proof.Machine
/-! ### A telegram that waits (R162, R166) -/

/-- An entry that no traffic takes from its queue: of a class and kind that no offer of SAFETY, ORDER or TEXT class evicts, and no order's
own telegram. -/
def Entry.Firm (e : Entry) : Prop :=
  e.cls ≠ .text ∧ e.cls ≠ .order ∧ e.kind ≠ .checkPrompt ∧ ∀ n, e.owner ≠ .order n

theorem State.mem_queue_modChan {s : State} {c d : Chan} {f : Channel → Channel} {e : Entry} (h : e ∈ (s.chan d).queue)
    (hf : e ∈ (s.chan c).queue → e ∈ (f (s.chan c)).queue) : e ∈ ((s.modChan c f).chan d).queue := by
  rw [State.modChan_chan]
  split
  next heq => subst heq; exact hf h
  next => exact h

/-- A firm entry that waits stays in its queue, whatever traffic moves. -/
theorem firm_spared (c : Chan) {Q : Entry → Prop} (hQ : ∀ e, Q e → e.Firm) :
    Spares (fun _ => True) fun t => ∃ e ∈ (t.chan c).queue, Q e where
  posted := posted_of_notices fun _ _ _ h => h
  quiet := fun _ _ _ _ h => h
  marks := fun s d f hf h => by
    obtain ⟨e, he, hq⟩ := h
    exact ⟨e, State.mem_queue_modChan he fun he => by rw [hf]; exact he, hq⟩
  crew := fun _ _ _ _ h => h
  enter := fun s d x _ h => by
    obtain ⟨e, he, hq⟩ := h
    exact ⟨e, State.mem_queue_modChan he fun he => mem_insertEntry.2 (.inr he), hq⟩
  leave := fun s d x _ _ hweak _ h => by
    obtain ⟨e, he, hq⟩ := h
    obtain ⟨htext, horder, hprompt, -⟩ := hQ e hq
    refine ⟨e, State.mem_queue_modChan he fun he => (List.mem_erase_of_ne ?_).2 he, hq⟩
    rintro rfl
    rcases hweak with hw | hw | hw
    · exact htext hw
    · exact horder hw
    · exact hprompt hw
  drop := fun s d n _ h => by
    obtain ⟨e, he, hq⟩ := h
    refine ⟨e, State.mem_queue_modChan he fun he => List.mem_filter.2 ⟨he, ?_⟩, hq⟩
    rw [beq_eq_false_iff_ne.2 ((hQ e hq).2.2.2 n), Bool.and_false]
    rfl
  order := fun _ _ _ _ _ _ _ h => h
  followUp := fun _ _ _ _ h => h
  permit := fun _ _ _ _ _ h => h
  mark := fun _ _ _ h => h
  prompt := fun s slot body st _ h => by
    unfold State.setPrompts
    split <;> exact h
  reorder := fun _ _ _ _ _ _ _ _ _ _ h => h
  respond := fun _ _ _ _ h => h
  settle := fun s h => by
    obtain ⟨e, he, hq⟩ := h
    exact ⟨e, by rwa [State.settle_queue], hq⟩
  headDue := fun _ _ _ _ _ _ _ _ _ _ => trivial
  followUpDue := fun _ _ _ _ _ _ _ => trivial
  permitDue := fun _ _ _ _ _ _ _ => trivial
  displaced := fun _ _ _ _ _ _ _ _ _ => trivial
  evicted := fun _ _ _ _ _ _ _ => ⟨fun _ _ => .inl trivial, fun _ _ => trivial, fun _ _ => trivial⟩

/-- What an offered telegram of a permit is. -/
def Entry.OfPermit (k : Crew) (tg : PermitTg) (serial : Nat) (kind : TgKind) (body : List Byte) (e : Entry) : Prop :=
  e.owner = .permit tg serial ∧ e.kind = kind ∧ e.cls = .safety ∧ e.addr = .crew k.slot k.unit ∧ e.seq = some k.outSeq
    ∧ e.body = .bytes body ∧ e.inFlight = false ∧ e.linked = true

theorem Entry.OfPermit.firm {k : Crew} {tg : PermitTg} {serial : Nat} {kind : TgKind} {body : List Byte} {e : Entry}
    (hkind : kind ≠ .checkPrompt) (h : e.OfPermit k tg serial kind body) : e.Firm := by
  obtain ⟨howner, hk, hcls, -⟩ := h
  exact ⟨by rw [hcls]; nofun, by rw [hcls]; nofun, by rw [hk]; exact hkind, fun n => by rw [howner]; nofun⟩

/-- A SAFETY offer to a crew of the roster that a queue with room takes in (R17, R165). -/
theorem State.offerWith_safety {s : State} {c : Chan} {slot unit : Nat} {k : Crew} {e : Entry} (check : State → Nat → State)
    (yes : State → State) (no : State → Deferral → State) (haddr : e.addr = .crew slot unit) (hk : s.crew? slot = some k)
    (hcls : e.cls = .safety) (hroom : (s.chan c).queue.length < 24) : s.offerWith check c e true yes no =
      yes ((s.modCrew slot fun k => { k with outSeq := k.outSeq + 1 }).enqueue c { e with seq := some k.outSeq }) := by
  have hverdict : verdict (s.chan c) e.cls e.kind = .ok none := by
    rw [hcls, verdict, if_pos hroom]
  simp only [State.offerWith, State.tryAdmit, hverdict, if_true]
  rw [State.takeSeq_crew s haddr hk]

theorem State.mem_enqueue {s : State} {c : Chan} {e : Entry} : { e with admission := (s.chan c).admissions } ∈ ((s.enqueue c e).chan c).queue := by
  rw [State.enqueue, State.flowEval_queue, State.modChan_chan_same]
  exact mem_insertEntry.2 (.inl rfl)

/-- An entry of a queue after another has entered it. -/
theorem State.mem_enqueue_iff {s : State} {c d : Chan} {e x : Entry} : x ∈ ((s.enqueue c e).chan d).queue →
    x = { e with admission := (s.chan c).admissions } ∨ x ∈ (s.chan d).queue := by
  rw [State.enqueue, State.flowEval_queue, State.modChan_chan]
  split
  next heq => subst heq; exact mem_insertEntry.1
  next => exact .inr

section
variable {s : State} {serial : Nat} {tg : PermitTg} {p : Permit} {k : Crew} {kind : TgKind} {body : List Byte}
  (hp : s.permit? serial = some p) (hk : s.crew? p.holder = some k) (htg : p.telegram tg = some (kind, body))
  (hroom : (s.chan k.current).queue.length < 24)
include hp hk htg hroom

/-- A permit's telegram offered to a queue with room (R67). -/
theorem State.offerPermit_of_room : s.offerPermit serial tg =
    ((s.modCrew k.slot fun k => { k with outSeq := k.outSeq + 1 }).enqueue k.current
      { newEntry (.permit tg serial) kind .safety k.addr (.bytes body) none with seq := some k.outSeq }).setTg serial tg .queued := by
  have hslot : s.crew? k.slot = some k := by rw [State.slot_of_crew? hk]; exact hk
  simp only [State.offerPermit, hp, hk, htg]
  exact State.offerWith_safety _ _ _ rfl hslot rfl hroom

theorem State.offerPermit_offered : Offered (s.offerPermit serial tg) k tg serial kind body := by
  rw [State.offerPermit_of_room hp hk htg hroom]
  refine ⟨{ newEntry (.permit tg serial) kind .safety k.addr (.bytes body) none with
    seq := some k.outSeq, admission := (s.chan k.current).admissions }, ?_, rfl, rfl, rfl, rfl, rfl, rfl, rfl, rfl⟩
  rw [State.setTg, (State.sameQueues_syncPermitDefer serial).2]
  exact State.mem_enqueue

end
/-! ### A surrender answered (R83, R84, R85) -/

theorem State.takeBack_kept (s : State) (serial : Nat) (tg : PermitTg) : (s.takeBack serial tg).permits = s.permits
    ∧ (s.takeBack serial tg).crews = s.crews ∧ ∀ c, ((s.takeBack serial tg).chan c).queue.length ≤ (s.chan c).queue.length := by
  have hwithdrawn (p : Entry → Bool) (c : Chan) : ((s.withdraw p).chan c).queue.length ≤ (s.chan c).queue.length := by
    have hfold : ∀ (l : List Chan) (t : State), ((l.foldl (fun t c => t.withdrawOn c p) t).chan c).queue.length ≤ (t.chan c).queue.length := by
      intro l
      induction l with
      | nil => exact fun t => le_rfl
      | cons d l ih =>
        refine fun t => (ih _).trans ?_
        rw [State.withdrawOn_queue]
        split
        · exact List.length_filter_le _ _
        · exact le_rfl
    exact hfold allChans s
  rw [State.takeBack]
  split
  · exact ⟨(s.withdraw_onlyChans _).permits, (s.withdraw_onlyChans _).crews, hwithdrawn _⟩
  · refine ⟨rfl, rfl, fun c => ?_⟩
    rw [State.unlink, State.modEntries, State.modChans_chan]
    exact (List.length_map _).le
  · exact ⟨rfl, rfl, fun _ => le_rfl⟩

/-- An answer kept and its place cleared, before it is offered (R83). -/
def State.answerKept (s : State) (serial : Nat) (a : SurrenderAnswer) (r : Option SurrenderReason) : State :=
  (match (s.permit? serial).bind fun p => p.tg? .answer with
    | some .inFlight => s.takeBack serial .answer
    | _ => s.dropAnswer serial).modPermit serial fun p => { p with answer := some ⟨a, r, .queued⟩ }

theorem State.answerSurrender_eq (s : State) (serial : Nat) (a : SurrenderAnswer) (r : Option SurrenderReason) :
    s.answerSurrender serial a r = (s.answerKept serial a r).offerPermit serial .answer := rfl

theorem State.syncPermitDefer_crews (s : State) (serial : Nat) : (s.syncPermitDefer serial).crews = s.crews := by
  rw [State.syncPermitDefer]
  split
  · rfl
  · split
    · rfl
    · split
      · split <;> rfl
      · rfl

theorem State.dropAnswer_kept (s : State) (serial : Nat) : (s.dropAnswer serial).crews = s.crews
    ∧ ∀ c, ((s.dropAnswer serial).chan c).queue.length ≤ (s.chan c).queue.length := by
  have hdropped : (((s.takeBack serial .answer).modPermit serial fun p => { p with answer := none }).syncPermitDefer serial).crews = s.crews
      ∧ ∀ c, ((((s.takeBack serial .answer).modPermit serial fun p => { p with answer := none }).syncPermitDefer serial).chan c).queue.length
        ≤ (s.chan c).queue.length := by
    obtain ⟨-, hcrews, hqueues⟩ := s.takeBack_kept serial .answer
    refine ⟨(State.syncPermitDefer_crews _ _).trans hcrews, fun c => ?_⟩
    rw [(State.sameQueues_syncPermitDefer serial).2]
    exact hqueues c
  rw [State.dropAnswer]
  split
  · exact hdropped
  · exact hdropped
  · exact ⟨rfl, fun _ => le_rfl⟩

theorem State.answerKept_kept (s : State) (serial : Nat) (a : SurrenderAnswer) (r : Option SurrenderReason) :
    (s.answerKept serial a r).crews = s.crews ∧ ∀ c, ((s.answerKept serial a r).chan c).queue.length ≤ (s.chan c).queue.length := by
  rw [State.answerKept]
  split
  · obtain ⟨-, hcrews, hqueues⟩ := s.takeBack_kept serial .answer
    exact ⟨hcrews, hqueues⟩
  · exact s.dropAnswer_kept serial

theorem State.answerKept_frame (s : State) (serial : Nat) (a : SurrenderAnswer) (r : Option SurrenderReason) :
    (s.answerKept serial a r).frame = (s.modPermit serial fun p => { p with answer := some ⟨a, r, .queued⟩ }).frame := by
  have hkept {t : State} (h : t.frame = s.frame) : (t.modPermit serial fun p => { p with answer := some ⟨a, r, .queued⟩ }).frame
      = (s.modPermit serial fun p => { p with answer := some ⟨a, r, .queued⟩ }).frame :=
    State.modPermit_frame_congr h serial fun _ => by simp [Permit.frame, Function.comp_def]
  have hdropped : ((((s.takeBack serial .answer).modPermit serial fun p => { p with answer := none }).syncPermitDefer serial).modPermit serial
      fun p => { p with answer := some ⟨a, r, .queued⟩ }).frame = (s.modPermit serial fun p => { p with answer := some ⟨a, r, .queued⟩ }).frame := by
    refine (State.modPermit_frame_congr ((State.syncPermitDefer_frame _ _).trans (State.modPermit_frame_congr (State.takeBack_frame _ _ _) serial
      fun _ => by simp [Permit.frame, Function.comp_def])) serial fun _ => by simp [Permit.frame, Function.comp_def]).trans ?_
    exact congrArg State.frame (State.modPermit_modPermit _ _ _ (by intro; rfl))
  rw [State.answerKept]
  split
  · exact hkept (State.takeBack_frame _ _ _)
  · rw [State.dropAnswer]
    split
    · exact hdropped
    · exact hdropped
    · rfl

theorem State.answerSurrender_frame (s : State) (serial : Nat) (a : SurrenderAnswer) (r : Option SurrenderReason) :
    (s.answerSurrender serial a r).frame = (s.modPermit serial fun p => { p with answer := some ⟨a, r, .queued⟩ }).frame := by
  rw [State.answerSurrender_eq, State.offerPermit_frame, State.answerKept_frame]

/-- An answer offered to a queue with room waits in it (R83). -/
theorem State.answerSurrender_offered {s : State} {serial : Nat} {p : Permit} {k : Crew} (hp : s.permit? serial = some p)
    (hk : s.crew? p.holder = some k) (hroom : (s.chan k.current).queue.length < 24) (a : SurrenderAnswer) (r : Option SurrenderReason) :
    Offered (s.answerSurrender serial a r) k .answer serial .surrenderAnswer (surrenderBody serial a r) := by
  obtain ⟨hcrews, hqueues⟩ := s.answerKept_kept serial a r
  obtain ⟨q, hq, hframe⟩ := State.permit?_of_frameWatch_some (State.frameWatch_of_frame (s.answerKept_frame serial a r))
    (State.permit?_modPermit (f := fun p => { p with answer := some ⟨a, r, .queued⟩ }) (fun _ => rfl) hp)
  have hholder : q.holder = p.holder := (congrArg Permit.holder hframe :)
  have htelegram : q.telegram .answer = some (.surrenderAnswer, surrenderBody serial a r) := by
    have hsame : q.frame.telegram .answer = q.telegram .answer := by simp [Permit.telegram, Permit.frame, Function.comp_def]
    rw [← hsame, hframe, ← State.serial_of_permit? hp]
    rfl
  rw [State.answerSurrender_eq]
  refine State.offerPermit_offered hq ?_ htelegram ((hqueues _).trans_lt hroom)
  rw [hholder]
  exact (congrArg (tFind Crew.slot p.holder) hcrews).trans hk

theorem Permit.Claims.core {s0 t : State} {serial : Nat} {p0 p' : Permit} (h : Permit.Claims s0 t serial p0 p') : p'.core = p0.core := by
  rcases h.record with ⟨-, hframe⟩ | ⟨-, hframe | ⟨n, what, hframe | ⟨a, hframe⟩⟩⟩
  all_goals exact (Permit.core_of_frame hframe).trans rfl

/-- A claim spares what traffic and changes of permits and devices spare. -/
theorem Spares.claimNext {may : Owner → Prop} {P : State → Prop} (hP : Spares may P)
    (hrecords : ∀ t permits devices, P t → P { t with permits := permits, devices := devices }) {s : State} (hs : P s) {serial : Nat}
    (hmay : may (.permit .instruct serial)) : P (s.claimNext serial).1 := by
  have hmod (t : State) (f : Permit → Permit) (ht : P t) : P (t.modPermit serial f) := hrecords t _ t.devices ht
  have hdevices (t : State) (l : List Device) (ht : P t) : P { t with devices := l } := hrecords t t.permits l ht
  rcases s.claimNext_cases serial with hnone | ⟨p, device, what, hp, -, -, hwait | ⟨d, -, hclaim⟩⟩
  · rw [hnone]; exact hs
  · rw [hwait]; exact hmod _ _ hs
  · have hdevice : P (s.modDevice device fun d => (d.claim serial what).1) := hdevices s _ hs
    have hp1 : (s.modDevice device fun d => (d.claim serial what).1).permit? serial = some p := hp
    rw [hclaim]
    cases (d.claim serial what).2 with
    | granted a => exact hP.offerPermit (hmod _ _ hdevice) hmay
    | wait => exact hmod _ _ hdevice
    | tagLimit =>
      rw [State.actOnClaim, State.stall_of_permit? _ _ hp1]
      exact hP.post (hmod _ _ (hdevices _ _ hdevice)) _ rfl

/-- A permit whose surrender has been granted, before it claims. -/
def Permit.surrendered (p : Permit) : Permit :=
  { p with surrender := false, answer := some ⟨.granted, none, .queued⟩, state := .restoring }

section
variable {s : State} {serial : Nat} {p : Permit} (hp : s.permit? serial = some p)
include hp

/-- A surrender granted, before the permit claims (R84). -/
theorem State.granted_frame (hst : p.state = .inForce) :
    let granted := (s.modPermit serial fun p => { p with surrender := false }).answerSurrender serial .granted none
    (granted.setPermitState serial .restoring .granted).frame = (s.modPermit serial Permit.surrendered).frame
      ∧ ∃ n, granted.setPermitState serial .restoring .granted = (granted.modPermit serial fun p => { p with state := .restoring }).post n := by
  intro granted
  have hframe : granted.frame = (s.modPermit serial fun p => { p with surrender := false, answer := some ⟨.granted, none, .queued⟩ }).frame :=
    (State.answerSurrender_frame _ _ _ _).trans (congrArg State.frame (State.modPermit_modPermit _ _ _ (by intro; rfl)))
  obtain ⟨q, hq, hqframe⟩ := State.permit?_of_frameWatch_some (State.frameWatch_of_frame hframe) (State.permit?_modPermit (by intro; rfl) hp)
  have hactive : q.state.active = true := by
    rw [show q.state = .inForce from (congrArg Permit.state hqframe :).trans hst]
    rfl
  have hset := State.setPermitState_of_active hq hactive .restoring .granted
  refine ⟨?_, _, hset⟩
  rw [hset, State.post_frame]
  refine (State.modPermit_frame_congr hframe serial fun _ => by simp [Permit.frame, Function.comp_def]).trans ?_
  exact congrArg State.frame (State.modPermit_modPermit _ _ _ (by intro; rfl))

omit hp in
theorem State.grantSurrender_framePermits : (s.grantSurrender serial).framePermits = s.framePermits :=
  (State.claimNext_framePermits _ _).trans ((State.setPermitState_framePermits _ _ _ _).trans
    ((State.answerSurrender_framePermits _ _ _ _).trans rfl))

theorem State.grantSurrender_claims (hst : p.state = .inForce) : ∃ p', (s.grantSurrender serial).permit? serial = some p'
    ∧ Permit.Claims (s.modPermit serial Permit.surrendered) (s.grantSurrender serial) serial p.surrendered p' :=
  State.claimNext_claims (State.frameWatch_of_frame (State.granted_frame hp hst).1)
    (State.permit?_modPermit (f := Permit.surrendered) (fun _ => rfl) hp)

theorem State.grantSurrender_offered (hst : p.state = .inForce) {k : Crew} (hk : s.crew? p.holder = some k)
    (hroom : (s.chan k.current).queue.length < 24) :
    Offered (s.grantSurrender serial) k .answer serial .surrenderAnswer (surrenderBody serial .granted none) := by
  have hP := firm_spared k.current (Q := Entry.OfPermit k .answer serial .surrenderAnswer (surrenderBody serial .granted none))
    fun e he => he.firm (kind := .surrenderAnswer) nofun
  have hanswered := State.answerSurrender_offered (s := s.modPermit serial fun p => { p with surrender := false })
    (State.permit?_modPermit (f := fun p => { p with surrender := false }) (fun _ => rfl) hp) hk hroom .granted none
  obtain ⟨-, n, hset⟩ := State.granted_frame hp hst
  refine hP.claimNext (fun _ _ _ h => h) ?_ trivial
  rw [hset]
  obtain ⟨e, he, hoffered⟩ := hanswered
  exact ⟨e, by rwa [State.post_chan], hoffered⟩

end

theorem State.workingBound_pos {s : State} {serial holder : Nat} : 0 < s.workingBound serial holder ↔
    ∃ o ∈ s.orders, o.state = .working ∧ o.bound = some serial ∧ o.crew = some holder := by
  rw [State.workingBound, List.length_pos_iff_exists_mem]
  simp [and_assoc]

/-- Settles O34. -/
theorem surrenderIsAnswered : Obligations.SurrenderIsAnswered := by
  intro x h l p s h1 hp working
  have hp' : (s.atRequest x).permit? (be16 h l) = some p := hp
  have hserial : p.serial = be16 h l := State.serial_of_permit? hp
  have hgrant : askGrantSurrender [h, l] (s.atRequest x) = _ := State.onPermit_of_permit? _ h1 hp'
  have hdeny : askDenySurrender [h, l] (s.atRequest x) = _ := State.onPermit_of_permit? _ h1 hp'
  have hworking : 0 < (s.atRequest x).workingBound p.serial p.holder ↔ working := by
    rw [State.workingBound_pos, hserial]
    rfl
  refine ⟨fun hno => ?_, fun hst hasked hheld => ?_, fun hst hasked hfree hidle => ?_, fun hst hasked => ?_⟩
  · have hrefused : p.state ≠ .inForce ∨ (!p.surrender) = true := hno.imp_right fun h => by rw [h]; rfl
    exact ⟨refuses_of_refuse rfl (hgrant.trans (if_pos hrefused)), refuses_of_refuse rfl (hdeny.trans (if_pos hrefused))⟩
  · refine refuses_of_refuse rfl (hgrant.trans ((if_neg ?_).trans (if_pos (hheld.imp_right hworking.2))))
    simp [hst, hasked]
  · have hwork := hgrant.trans ((if_neg (by simp [hst, hasked])).trans (if_neg (not_or.2 ⟨by simp [hfree], fun h => hidle (hworking.1 h)⟩)))
    rw [hserial] at hwork
    obtain ⟨p1, hp1, hclaims1⟩ := State.grantSurrender_claims hp' hst
    obtain ⟨p', hp'', hframe⟩ := State.console_permit_some hwork hp1
    have hclaims := hclaims1.of_frame (State.console_device? hwork) hframe
    have hlimit : ¬ ((s.atRequest x).modPermit (be16 h l) Permit.surrendered).atLimit p.surrendered := by
      rintro ⟨-, -, -, n, a, d, hwants, -⟩
      obtain ⟨e, -, he⟩ := Option.map_eq_some_iff.1 hwants
      cases he
    obtain ⟨hstate, -⟩ := hclaims.of_not_limit hlimit
    have hcore := hclaims.core
    have hreplied := State.console_replied_of_frame (s := s) (effect := s) hwork (State.grantSurrender_keeps _ _).shape (.inl rfl) rfl rfl rfl
    rw [State.permitStateField_of_permit? hp1, (hclaims1.of_not_limit hlimit).1] at hreplied
    refine ⟨_, rfl, hreplied, ?_, State.console_alikeButPermits hwork State.grantSurrender_framePermits, fun hout hwait => ?_,
      fun k hk hroom => ?_⟩
    · have hsurrender : p'.surrender = false := (congrArg Permit.surrender hcore :)
      have hanswer := congrArg (Option.map fun a : AnswerTg => (a.answer, a.reason)) (congrArg Permit.answer hcore)
      rw [hp'', Option.map_some, hstate, hsurrender]
      simp only [Permit.core, Permit.frame, Option.map_map, Function.comp_def] at hanswer
      exact congrArg (fun a => some (PermitState.restoring, false, a)) hanswer
    · refine ⟨p', hp'', (congrArg Permit.stack hcore :), fun hhold n a rest hstack => ?_⟩
      have hwants : p.surrendered.wants = some (n, .restoration) := by
        simp [Permit.wants, Permit.surrendered, hstack]
      have hclaim := hclaims.claiming n .restoration hhold hwait hout hwants
      rw [← hserial] at hclaim
      exact hclaim.claimed (fun d hd => ⟨d.waits, hd⟩) hout rfl
    · refine (firm_spared k.current fun e he => Entry.OfPermit.firm (kind := .surrenderAnswer) nofun he).console ?_
      rw [hwork]
      exact State.grantSurrender_offered hp' hst hk hroom
  · have hwork := hdeny.trans (if_neg (by simp [hst, hasked]))
    rw [hserial] at hwork
    have hanswered := State.answerSurrender_frame ((s.atRequest x).modPermit (be16 h l) fun p => { p with surrender := false }) (be16 h l) .denied none
    rw [State.modPermit_modPermit _ _ _ (by intro; rfl)] at hanswered
    have hshape := (State.shape_of_frame hanswered).trans (State.modPermit_shape_of _ _ _ fun _ => rfl)
    refine ⟨_, rfl, State.console_replied_of_frame (effect := s) hwork hshape (.inl rfl) rfl rfl rfl, State.console_alike hwork hanswered,
      fun k hk hroom => ?_⟩
    refine (firm_spared k.current fun e he => Entry.OfPermit.firm (kind := .surrenderAnswer) nofun he).console ?_
    rw [hwork]
    exact State.answerSurrender_offered (State.permit?_modPermit (f := fun p => { p with surrender := false }) (fun _ => rfl) hp') hk hroom
      .denied none

end Sys2Proof.Machine
end

section
/-!
START_SWITCHING and the claim of the first step: O33.
-/

namespace Sys2Proof.Machine
/-! ### START_SWITCHING (R70, R71) -/

/-- A claim free to be made, up to traffic. -/
theorem State.claimNext_frameWatch {s s0 : State} {serial n : Nat} {p0 : Permit} {what : ClaimFor} {d : Device}
    (h : s.frameWatch = s0.frameWatch) (hp0 : s0.permit? serial = some p0) (hhold : p0.hold = false) (hwait : p0.cancelWait = false)
    (hout : p0.outstanding = none) (hwants : p0.wants = some (n, what)) (hd : s0.device? n = some d) :
    (s.claimNext serial).2 = some (d.claim serial what).2
      ∧ (s.claimNext serial).1.frameWatch
        = ((s0.modDevice n fun d => (d.claim serial what).1).answeredClaim serial n what (d.claim serial what).2).frameWatch := by
  obtain ⟨p, hp, hframe⟩ := State.permit?_of_frameWatch_some h hp0
  have hhold' : p.hold = false := (congrArg Permit.hold hframe :).trans hhold
  have hwait' : p.cancelWait = false := (congrArg Permit.cancelWait hframe :).trans hwait
  have hout' : p.outstanding = none := by
    have hmap := congrArg Permit.outstanding hframe
    simpa [Permit.frame, hout] using hmap
  have hwants' : p.wants = some (n, what) := (congrArg Permit.wants hframe :).trans hwants
  have hd' : s.device? n = some d := (State.device?_of_frameWatch h n).trans hd
  have hp1 : (s.modDevice n fun d => (d.claim serial what).1).permit? serial = some p := hp
  rw [State.claimNext_of_free hp hhold' hwait' hout' hwants' hd']
  refine ⟨rfl, (State.frameWatch_of_frame (State.actOnClaim_frame hp1 n what _)).trans ?_⟩
  have hdevice := State.modDevice_frameWatch_congr h n fun d => (d.claim serial what).1
  unfold State.answeredClaim
  split
  · exact State.modPermit_frameWatch_congr (State.leaveWaits_frameWatch_congr hdevice serial) serial fun p => p.answered_frame _ _ _
  · exact State.modPermit_frameWatch_congr hdevice serial fun p => p.answered_frame _ _ _

/-- A permit that has started switching (R70). -/
def Permit.started (p : Permit) : Permit := { p with k := 0, state := .switching }

/-- A permit starts switching, before it claims. -/
def State.started (s : State) (serial : Nat) : State :=
  (s.modPermit serial fun p => { p with k := 0 }).setPermitState serial .switching .start

theorem State.started_frameWatch {s : State} {serial : Nat} {p : Permit} (hp : s.permit? serial = some p) :
    (s.started serial).frameWatch = (s.modPermit serial Permit.started).frameWatch := by
  have hp1 := State.permit?_modPermit (f := fun p => { p with k := 0 }) (fun _ => rfl) hp
  exact (State.setPermitState_frameWatch hp1 .switching .start).trans
    (congrArg State.frameWatch (State.modPermit_modPermit _ _ _ (by intro; rfl)))

theorem askStartSwitching_of_draft {s : State} {h l : Byte} {p : Permit} (h1 : 1 ≤ be16 h l) (hp : s.permit? (be16 h l) = some p)
    (hst : p.state = .draft) : askStartSwitching [h, l] s = (((s.started (be16 h l)).claimNext (be16 h l)).1, .ok,
      ((s.started (be16 h l)).claimNext (be16 h l)).1.permitStateField (be16 h l)
        ++ optional 1 (((s.started (be16 h l)).claimNext (be16 h l)).2.map fun a => u8 a.code)) := by
  refine (State.onPermit_of_permit? _ h1 hp).trans ((if_neg (not_not.2 hst)).trans ?_)
  rw [State.serial_of_permit? hp]
  rfl

/-- Two states that differ only in their workers and in the number of choices made. -/
def State.SameButWorkers (s t : State) : Prop := ∃ workers n, t = { s with workers := workers, choices := n }

/-- No lead prompt is owed to a worker that is WATCHING. -/
def State.noLeadOwed (s : State) : Prop := ∀ w ∈ s.workers, w.watch = .watching → w.leadOwed = false

theorem Worker.cut_watch (w : Worker) (cap lead : Nat) : (w.cut cap lead).watch = w.watch := by
  unfold Worker.cut
  split <;> rfl

/-- The cut of a member to whom no lead prompt is owed offers none (R104). -/
theorem State.cutMember_of_not_owed {s : State} (h : s.noLeadOwed) (badge : Nat) :
    s.SameButWorkers (s.cutMember badge) ∧ (s.cutMember badge).noLeadOwed := by
  have hcut : (s.modWorker badge fun w => w.cut s.params.highRiskCap s.params.promptLead).noLeadOwed := by
    intro w hw hwatch
    obtain ⟨v, hv, rfl⟩ := List.mem_map.1 hw
    split at hwatch
    next heq =>
      rw [if_pos heq]
      exact ((v.cut_kept s.params.highRiskCap s.params.promptLead).2.1).trans (h v hv ((v.cut_watch _ _).symm.trans hwatch))
    next hne =>
      rw [if_neg hne]
      exact h v hv hwatch
  have hsame : s.cutMember badge = s.modWorker badge fun w => w.cut s.params.highRiskCap s.params.promptLead := by
    rw [State.cutMember]
    cases hw : (s.modWorker badge fun w => w.cut s.params.highRiskCap s.params.promptLead).worker? badge with
    | none => simp only [State.leadPrompt, hw]
    | some w =>
      refine State.leadPrompt_of_not_due hw fun hdue => ?_
      obtain ⟨hwatch, howed, -⟩ := (Worker.leadDue_iff w).1 hdue
      rw [hcut w (tFind_some Worker.badge hw).2 hwatch] at howed
      cases howed
  rw [hsame]
  exact ⟨⟨_, _, rfl⟩, hcut⟩

theorem State.SameButWorkers.trans {s t u : State} (h : s.SameButWorkers t) (h' : t.SameButWorkers u) : s.SameButWorkers u := by
  obtain ⟨ws, n, rfl⟩ := h
  obtain ⟨ws', n', rfl⟩ := h'
  exact ⟨ws', n', rfl⟩

theorem State.cutCrew_of_not_owed {s : State} (h : s.noLeadOwed) (slot : Nat) : s.SameButWorkers (s.cutCrew slot) := by
  rw [State.cutCrew]
  split
  · exact ⟨s.workers, s.choices, rfl⟩
  · refine (State.inOpenOrder_of (P := fun t => s.SameButWorkers t ∧ t.noLeadOwed) ⟨⟨s.workers, _, rfl⟩, h⟩ ?_).1
    rintro t badge - ⟨hsame, howed⟩
    obtain ⟨hcut, howed'⟩ := State.cutMember_of_not_owed howed badge
    exact ⟨hsame.trans hcut, howed'⟩

/-- A permit that starts switching where no lead prompt is owed: it offers nothing (R66, R104). -/
theorem State.started_of_not_owed {s : State} {serial : Nat} {p : Permit} (h : s.noLeadOwed) (hp : s.permit? serial = some p) :
    (s.started serial).chans = s.chans ∧ (s.started serial).crews = s.crews ∧ (s.started serial).devices = s.devices
      ∧ (s.started serial).permit? serial = some p.started := by
  have hp1 := State.permit?_modPermit (f := fun p => { p with k := 0 }) (fun _ => rfl) hp
  have hp2 := State.permit?_modPermit (f := fun p => { p with state := .switching }) (fun _ => rfl) hp1
  have hposted : (((s.modPermit serial fun p => { p with k := 0 }).modPermit serial fun p => { p with state := .switching }).post
      (.permitState serial p.holder p.state .switching .start)).noLeadOwed := by
    intro w hw
    rw [State.post_workers] at hw
    exact h w hw
  have hkept (m : Subject) : (((s.modPermit serial fun p => { p with k := 0 }).modPermit serial fun p => { p with state := .switching }).post m).chans = s.chans
      ∧ (((s.modPermit serial fun p => { p with k := 0 }).modPermit serial fun p => { p with state := .switching }).post m).crews = s.crews
      ∧ (((s.modPermit serial fun p => { p with k := 0 }).modPermit serial fun p => { p with state := .switching }).post m).devices = s.devices
      ∧ (((s.modPermit serial fun p => { p with k := 0 }).modPermit serial fun p => { p with state := .switching }).post m).permit? serial = some p.started :=
    ⟨State.post_chans _ _, State.post_crews _ _, State.post_devices _ _, (congrArg (tFind Permit.serial serial) (State.post_permits _ _)).trans hp2⟩
  simp only [State.started, State.setPermitState, hp1]
  split
  · obtain ⟨ws, n, hsame⟩ := State.cutCrew_of_not_owed hposted p.holder
    rw [hsame]
    exact hkept _
  · exact hkept _

/-! ### A telegram whose place no traffic changes (R67, R166) -/

/-- One of a permit's telegrams stands as a condition has it, and none that waits under the record's link can be evicted. -/
structure State.TgFixed (t : State) (tg : PermitTg) (serial : Nat) (R : Permit → Prop) : Prop where
  record : ∀ p, t.permit? serial = some p → R p
  firm   : ∀ c, ∀ e ∈ (t.chan c).queue, e.owner = .permit tg serial → e.inFlight = false → e.linked = true → e.Firm

/-- A condition on a permit that only the telegram of one kind can change, and that it does not await its offer. -/
structure Permit.OfTg (tg : PermitTg) (R : Permit → Prop) : Prop where
  due   : ∀ p, R p → p.tg? tg ≠ some .deferred
  other : ∀ p tg' st, tg' ≠ tg → R p → R (p.setTg tg' st)
  mark  : ∀ p d, R p → R { p with deferred := d }

theorem State.TgFixed.of_queues {s t : State} {tg : PermitTg} {serial : Nat} {R : Permit → Prop} (h : s.TgFixed tg serial R)
    (hpermits : t.permits = s.permits)
    (hq : ∀ c, ∀ e ∈ (t.chan c).queue, e.owner = .permit tg serial → e.inFlight = false → e.linked = true → e.Firm ∨ e ∈ (s.chan c).queue) :
    t.TgFixed tg serial R :=
  ⟨fun p hp => h.record p ((congrArg (tFind Permit.serial serial) hpermits).symm.trans hp), fun c e he ho hw hl =>
    (hq c e he ho hw hl).elim id fun hin => h.firm c e hin ho hw hl⟩

theorem State.TgFixed.modPermit {s : State} {tg : PermitTg} {serial n : Nat} {R : Permit → Prop} (h : s.TgFixed tg serial R)
    {f : Permit → Permit} (hf : ∀ p, (f p).serial = p.serial) (hR : n = serial → ∀ p, R p → R (f p)) : (s.modPermit n f).TgFixed tg serial R := by
  refine ⟨fun p hp => ?_, h.firm⟩
  by_cases hn : serial = n
  · subst hn
    rw [State.permit?, State.modPermit, tFind_tMod Permit.serial _ _ _ _ hf] at hp
    obtain ⟨q, hq, rfl⟩ := Option.map_eq_some_iff.1 hp
    rw [if_pos (State.serial_of_permit? hq)]
    exact hR rfl q (h.record q hq)
  · rw [State.permit?_modPermit_other hf hn] at hp
    exact h.record p hp

theorem tgFixed_spared {tg : PermitTg} {serial : Nat} {R : Permit → Prop} (hR : Permit.OfTg tg R) :
    Spares (· ≠ .permit tg serial) fun t => t.TgFixed tg serial R where
  posted := posted_of_notices fun _ _ _ h => ⟨h.record, h.firm⟩
  quiet := fun _ _ _ _ h => ⟨h.record, h.firm⟩
  marks := fun s c f hf h => h.of_queues rfl fun d e he _ _ _ => .inr (by
    have hq : ∀ ch, (f ch).queue = ch.queue := fun ch => by rw [hf]
    rw [State.modChan_chan] at he
    split at he
    · rwa [hq] at he
    · exact he)
  crew := fun _ _ _ _ h => ⟨h.record, h.firm⟩
  enter := fun s c e hfresh h => h.of_queues rfl fun d x hx ho _ _ => by
    rw [State.modChan_chan] at hx
    split at hx
    · rcases mem_insertEntry.1 hx with rfl | hx
      · exact absurd ho hfresh.owner
      · exact .inr hx
    · exact .inr hx
  leave := fun s c e _ _ _ _ h => h.of_queues rfl fun d x hx _ _ _ => .inr (by
    rw [State.modChan_chan] at hx
    split at hx
    · exact List.mem_of_mem_erase hx
    · exact hx)
  drop := fun s c n _ h => h.of_queues rfl fun d x hx _ _ _ => .inr (by
    rw [State.modChan_chan] at hx
    split at hx
    · exact List.mem_of_mem_filter hx
    · exact hx)
  order := fun _ _ _ _ _ _ _ h => ⟨h.record, h.firm⟩
  followUp := fun _ _ _ _ h => ⟨h.record, h.firm⟩
  permit := fun s n tg' st hmay h => h.modPermit (fun p => by cases tg' <;> rfl) fun hn p hp =>
    hR.other p tg' st (fun heq => hmay (by rw [heq, hn])) hp
  mark := fun s n d h => h.modPermit (fun _ => rfl) fun _ p hp => hR.mark p _ hp
  prompt := fun s slot body st _ h => by
    unfold State.setPrompts
    split
    · exact ⟨h.record, h.firm⟩
    · exact h
  reorder := fun _ _ _ _ _ _ _ _ _ _ h => ⟨h.record, h.firm⟩
  respond := fun _ _ _ _ h => ⟨h.record, h.firm⟩
  settle := fun s h => h.of_queues rfl fun c e he _ _ _ => .inr (by rwa [State.settle_queue] at he)
  headDue := fun _ _ _ _ _ _ _ _ _ _ => nofun
  followUpDue := fun _ _ _ _ _ _ _ => nofun
  permitDue := fun s n tg' p h hp hdue heq => by
    cases heq
    exact hR.due p (h.record p hp) hdue
  displaced := fun _ _ _ _ _ _ _ _ _ => nofun
  evicted := fun s c e h he hwait hweak => ⟨fun _ _ => .inl nofun, fun _ _ => nofun, fun hlinked _ ho => by
    obtain ⟨htext, horder, hprompt, -⟩ := h.firm c e he ho hwait hlinked
    rcases hweak with hw | hw | hw
    · exact htext hw
    · exact horder hw
    · exact hprompt hw⟩

/-- A change of the permit itself that brings about a condition on it. -/
theorem State.TgFixed.modPermit_same {s : State} {tg : PermitTg} {serial : Nat} {R R' : Permit → Prop} (h : s.TgFixed tg serial R)
    {f : Permit → Permit} (hf : ∀ p, (f p).serial = p.serial) (hR : ∀ p, R p → R' (f p)) : (s.modPermit serial f).TgFixed tg serial R' := by
  refine ⟨fun p hp => ?_, h.firm⟩
  rw [State.permit?, State.modPermit, tFind_tMod Permit.serial _ _ _ _ hf] at hp
  obtain ⟨q, hq, rfl⟩ := Option.map_eq_some_iff.1 hp
  rw [if_pos (State.serial_of_permit? hq)]
  exact hR q (h.record q hq)

theorem State.enqueue_onlyChans (s : State) (c : Chan) (e : Entry) : OnlyChans s (s.enqueue c e) :=
  (s.modChan_onlyChans c _).trans (State.flowEval_onlyChans _ c)

/-- A permit's telegram that waits once it was offered to a queue with room, and that no traffic moves (R67). -/
theorem State.offerPermit_fixed {s : State} {serial : Nat} {tg : PermitTg} {p : Permit} {k : Crew} {kind : TgKind} {body : List Byte}
    {R : Permit → Prop} (hp : s.permit? serial = some p) (hk : s.crew? p.holder = some k) (htg : p.telegram tg = some (kind, body))
    (hroom : (s.chan k.current).queue.length < 24) (hkind : kind ≠ .checkPrompt) (hnone : s.noneWaits (.permit tg serial))
    (hR : Permit.OfTg tg R) (hqueued : R (p.setTg tg .queued)) : (s.offerPermit serial tg).TgFixed tg serial R := by
  rw [State.offerPermit_of_room hp hk htg hroom]
  have hentered : ((s.modCrew k.slot fun k => { k with outSeq := k.outSeq + 1 }).enqueue k.current
      { newEntry (.permit tg serial) kind .safety k.addr (.bytes body) none with seq := some k.outSeq }).TgFixed tg serial (· = p) := by
    refine ⟨fun q hq => ?_, fun c e he ho hw hl => ?_⟩
    · have hpermits := ((s.modCrew k.slot fun k => { k with outSeq := k.outSeq + 1 }).enqueue_onlyChans k.current
        { newEntry (.permit tg serial) kind .safety k.addr (.bytes body) none with seq := some k.outSeq }).permits
      exact Option.some.inj (hq.symm.trans ((congrArg (tFind Permit.serial serial) hpermits).trans hp))
    · rcases State.mem_enqueue_iff he with rfl | he
      · exact ⟨nofun, nofun, hkind, nofun⟩
      · rw [hnone c e he ho hw] at hl
        cases hl
  exact (tgFixed_spared hR).syncPermitDefer (hentered.modPermit_same (f := fun p => p.setTg tg .queued) (fun p => by cases tg <;> rfl)
    fun q hq => by rw [hq]; exact hqueued) serial

theorem Permit.ofTg_instruct {i : Outstanding} (hi : i.status ≠ .deferred) : Permit.OfTg .instruct fun p => p.outstanding = some i := by
  refine ⟨fun q hq => ?_, fun q tg st htg hq => ?_, fun q _ hq => hq⟩
  · simp [Permit.tg?, hq, hi]
  · cases tg with
    | instruct => exact absurd rfl htg
    | _ => exact hq

/-- An instruction granted as a permit starts switching, offered to a queue with room (R71). -/
theorem State.started_offered {s : State} {serial n : Nat} {p : Permit} {what : ClaimFor} {d : Device} {k : Crew} {a : Action}
    (howed : s.noLeadOwed) (hp : s.permit? serial = some p) (hhold : p.hold = false) (hwait : p.cancelWait = false)
    (hout : p.outstanding = none) (hwants : p.started.wants = some (n, what)) (hd : s.device? n = some d)
    (hgranted : (d.claim serial what).2 = .granted a) (hk : s.crew? p.holder = some k) (hroom : (s.chan k.current).queue.length < 24)
    (hnone : s.noneWaits (.permit .instruct serial)) :
    let i : Outstanding := ⟨p.started.instructionIndex n what, n, what.role, a, .queued⟩
    Offered ((s.started serial).claimNext serial).1 k .instruct serial .stepInstruct (instructBody serial i)
      ∧ ((s.started serial).claimNext serial).1.TgFixed .instruct serial fun p => p.outstanding = some i := by
  intro i
  obtain ⟨hchans, hcrews, hdevices, hp1⟩ := State.started_of_not_owed howed hp
  have hd1 : (s.started serial).device? n = some d := (congrArg (tFind Device.number n) hdevices).trans hd
  have hclaim := State.claimNext_of_free hp1 hhold hwait hout hwants hd1
  rw [hgranted] at hclaim
  have hp2 : (((s.started serial).modDevice n fun d => (d.claim serial what).1).modPermit serial fun p =>
      p.answered n what (.granted a)).permit? serial = some (p.started.answered n what (.granted a)) :=
    State.permit?_modPermit (f := fun p => p.answered n what (.granted a)) (fun p => p.answered_serial n what _) hp1
  have hqueue (c : Chan) : ((((s.started serial).modDevice n fun d => (d.claim serial what).1).modPermit serial fun p =>
      p.answered n what (.granted a)).chan c).queue = (s.chan c).queue := congrArg (fun v : Four Channel => (v.get c).queue) hchans
  have hcrew : (((s.started serial).modDevice n fun d => (d.claim serial what).1).modPermit serial fun p =>
      p.answered n what (.granted a)).crew? (p.started.answered n what (.granted a)).holder = some k :=
    (congrArg (tFind Crew.slot p.holder) hcrews).trans hk
  have htelegram : (p.started.answered n what (.granted a)).telegram .instruct = some (.stepInstruct, instructBody serial i) := by
    rw [← State.serial_of_permit? hp]
    rfl
  have hroom' := (congrArg List.length (hqueue k.current)).trans_lt hroom
  have hnone' := State.noneWaits_of_queues (fun c e he _ => (hqueue c) ▸ he) hnone
  rw [hclaim]
  refine ⟨State.offerPermit_offered hp2 hcrew htelegram hroom', State.offerPermit_fixed hp2 hcrew htelegram hroom' nofun hnone'
    (Permit.ofTg_instruct nofun) rfl⟩

/-- Settles O33. -/
theorem startSwitchingClaims : Obligations.StartSwitchingClaims := by
  intro x h l p first d s h1 hp
  have hp' : (s.atRequest x).permit? (be16 h l) = some p := hp
  refine ⟨fun hno => refuses_of_refuse rfl ((State.onPermit_of_permit? (s := s.atRequest x) _ h1 hp).trans (if_pos hno)),
    fun hst hfirst hd hout hwait => ?_⟩
  intro claimed moved
  have hwork := askStartSwitching_of_draft (s := s.atRequest x) h1 hp' hst
  have hstarted := State.started_frameWatch hp'
  have hp0 : ((s.atRequest x).modPermit (be16 h l) Permit.started).permit? (be16 h l) = some p.started :=
    State.permit?_modPermit (f := Permit.started) (fun _ => rfl) hp'
  have hwants : p.started.wants = some (first.device, .isolation first.action) := by
    have hzero : p.steps[0]? = some first := by rw [← List.head?_eq_getElem?]; exact hfirst
    simp [Permit.wants, Permit.started, hzero]
  have hshape : (((s.atRequest x).started (be16 h l)).claimNext (be16 h l)).1.shape = (s.atRequest x).shape :=
    (Keeps.claimNext (.setPermitState (.modPermit (.refl _) (by intro; rfl)))).shape
  have hreplied := State.console_replied_of_frame (s := s) (effect := s) hwork hshape (.inl rfl) rfl rfl rfl
  have hpermits : AlikeButPermits (s.console x (askStartSwitching [h, l])) s := State.console_alikeButPermits hwork
    ((State.claimNext_framePermits _ _).trans ((State.setPermitState_framePermits _ _ _ _).trans rfl))
  obtain ⟨p1, hp1, hclaims1⟩ := State.claimNext_claims hstarted hp0
  rw [State.permitStateField_of_permit? hp1] at hreplied
  obtain ⟨p', hp'', hframe⟩ := State.console_permit_some hwork hp1
  have hclaims := hclaims1.of_frame (State.console_device? hwork) hframe
  refine ⟨fun hhold => ?_, fun hhold a hgranted => ?_, fun hhold hasked => ?_, fun hhold hlimited => ?_⟩
  · have hnone := State.claimNext_of_blocked_frame hstarted hp0 (.inl hhold)
    have hstate : p1.state = .switching := (congrArg Permit.state (hclaims1.blocked (.inl hhold)) :)
    rw [hnone, hstate] at hreplied
    rw [hnone] at hwork
    exact ⟨_, rfl, hreplied, State.console_alikeButWatches hwork hstarted⟩
  · obtain ⟨hanswer, hwatch⟩ := State.claimNext_frameWatch hstarted hp0 hhold hwait hout hwants hd
    obtain ⟨d', hd', -, hsame⟩ := (hclaims.claiming _ _ hhold hwait hout hwants).device d hd
    have hrecord := (hclaims1.claiming _ _ hhold hwait hout hwants).record d hd
    rw [hgranted] at hanswer hwatch hsame hrecord
    have hstate : p1.state = .switching := (congrArg Permit.state hrecord :)
    rw [hanswer, hstate] at hreplied
    refine ⟨_, rfl, hreplied, State.console_alikeButWatches hwork (hwatch.trans ?_), hd'.trans (congrArg some (hsame nofun)), fun k hk hroom howed hnone => ?_⟩
    · rw [State.answeredClaim, if_neg nofun]
      have hone (f : Permit → Permit) : (((s.atRequest x).modPermit (be16 h l) Permit.started).modDevice first.device fun d =>
          (d.claim (be16 h l) (.isolation first.action)).1).modPermit (be16 h l) f
            = ((s.atRequest x).modDevice first.device fun d => (d.claim (be16 h l) (.isolation first.action)).1).modPermit (be16 h l)
              fun p => f p.started :=
        State.modPermit_modPermit ((s.atRequest x).modDevice first.device fun d => (d.claim (be16 h l) (.isolation first.action)).1) _ _ fun _ => rfl
      exact congrArg State.frameWatch ((hone _).trans (hone fun p =>
        { p with outstanding := some ⟨1, first.device, .isolation, a, .queued⟩, waiting := false }).symm)
    · obtain ⟨hoffered, hfixed⟩ := State.started_offered (s := s.atRequest x) howed hp' hhold hwait hout hwants hd hgranted hk hroom hnone
      have hfixed' := (tgFixed_spared (serial := be16 h l) (Permit.ofTg_instruct (i := ⟨1, first.device, .isolation, a, .queued⟩) nofun)).console
        (s := s) (x := x) (work := askStartSwitching [h, l]) (by rw [hwork]; exact hfixed)
      refine ⟨?_, (firm_spared k.current fun e he => Entry.OfPermit.firm (kind := .stepInstruct) nofun he).console ?_⟩
      · rw [hp'']
        exact hfixed'.record p' hp''
      · rw [hwork]
        exact hoffered
  · obtain ⟨hanswer, hwatch⟩ := State.claimNext_frameWatch hstarted hp0 hhold hwait hout hwants hd
    obtain ⟨d', hd', -, hsame⟩ := (hclaims.claiming _ _ hhold hwait hout hwants).device d hd
    have hrecord := (hclaims1.claiming _ _ hhold hwait hout hwants).record d hd
    rw [hasked] at hanswer hwatch hsame hrecord
    have hstate : p1.state = .switching := (congrArg Permit.state hrecord :)
    rw [hanswer, hstate] at hreplied
    exact ⟨_, rfl, hreplied, State.console_alikeButWatches hwork hwatch, hd'.trans (congrArg some (hsame nofun))⟩
  · obtain ⟨hanswer, -⟩ := State.claimNext_frameWatch hstarted hp0 hhold hwait hout hwants hd
    have hrecord := (hclaims1.claiming _ _ hhold hwait hout hwants).record d hd
    rw [hlimited] at hanswer hrecord
    have hstate : p1.state = .stalled := (congrArg Permit.state hrecord :)
    have hstall : p1.stall = some (.switching, .tagLimit) := (congrArg Permit.stall hrecord :)
    rw [hanswer, hstate] at hreplied
    refine ⟨_, rfl, hreplied, ?_, hpermits⟩
    have hstate' : p'.state = .stalled := (congrArg Permit.state hframe :).trans hstate
    have hstall' : p'.stall = some (.switching, .tagLimit) := (congrArg Permit.stall hframe :).trans hstall
    rw [hp'', Option.map_some, hstate', hstall']

end Sys2Proof.Machine
end

section
/-!
The moves of crews: what one move changes, what a channel's moves bring to each crew, and the obligations that turn on them.
-/

namespace Sys2Proof.Machine
/-! ### A crew moved (R12, R119) -/

theorem State.crew?_map_frame (s : State) (n : Nat) : (s.crew? n).map Crew.frame = tFind Crew.slot n (s.crews.map Crew.frame) :=
  (tFind_map_of Crew.slot n Crew.frame s.crews Crew.frame_slot).symm

theorem State.crew?_of_crews_frame {s t : State} (h : t.crews.map Crew.frame = s.crews.map Crew.frame) (n : Nat) :
    (t.crew? n).map Crew.frame = (s.crew? n).map Crew.frame := by
  rw [State.crew?_map_frame, State.crew?_map_frame, h]

theorem State.chan_of_frameMoves {s t : State} (h : t.frameMoves = s.frameMoves) (c : Chan) :
    ({ (t.chan c).frame with alarmSet := [] } : Channel) = { (s.chan c).frame with alarmSet := [] } := by
  have hchans : t.frameMoves.chans = s.frameMoves.chans := congrArg State.chans h
  have hget := congrArg (Four.get · c) hchans
  simp only [State.frameMoves, Four.get_map] at hget
  exact hget

theorem State.inService_of_frameMoves {s t : State} (h : t.frameMoves = s.frameMoves) (c : Chan) : t.inService c = s.inService c := by
  have hstate : (t.chan c).state = (s.chan c).state := (congrArg Channel.state (State.chan_of_frameMoves h c) :)
  rw [State.inService, State.inService, hstate]

/-- The alarms that a crew brings with it change the sets of its new channel alone (R119). -/
theorem State.moveAlarms_kept (s : State) (slot : Nat) (b : Chan) : (s.moveAlarms slot b).crews.map Crew.frame = s.crews.map Crew.frame
    ∧ ∀ c, c ≠ b → ((s.moveAlarms slot b).chan c).frame = (s.chan c).frame := by
  have hjoined : ∀ (l : List AlarmRef) (t : State), (l.foldl (fun t a => t.joinSet a b) t).crews = t.crews
      ∧ ∀ c, c ≠ b → (l.foldl (fun t a => t.joinSet a b) t).chan c = t.chan c := by
    intro l
    induction l with
    | nil => exact fun t => ⟨rfl, fun _ _ => rfl⟩
    | cons a l ih =>
      intro t
      obtain ⟨hcrews, hchan⟩ := ih (t.joinSet a b)
      exact ⟨hcrews, fun c hc => (hchan c hc).trans (State.modChan_chan_other _ _ (Ne.symm hc))⟩
  obtain ⟨hcrews, hchan⟩ := hjoined ((s.alarmsOf slot).filter fun a => !(s.chan b).alarmSet.contains a) s
  rw [State.moveAlarms]
  split
  · have harm := State.arm_frame (((s.alarmsOf slot).filter fun a => !(s.chan b).alarmSet.contains a).foldl (fun t a => t.joinSet a b) s) b
    exact ⟨(congrArg State.crews harm :).trans (congrArg _ hcrews),
      fun c hc => (State.chan_frame_of_frame harm c).trans (congrArg Channel.frame (hchan c hc))⟩
  · exact ⟨congrArg _ hcrews, fun c hc => congrArg Channel.frame (hchan c hc)⟩

/-- Where a move leaves the crews, and the channels but for the one moved to. -/
structure State.Moved (s t : State) (slot : Nat) (b : Chan) : Prop where
  gone  : s.crew? slot = none → (t.crew? slot).map Crew.frame = none
  crew  : ∀ k, s.crew? slot = some k → (t.crew? slot).map Crew.frame = some ({ k with current := b } : Crew).frame
  other : ∀ j, j ≠ slot → (t.crew? j).map Crew.frame = (s.crew? j).map Crew.frame
  chans : ∀ c, c ≠ b → (t.chan c).frame = (s.chan c).frame

theorem State.crew?_modCrew_other {s : State} {n m : Nat} {f : Crew → Crew} (hf : ∀ k, (f k).slot = k.slot) (hm : m ≠ n) :
    (s.modCrew n f).crew? m = s.crew? m := tFind_tMod_other Crew.slot f s.crews hf hm

theorem State.moveCrew_moved (s : State) (slot : Nat) (b : Chan) (cause : MoveCause) : s.Moved (s.moveCrew slot b cause) slot b := by
  cases hk : s.crew? slot with
  | none =>
    have hnone : s.moveCrew slot b cause = s := by simp only [State.moveCrew, hk]
    rw [hnone]
    exact ⟨fun _ => by rw [hk]; rfl, fun k hk' => absurd (hk.symm.trans hk') nofun, fun _ _ => rfl, fun _ _ => rfl⟩
  | some k =>
    by_cases hb : k.current = b
    · have hsame : s.moveCrew slot b cause = s := by simp only [State.moveCrew, hk, if_pos hb]
      rw [hsame]
      refine ⟨fun hnone => absurd (hk.symm.trans hnone) nofun, fun k' hk' => ?_, fun _ _ => rfl, fun _ _ => rfl⟩
      cases hk.symm.trans hk'
      rw [hk, ← hb]
      rfl
    · simp only [State.moveCrew, hk, if_neg hb]
      generalize hbefore : State.offerOwedAndHead _ slot = u
      have hframe : u.frame = (s.modCrew slot fun k => { k with current := b }).frame := by
        rw [← hbefore, State.offerOwedAndHead_frame, State.offerPermitsOf_frame, State.moveDeferrals_frame, State.migrateCrew_frame,
          State.post_frame]
      obtain ⟨hcrews, hchan⟩ := u.moveAlarms_kept slot b
      have hcrew (j : Nat) : ((u.moveAlarms slot b).crew? j).map Crew.frame = ((s.modCrew slot fun k => { k with current := b }).crew? j).map Crew.frame :=
        State.crew?_of_crews_frame (hcrews.trans (congrArg State.crews hframe :)) j
      refine ⟨fun hnone => absurd (hk.symm.trans hnone) nofun, fun k' hk' => ?_, fun j hj => ?_, fun c hc => (hchan c hc).trans (State.chan_frame_of_frame hframe c)⟩
      · rw [hcrew, State.crew?_modCrew (by intro; rfl) hk']
        rfl
      · rw [hcrew, State.crew?_modCrew_other (by intro; rfl) hj]

theorem State.crew?_current {s : State} {n : Nat} {k : Crew} (h : (s.crew? n).map Crew.frame = some k.frame) :
    (s.crew? n).map (·.current) = some k.current := by
  have hmap := congrArg (Option.map fun k : Crew => k.current) h
  rw [Option.map_map] at hmap
  exact hmap

theorem State.crew?_current_of {s t : State} {n : Nat} (h : (t.crew? n).map Crew.frame = (s.crew? n).map Crew.frame) :
    (t.crew? n).map (·.current) = (s.crew? n).map (·.current) := by
  have hmap := congrArg (Option.map fun k : Crew => k.current) h
  rw [Option.map_map, Option.map_map] at hmap
  exact hmap

section
variable {s t : State} {x : Xfer} {work : State → Reply} {r : Status × List Byte} (hw : work (s.atRequest x) = (t, r))
include hw

theorem State.console_crew? (n : Nat) : ((s.console x work).crew? n).map Crew.frame = (t.crew? n).map Crew.frame := by
  rw [State.console_eq, State.settle_crew?, State.respond_crew?, hw]
  exact State.crew?_of_frameWatch t.giveSignals_frameWatch n

end

theorem State.settledChannel_eq (s : State) (home : Chan) (alt : Option Chan) : s.settledChannel home alt
    = if s.inService home then home else if alt.any s.inService then alt.getD home else home := by
  cases alt <;> rfl

/-- Settles O18. -/
theorem setChannelsMoves : Obligations.SetChannelsMoves := by
  intro x b hb a k home alt s hslot hk hhome halt kept chosen
  have hcrew : (s.atRequest x).crew? b.toNat = some k := hk
  let u := (s.atRequest x).modCrew b.toNat fun k => { k with home := home, alt := kept }
  have hask : askSetChannels [b, hb, a] (s.atRequest x)
      = (u.moveCrew b.toNat chosen .setChannels, .ok, u8 home.val ++ altField kept ++ u8 chosen.val) := by
    refine (State.onCrew_of_crew? _ hslot hcrew).trans ?_
    simp only [hhome, halt, State.slot_of_crew? hk, State.settledChannel_eq]
    rfl
  have hmoved := u.moveCrew_moved b.toNat chosen .setChannels
  refine ⟨_, rfl, State.console_replied_of_frame (effect := s) hask ?_ (.inl rfl) rfl rfl rfl, ?_, fun j hj => ?_, State.console_alikeButMoves hask ?_⟩
  · exact (State.moveCrew_shape ..).trans (State.modCrew_shape_of _ _ _ (by intro; rfl))
  · exact State.crew?_current ((State.console_crew? hask _).trans (hmoved.crew _ (State.crew?_modCrew (by intro; rfl) hcrew)))
  · refine State.crew?_current_of ((State.console_crew? hask _).trans ((hmoved.other j hj).trans ?_))
    rw [State.crew?_modCrew_other (by intro; rfl) hj]
    rfl
  · exact State.moveCrew_frameMoves ..

/-! ### All the crews of a channel moved (R157, R160, R161) -/

/-- A crew as the frame of a state keeps it. -/
def State.standing (s : State) (n : Nat) : Option Crew := (s.crew? n).map Crew.frame

theorem State.standing_of_frame {s t : State} (h : t.frame = s.frame) (n : Nat) : t.standing n = s.standing n :=
  State.crew?_of_crews_frame (congrArg State.crews h :) n

theorem State.standing_of_crew? {s : State} {n : Nat} {k : Crew} (h : s.crew? n = some k) : s.standing n = some k.frame := by
  rw [State.standing, h]
  rfl

/-- A crew on the channel it has come to. -/
def Crew.onto (b : Chan) (k : Crew) : Crew := { k with current := b }

/-- A crew moved to its other channel where that serves. -/
def Crew.movedOff (serves : Chan → Bool) (k : Crew) : Crew :=
  { k with current := if k.other.any serves then k.other.getD k.current else k.current }

theorem Crew.movedOff_eq {serves : Chan → Bool} {k : Crew} {b : Chan} (h : k.other = some b) :
    k.movedOff serves = if serves b then k.onto b else k := by
  rw [Crew.movedOff, Crew.onto, h]
  cases hserves : serves b <;> simp [hserves]

theorem Crew.movedOff_none {serves : Chan → Bool} {k : Crew} (h : k.other = none) : k.movedOff serves = k := by
  rw [Crew.movedOff, h]
  rfl

theorem State.Moved.standing {s t : State} {slot : Nat} {b : Chan} (h : s.Moved t slot b) (j : Nat) :
    t.standing j = if j = slot then (s.standing j).map (Crew.onto b) else s.standing j := by
  by_cases hj : j = slot
  · subst hj
    rw [if_pos rfl]
    cases hk : s.crew? j with
    | none => exact (h.gone hk).trans (by rw [State.standing, hk]; rfl)
    | some k => exact (h.crew k hk).trans (by rw [State.standing, hk]; rfl)
  · rw [if_neg hj]
    exact h.other j hj

/-- One crew's part of the moves off a channel. -/
def State.moveAway (c : Chan) (cause : MoveCause) (teardown : Bool) (t : State) (slot : Nat) : State :=
  match (t.crew? slot).bind Crew.other with
  | none => t
  | some b =>
    if t.inService b then
      (if teardown then (t.moveCrew slot b cause).withSignals ((t.moveCrew slot b cause).signals.erase c)
        else t.moveCrew slot b cause).giveSignals
    else t

theorem State.moveOff_eq (s : State) (c : Chan) (cause : MoveCause) (teardown : Bool) : s.moveOff c cause teardown
    = ((s.crews.filter fun k => k.current == c).map (·.slot)).foldl (State.moveAway c cause teardown) s := rfl

theorem State.moveAway_none {c : Chan} {cause : MoveCause} {teardown : Bool} {t : State} {slot : Nat}
    (h : (t.crew? slot).bind Crew.other = none) : t.moveAway c cause teardown slot = t := by
  rw [State.moveAway, h]

/-- One crew moved, its space signals given: the frame is that of the move. -/
theorem State.moveAway_frame {c : Chan} {cause : MoveCause} {teardown : Bool} {t : State} {slot : Nat} {b : Chan}
    (h : (t.crew? slot).bind Crew.other = some b) :
    (t.moveAway c cause teardown slot).frame = (if t.inService b then t.moveCrew slot b cause else t).frame := by
  simp only [State.moveAway, h]
  split
  · rw [State.giveSignals_frame]
    split
    · rfl
    · rfl
  · rfl

theorem State.moveAway_frameMoves (c : Chan) (cause : MoveCause) (teardown : Bool) (t : State) (slot : Nat) :
    (t.moveAway c cause teardown slot).frameMoves = t.frameMoves := by
  cases h : (t.crew? slot).bind Crew.other with
  | none => rw [State.moveAway_none h]
  | some b =>
    rw [State.frameMoves_of_frame (State.moveAway_frame h)]
    split
    · exact State.moveCrew_frameMoves ..
    · rfl

theorem State.moveAway_standing (c : Chan) (cause : MoveCause) (teardown : Bool) (t : State) (slot j : Nat) :
    (t.moveAway c cause teardown slot).standing j
      = if j = slot then (t.standing j).map (Crew.movedOff t.inService) else t.standing j := by
  cases hk : t.crew? slot with
  | none =>
    rw [State.moveAway_none (by rw [hk]; rfl)]
    split
    · next hj =>
      subst hj
      rw [State.standing, hk]
      rfl
    · rfl
  | some k =>
    cases ho : k.other with
    | none =>
      rw [State.moveAway_none (by rw [hk]; exact ho)]
      split
      · next hj =>
        subst hj
        rw [State.standing_of_crew? hk, Option.map_some, Crew.movedOff_none (k := k.frame) ho]
      · rfl
    | some b =>
      rw [State.standing_of_frame (State.moveAway_frame (by rw [hk]; exact ho))]
      have hmoved := (t.moveCrew_moved slot b cause).standing j
      split
      · next hserves =>
        rw [hmoved]
        split
        · next hj =>
          subst hj
          rw [State.standing_of_crew? hk, Option.map_some, Option.map_some, Crew.movedOff_eq (k := k.frame) ho, if_pos hserves]
        · rfl
      · next hserves =>
        split
        · next hj =>
          subst hj
          rw [State.standing_of_crew? hk, Option.map_some, Crew.movedOff_eq (k := k.frame) ho, if_neg hserves]
        · rfl

theorem State.moveAway_chan {c : Chan} {cause : MoveCause} {teardown : Bool} {t : State} {slot : Nat} {d : Chan}
    (hd : t.inService d = false) : ((t.moveAway c cause teardown slot).chan d).frame = (t.chan d).frame := by
  cases h : (t.crew? slot).bind Crew.other with
  | none => rw [State.moveAway_none h]
  | some b =>
    rw [State.chan_frame_of_frame (State.moveAway_frame h)]
    split
    · next hserves => exact (t.moveCrew_moved slot b cause).chans d fun hdb => absurd hserves (by rw [← hdb, hd]; nofun)
    · rfl

/-- A round of moves, each of which sets its own crew as `g` says, sets each crew of the round so. -/
theorem State.foldl_standing {f : State → Nat → State} {g : Crew → Crew} {kept : State → Prop}
    (hkept : ∀ t n, kept t → kept (f t n))
    (hf : ∀ t n j, kept t → (f t n).standing j = if j = n then (t.standing j).map g else t.standing j) :
    ∀ (l : List Nat) (t : State), l.Nodup → kept t → ∀ j,
      (l.foldl f t).standing j = if j ∈ l then (t.standing j).map g else t.standing j := by
  intro l
  induction l with
  | nil => intro t _ _ j; simp
  | cons n l ih =>
    intro t hl ht j
    obtain ⟨hnew, hl⟩ := List.nodup_cons.1 hl
    rw [List.foldl_cons, ih (f t n) hl (hkept t n ht) j, hf t n j ht]
    by_cases hjn : j = n
    · subst hjn
      rw [if_neg hnew, if_pos rfl, if_pos List.mem_cons_self]
    · rw [if_neg hjn]
      simp only [List.mem_cons, hjn, false_or]

/-- The slots of the crews that a condition names, each once. -/
theorem State.slots_nodup {s : State} (h : rising (s.crews.map (·.slot))) (p : Crew → Bool) : ((s.crews.filter p).map (·.slot)).Nodup :=
  List.Nodup.sublist (List.filter_sublist.map _) (h.imp fun hlt => Nat.ne_of_lt hlt)

theorem State.crew_unique {s : State} (h : rising (s.crews.map (·.slot))) {k j : Crew} (hk : k ∈ s.crews) (hj : j ∈ s.crews)
    (hslot : k.slot = j.slot) : k = j :=
  List.inj_on_of_nodup_map (h.imp fun hlt => Nat.ne_of_lt hlt) hk hj hslot

theorem State.mem_slots_iff {s : State} (h : rising (s.crews.map (·.slot))) {k : Crew} (hk : k ∈ s.crews) (p : Crew → Bool) :
    k.slot ∈ (s.crews.filter p).map (·.slot) ↔ p k = true := by
  simp only [List.mem_map, List.mem_filter]
  constructor
  · rintro ⟨j, ⟨hj, hp⟩, hslot⟩
    rwa [State.crew_unique h hk hj hslot.symm]
  · exact fun hp => ⟨k, ⟨hk, hp⟩, rfl⟩

theorem State.crew?_of_mem {s : State} (h : rising (s.crews.map (·.slot))) {k : Crew} (hk : k ∈ s.crews) : s.crew? k.slot = some k :=
  tFind_of_mem h hk

/-- Where the moves off a channel leave each crew. -/
theorem State.moveOff_standing {s : State} (h : rising (s.crews.map (·.slot))) (c : Chan) (cause : MoveCause) (teardown : Bool)
    {k : Crew} (hk : k ∈ s.crews) : (s.moveOff c cause teardown).standing k.slot
      = some (if k.current = c then (k.movedOff s.inService).frame else k.frame) := by
  rw [State.moveOff_eq, State.foldl_standing (kept := fun t => t.frameMoves = s.frameMoves) (g := Crew.movedOff s.inService)
    (fun t n ht => (State.moveAway_frameMoves ..).trans ht)
    (fun t n j ht => by rw [State.moveAway_standing, funext (State.inService_of_frameMoves ht)]) _ s
    (State.slots_nodup h _) rfl]
  simp only [State.mem_slots_iff h hk, State.standing_of_crew? (State.crew?_of_mem h hk), beq_iff_eq, Option.map_some]
  split <;> rfl

theorem State.moveOff_chan {s : State} {c d : Chan} (cause : MoveCause) (teardown : Bool) (hd : s.inService d = false) :
    ((s.moveOff c cause teardown).chan d).frame = (s.chan d).frame := by
  rw [State.moveOff_eq]
  generalize (s.crews.filter fun k => k.current == c).map (·.slot) = l
  induction l generalizing s with
  | nil => rfl
  | cons n l ih =>
    rw [List.foldl_cons, ih (by rw [State.inService_of_frameMoves (State.moveAway_frameMoves ..), hd]), State.moveAway_chan hd]

/-- Where the moves home leave each crew. -/
theorem State.moveHome_standing {s : State} (h : rising (s.crews.map (·.slot))) (c : Chan) {k : Crew} (hk : k ∈ s.crews) :
    (s.moveHome c).standing k.slot = some (if k.home = c then k.onto c else k).frame := by
  rw [State.moveHome, State.foldl_standing (kept := fun _ => True) (g := Crew.onto c) (fun _ _ _ => trivial)
    (fun t n j _ => by rw [State.standing_of_frame (State.giveSignals_frame _), (t.moveCrew_moved n c .failback).standing]) _ s
    (State.slots_nodup h _) trivial]
  simp only [State.mem_slots_iff h hk, State.standing_of_crew? (State.crew?_of_mem h hk), Bool.and_eq_true, beq_iff_eq, bne_iff_ne]
  by_cases hhome : k.home = c
  · by_cases hcurrent : k.current = c
    · rw [if_neg (fun hb => hb.2 hcurrent), if_pos hhome, Crew.onto, ← hcurrent]
    · rw [if_pos ⟨hhome, hcurrent⟩, if_pos hhome]
      rfl
  · rw [if_neg (fun hb => hhome hb.1), if_neg hhome]

theorem State.event_standing (s : State) (work : State → State) (n : Nat) : (s.event work).standing n = (work s.atEvent).standing n := by
  rw [State.event_eq, State.standing, State.settle_crew?]
  exact State.standing_of_frame (State.giveSignals_frame _) n

theorem State.current_of_standing {s : State} {n : Nat} {k : Crew} (h : s.standing n = some k.frame) :
    (s.crew? n).map (·.current) = some k.current := State.crew?_current h

theorem State.inService_modChan (s : State) (c : Chan) {f : Channel → Channel} (hf : ∀ ch, (f ch).state = ch.state) (d : Chan) :
    (s.modChan c f).inService d = s.inService d := by
  have hstate : ((s.modChan c f).chan d).state = (s.chan d).state := by
    by_cases hd : c = d
    · subst hd
      rw [State.modChan_chan_same, hf]
    · rw [State.modChan_chan_other _ _ hd]
  rw [State.inService, State.inService, hstate]

/-- Settles O55. -/
theorem failoverAndFailbackMove : Obligations.FailoverAndFailbackMove := by
  intro c s hs
  have hslots : rising (s.crews.map (·.slot)) := hs.tables.1.1
  refine ⟨fun hover hdown => ?_, fun hnot => ?_, fun hback hin => ?_, fun hnot => ?_⟩
  · have hwork : s.atEvent.expireFailover c = (s.atEvent.modChan c fun ch => { ch with failover := none }).moveOff c .failover false :=
      if_pos ⟨hover, hdown⟩
    refine ⟨_, rfl, s.event_quiet_of_shape _ ?_, ?_, State.event_alikeButMoves ?_⟩
    · rw [hwork, State.moveOff_shape]
      exact State.modChan_shape _ _ _
    · intro k hk other
      have hstands := State.moveOff_standing (s := s.atEvent.modChan c fun ch => { ch with failover := none }) hslots c .failover false hk
      rw [funext (State.inService_modChan s.atEvent c (by intro; rfl))] at hstands
      rw [← apply_ite Crew.frame] at hstands
      refine (State.current_of_standing ((s.event_standing _ _).trans ((congrArg (State.standing · k.slot) hwork).trans hstands))).trans ?_
      have hfar : (k.movedOff s.atEvent.inService).current = if other.any s.inService then other.getD k.current else k.current := rfl
      by_cases hc : k.current = c
      · rw [if_pos hc, hfar]
        simp only [hc, true_and]
      · simp only [hc, false_and, if_false]
    · rw [hwork, State.moveOff_frameMoves]
      rfl
  · refine runs_event_effect rfl (if_neg fun h => ?_) rfl rfl rfl rfl
    exact hnot.elim (· h.1) (· h.2)
  · have hwork : s.atEvent.expireFailback c = (s.atEvent.modChan c fun ch => { ch with failback := none }).moveHome c :=
      if_pos ⟨hback, hin⟩
    refine ⟨_, rfl, s.event_quiet_of_shape _ ?_, fun k hk => ?_, State.event_alikeButMoves ?_⟩
    · rw [hwork, State.moveHome_shape]
      exact State.modChan_shape _ _ _
    · have hstands := State.moveHome_standing (s := s.atEvent.modChan c fun ch => { ch with failback := none }) hslots c hk
      refine (State.current_of_standing ((s.event_standing _ _).trans ((congrArg (State.standing · k.slot) hwork).trans hstands))).trans ?_
      split <;> rfl
    · rw [hwork, State.moveHome_frameMoves]
      rfl
  · refine runs_event_effect rfl (if_neg fun h => ?_) rfl rfl rfl rfl
    exact hnot.elim (· h.1) fun hout => absurd (hout.symm.trans h.2) nofun

end Sys2Proof.Machine
end

section
/-!
Channels taken off the air and restarted (R157, R158, R177).
-/

namespace Sys2Proof.Machine
/-! ### A flush (R177) -/

section
variable {s : State}

theorem State.SameQueues.trans {t u : State} (h : s.SameQueues t) (h' : t.SameQueues u) : s.SameQueues u :=
  ⟨h'.1.trans h.1, fun c => (h'.2 c).trans (h.2 c)⟩

theorem State.sameQueues_post (n : Subject) : s.SameQueues (s.post n) := ⟨State.post_signals _ _, fun c => by rw [State.post_chan]⟩

/-- What an owner that is no order does as it takes an entry back: no queue changes. -/
theorem State.sameQueues_oweFollowUp (n : Nat) : s.SameQueues (s.oweFollowUp n) := by
  rw [State.oweFollowUp]
  split
  · exact ⟨rfl, fun _ => rfl⟩
  · dsimp only
    have howed (t : State) (l : List Nat) (p : Prop) [Decidable p] : State.SameQueues t (if p then t else t.withOwed l) := by
      split <;> exact ⟨rfl, fun _ => rfl⟩
    split
    · exact State.SameQueues.trans (howed (s.modOrder n _) _ _) (State.sameQueues_syncOrderDefer _)
    · exact howed (s.modOrder n _) _ _

theorem State.sameQueues_textResult (c : Chan) (e : Entry) (r : TextOutcome) : s.SameQueues (s.textResult c e r) := by
  rw [State.textResult]
  split
  · split <;> exact State.sameQueues_post _
  · exact ⟨rfl, fun _ => rfl⟩

theorem State.sameQueues_returnToOwner {e : Entry} (he : ∀ n, e.owner ≠ .order n) (c : Chan) (r : Deferral) (d : DropReason) :
    s.SameQueues (s.returnToOwner State.check c e r d) := by
  cases howner : e.owner with
  | order n => exact absurd howner (he n)
  | followUp n =>
    simp only [State.returnToOwner, howner]
    split
    · exact State.sameQueues_oweFollowUp n
    · exact ⟨rfl, fun _ => rfl⟩
  | permit tg serial =>
    simp only [State.returnToOwner, howner]
    split
    · exact (State.sameQueues_syncPermitDefer (s := s.modPermit serial _) serial :)
    · exact ⟨rfl, fun _ => rfl⟩
  | prompt slot =>
    simp only [State.returnToOwner, howner]
    exact State.sameQueues_setPrompts _ _ _
  | text n =>
    simp only [State.returnToOwner, howner]
    exact State.sameQueues_textResult _ _ _
  | freeAnswer => simp only [State.returnToOwner, howner]; exact ⟨rfl, fun _ => rfl⟩
  | alarmCall => simp only [State.returnToOwner, howner]; exact ⟨rfl, fun _ => rfl⟩

theorem State.sameQueues_endUnlinked {e : Entry} (he : ∀ n, e.owner ≠ .order n) : s.SameQueues (s.endUnlinked e) := by
  rw [State.endUnlinked]
  split
  · next n howner => exact absurd howner (he n)
  · exact ⟨rfl, fun _ => rfl⟩

/-- The space signal of one channel alone may be owed. -/
def State.OwesAtMost (s : State) (c : Chan) : Prop := s.signals = [] ∨ s.signals = [c]

theorem State.OwesAtMost.signal {c : Chan} (h : s.OwesAtMost c) : (s.signal c).OwesAtMost c := by
  rw [State.signal]
  rcases h with h | h
  · exact .inr (by rw [h]; rfl)
  · exact .inr (by rw [h]; simp [h])

theorem State.OwesAtMost.flowEval {c : Chan} (h : s.OwesAtMost c) : (s.flowEval c).OwesAtMost c := by
  rw [State.flowEval]
  split
  · exact h
  · split
    · exact (State.OwesAtMost.signal (s := s.modChan c _) h)
    · exact h

theorem State.OwesAtMost.muted {c : Chan} (h : s.OwesAtMost c) : (s.muteSignal c).signals = [] := by
  rw [State.muteSignal, State.withSignals_signals]
  rcases h with h | h <;> simp [h]

theorem State.OwesAtMost.same {t : State} {c : Chan} (h : s.OwesAtMost c) (hsame : s.SameQueues t) : t.OwesAtMost c := by
  rw [State.OwesAtMost, hsame.1]
  exact h

/-- One entry flushed leaves its queue, and no other queue changes. -/
theorem State.flushEntry_queue {c : Chan} {e : Entry} (he : ∀ n, e.owner ≠ .order n) (howes : s.OwesAtMost c) :
    ((s.flushEntry c e).chan c).queue = (s.chan c).queue.erase e ∧ (s.flushEntry c e).OwesAtMost c := by
  have hleft : (((s.modChan c fun ch => { ch with queue := ch.queue.erase e }).flowEval c).chan c).queue = (s.chan c).queue.erase e := by
    rw [State.flowEval_queue, State.modChan_chan_same]
  have howed : ((s.modChan c fun ch => { ch with queue := ch.queue.erase e }).flowEval c).OwesAtMost c :=
    State.OwesAtMost.flowEval (s := s.modChan c _) howes
  have hof (t : State) (h : State.SameQueues ((s.modChan c fun ch => { ch with queue := ch.queue.erase e }).flowEval c) t) :
      (t.chan c).queue = (s.chan c).queue.erase e ∧ t.OwesAtMost c := ⟨(h.2 c).trans hleft, howed.same h⟩
  rw [State.flushEntry]
  refine hof _ ?_
  split
  · split
    · exact State.sameQueues_textResult _ _ _
    · exact State.sameQueues_endUnlinked he
  · exact State.sameQueues_returnToOwner he _ _ _

/-- An entry strays from a channel where its crew stands on another (R157). -/
theorem State.strayTo_eq (c : Chan) (e : Entry) : s.strayTo c e = if e.orphan then none
    else (e.addr.slot?.bind s.standing).bind fun k => if k.current = c then none else some k.current := by
  rw [State.strayTo]
  split
  · rfl
  · cases e.addr.slot? with
    | none => rfl
    | some slot =>
      cases hk : s.crew? slot with
      | none => simp [State.standing, hk]
      | some k => simp [State.standing, hk, Crew.frame]

theorem State.strayTo_of_frame {t : State} (h : t.frame = s.frame) (c : Chan) (e : Entry) : t.strayTo c e = s.strayTo c e := by
  rw [State.strayTo_eq, State.strayTo_eq, funext (State.standing_of_frame h)]

/-- An entry that its crew's moves leave where it is, and that no order owns. -/
def State.Stays (s : State) (c : Chan) (e : Entry) : Prop := s.strayTo c e = none ∧ ∀ n, e.owner ≠ .order n

/-- One entry's part of a flush. -/
def State.flushOne (c : Chan) (r : State × Nat) (e : Entry) : State × Nat :=
  if (r.1.chan c).queue.contains e then
    match r.1.strayTo c e with
    | some b => (((r.1.modChan c fun ch => { ch with queue := ch.queue.erase e }).flowEval c).migrate b e, r.2)
    | none => (r.1.flushEntry c e, r.2 + 1)
  else r

theorem State.flushOne_of_home {c : Chan} {e : Entry} {n : Nat} (he : e ∈ (s.chan c).queue) (hhome : s.strayTo c e = none) :
    State.flushOne c (s, n) e = (s.flushEntry c e, n + 1) := by
  simp only [State.flushOne, hhome]
  exact if_pos (List.contains_iff_mem.2 he)

theorem State.flush_eq (c : Chan) : s.flush c = (s.chan c).queue.foldl (State.flushOne c) (s, 0) := rfl

/-- A queue whose entries stay is flushed whole. -/
theorem State.flush_of_stays {c : Chan} (hstay : ∀ e ∈ (s.chan c).queue, s.Stays c e) (howes : s.OwesAtMost c) :
    (s.flush c).2 = (s.chan c).queue.length ∧ ((s.flush c).1.chan c).queue = [] ∧ (s.flush c).1.OwesAtMost c := by
  have hall : ∀ (l : List Entry) (t : State) (n : Nat), (t.chan c).queue = l → (∀ e ∈ l, t.Stays c e) → t.OwesAtMost c →
      (l.foldl (State.flushOne c) (t, n)).2 = n + l.length ∧ (((l.foldl (State.flushOne c) (t, n)).1.chan c).queue = [])
        ∧ (l.foldl (State.flushOne c) (t, n)).1.OwesAtMost c := by
    intro l
    induction l with
    | nil => exact fun t n hq _ howes => ⟨rfl, hq, howes⟩
    | cons e l ih =>
      intro t n hq hstay howes
      obtain ⟨hhome, howner⟩ := hstay e List.mem_cons_self
      obtain ⟨hqueue, howes'⟩ := State.flushEntry_queue howner howes
      have hone : State.flushOne c (t, n) e = (t.flushEntry c e, n + 1) := State.flushOne_of_home (by rw [hq]; exact List.mem_cons_self) hhome
      rw [List.foldl_cons, hone, List.length_cons, Nat.add_comm l.length, ← Nat.add_assoc]
      refine ih _ _ (by rw [hqueue, hq, List.erase_cons_head]) (fun e' he' => ?_) howes'
      obtain ⟨hhome', howner'⟩ := hstay e' (List.mem_cons_of_mem _ he')
      exact ⟨by rw [State.strayTo_of_frame (State.flushEntry_frame _ _ _), hhome'], howner'⟩
  rw [State.flush_eq]
  have hflush := hall (s.chan c).queue s 0 rfl hstay howes
  rw [Nat.zero_add] at hflush
  exact hflush

end

theorem State.strayTo_none {s : State} {c : Chan} {e : Entry}
    (h : ∀ slot unit k, e.addr = .crew slot unit → e.orphan = false → s.crew? slot = some k → k.current = c) : s.strayTo c e = none := by
  rw [State.strayTo]
  split
  · rfl
  next horphan =>
    cases haddr : e.addr with
    | group sel m => rfl
    | crew slot unit =>
      cases hk : s.crew? slot with
      | none => simp [Addr.slot?, hk]
      | some k => simp [Addr.slot?, hk, h slot unit k haddr (Bool.not_eq_true _ ▸ horphan) hk]

/-! ### A channel restarted (R158) -/

section
variable (s : State) (c : Chan)

theorem State.console_chan_of_settled {s t : State} {x : Xfer} {work : State → Reply} {r : Status × List Byte}
    (hw : work (s.atRequest x) = (t, r)) (hsettled : t.signals = []) (c : Chan) :
    ((s.console x work).chan c).queue = (t.chan c).queue := by
  rw [State.console_eq, hw, State.settle_queue, State.respond_chan, State.giveSignals_none hsettled]

/-- A channel torn down, its queue flushed and its mailbox emptied, in DOWN (R158, R159). -/
def State.restarted : State :=
  let old := (s.chan c).state
  let s1 := (((((s.abandon c).modChan c Channel.offAir).flush c).1.muteSignal c).modChan c fun ch => { ch with mailbox := [] }).enterDown c
  if old = .down then s1 else s1.post (.channelState c old .down .request)

/-- A channel in DOWN by a restart. -/
def Channel.restarted (failover : Nat) (ch : Channel) : Channel :=
  { ch.offAir with
    state := .down, attempt := if ch.queue.any (·.inFlight) then none else ch.attempt
    failover := some failover, mailbox := [] }

theorem State.modChan_self : s.modChan c (fun ch => ch) = s := by
  simp only [State.modChan, Four.set_get]

theorem State.abandon_frame_any : (s.abandon c).frame
    = (s.modChan c fun ch => { ch with attempt := if ch.queue.any (·.inFlight) then none else ch.attempt }).frame := by
  rw [State.abandon_frame]
  cases hf : s.flying c with
  | none =>
    refine Eq.trans ?_ (s.modChan_frame_ext (f := fun ch => ch) (g := fun ch => _) c (by rw [State.any_inFlight_of_none hf]; rfl))
    rw [State.modChan_self]
    rfl
  | some e => exact s.modChan_frame_ext (f := fun ch => _) (g := fun ch => _) c (by rw [State.any_inFlight_of_flying hf]; rfl)

theorem State.restarted_frame : (s.restarted c).frame = (s.modChan c (Channel.restarted s.params.failoverTime)).frame := by
  let u := (((s.abandon c).modChan c Channel.offAir).flush c).1.muteSignal c
  have hu : u.frame = ((s.modChan c fun ch => { ch with attempt := if ch.queue.any (·.inFlight) then none else ch.attempt }).modChan c
      Channel.offAir).frame :=
    (State.flush_frame _ c).trans (State.modChan_frame_congr (s.abandon_frame_any c) c fun _ => rfl)
  have hparams : u.params = s.params := (congrArg State.params hu :)
  have hdown : ((u.modChan c fun ch => { ch with mailbox := [] }).enterDown c).frame
      = (s.modChan c (Channel.restarted s.params.failoverTime)).frame := by
    rw [State.enterDown, State.modChan_modChan, State.modChan_params, hparams, State.modChan_frame_congr hu c fun _ => rfl,
      State.modChan_modChan, State.modChan_modChan]
    rfl
  rw [State.restarted]
  split
  · exact hdown
  · exact (State.post_frame _ _).trans hdown

/-- A channel restarted keeps the queue that the flush leaves. -/
theorem State.restarted_sameQueues : ((((s.abandon c).modChan c Channel.offAir).flush c).1.muteSignal c).SameQueues (s.restarted c) := by
  have hdown (u : State) : u.SameQueues ((u.modChan c fun ch => { ch with mailbox := [] }).enterDown c) :=
    (State.sameQueues_modChan (f := fun ch => { ch with mailbox := [] }) fun _ => rfl).trans
      (State.sameQueues_modChan (f := fun ch => { ch with state := .down, failover := _, txFrame := [] }) fun _ => rfl)
  rw [State.restarted]
  split
  · exact hdown _
  · exact (hdown _).trans (State.sameQueues_post _)

theorem State.abandon_of_none {s : State} {c : Chan} (h : s.flying c = none) : s.abandon c = s := by
  rw [State.abandon, h]

/-- The flush of a channel off the air on which nothing flies and no entry strays (R177). -/
theorem State.flush_offAir {s : State} {c : Chan} {f : Channel → Channel} (hf : ∀ ch, (f ch).queue = ch.queue) (hsignals : s.signals = [])
    (hstay : ∀ e ∈ (s.chan c).queue, s.Stays c e) :
    ((s.modChan c f).flush c).2 = (s.chan c).queue.length ∧ (((s.modChan c f).flush c).1.chan c).queue = []
      ∧ ((s.modChan c f).flush c).1.OwesAtMost c := by
  have hqueue : ((s.modChan c f).chan c).queue = (s.chan c).queue := by rw [State.modChan_chan_same, hf]
  rw [← hqueue]
  exact State.flush_of_stays (fun e he => hstay e (hqueue ▸ he)) (.inl hsignals)

/-- A channel restarted, on to IDLE where READY is active. -/
theorem State.restarted_up_frame : ((s.restarted c).comeUp c).frame = (s.modChan c fun ch =>
    { ch with
      state := if ch.ready then .idle else .down
      attempt := if ch.queue.any (·.inFlight) then none else ch.attempt, replyWindow := none
      repeatWait := none, origin := none
      failover := if ch.ready then none else some s.params.failoverTime
      failback := if ch.ready then some s.params.failoverTime else none, afterAnswer := none, assembly := none
      txFrame := [], mailbox := [], ranOut := false }).frame := by
  have hready : ((s.restarted c).chan c).ready = (s.chan c).ready := by
    refine (congrArg Channel.ready (State.chan_frame_of_frame (s.restarted_frame c) c)).trans ?_
    rw [State.modChan_chan_same]
    rfl
  have hparams : (s.restarted c).params = s.params := (congrArg State.params (s.restarted_frame c) :)
  cases hup : (s.chan c).ready with
  | false =>
    rw [State.comeUp_of_not_ready (hready.trans hup), State.restarted_frame]
    exact s.modChan_frame_ext (f := Channel.restarted _) (g := fun ch => _) c
      (by simp [Channel.restarted, Channel.offAir, Channel.frame, hup])
  | true =>
    rw [State.comeUp_of_ready (hready.trans hup), State.enterIdleFromDown_frame, hparams,
      State.modChan_frame_congr (s.restarted_frame c) c fun _ => rfl, State.modChan_modChan]
    exact s.modChan_frame_ext (f := fun ch => _) (g := fun ch => _) c
      (by simp [Channel.restarted, Channel.offAir, Channel.frame, hup])

theorem askRestartChannel_of {s : State} {b : Byte} {c : Chan} (hb : b.toNat = c.val) (hon : (s.chan c).state ≠ .off) :
    askRestartChannel [b] s
      = ((s.restarted c).comeUp c, .ok, u8 (((s.abandon c).modChan c Channel.offAir).flush c).2) :=
  (State.onChannel_of_chan _ hb).trans (if_neg hon)

end

/-- Settles O46. -/
theorem restartChannelRestarts : Obligations.RestartChannelRestarts := by
  intro x b c s hb
  refine ⟨fun hoff => refuses_of_refuse rfl ((State.onChannel_of_chan _ hb).trans (if_pos hoff)), fun hon => ?_⟩
  have hask := askRestartChannel_of (s := s.atRequest x) hb hon
  have hready : (((s.atRequest x).restarted c).chan c).ready = (s.chan c).ready := by
    refine (congrArg Channel.ready (State.chan_frame_of_frame ((s.atRequest x).restarted_frame c) c)).trans ?_
    rw [State.modChan_chan_same]
    rfl
  have hframe := State.restarted_up_frame (s.atRequest x) c
  refine ⟨_, rfl, ⟨_, State.console_replied_of_frame (effect := s) hask ?_ (.inl rfl) rfl rfl rfl, fun hall => ?_⟩,
    State.console_alike hask hframe⟩
  · exact (State.shape_of_frame hframe).trans (State.modChan_shape _ _ _)
  · have hnone : (s.atRequest x).flying c = none := State.flying_eq_none_iff.2 fun e he => (hall e he).1
    obtain ⟨hcount, hempty, howes⟩ := State.flush_offAir (s := s.atRequest x) (f := Channel.offAir) (c := c) (fun _ => rfl) rfl fun e he =>
      ⟨State.strayTo_none (s := s.atRequest x) (hall e he).2.2, (hall e he).2.1⟩
    rw [State.abandon_of_none hnone]
    refine ⟨hcount, fun hdown => ?_⟩
    have hsame := (s.atRequest x).restarted_sameQueues c
    rw [State.abandon_of_none hnone] at hsame
    rw [State.comeUp_of_not_ready (hready.trans hdown)] at hask
    exact (State.console_chan_of_settled hask (hsame.1.trans howes.muted) c).trans ((hsame.2 c).trans hempty)

/-! ### A channel taken off (R157) -/

/-- A crew after the moves off a channel. -/
def Crew.afterMoves (c : Chan) (serves : Chan → Bool) (k : Crew) : Crew := if k.current = c then k.movedOff serves else k

theorem Crew.afterMoves_frame (c : Chan) (serves : Chan → Bool) (k : Crew) :
    (k.frame.afterMoves c serves).frame = (k.afterMoves c serves).frame := by
  rw [Crew.afterMoves, Crew.afterMoves]
  split
  · next h =>
    rw [if_pos (show k.current = c from h)]
    exact (k.movedOff serves).frame_frame
  · next h =>
    rw [if_neg (show ¬ k.current = c from h)]
    exact k.frame_frame

theorem State.moveOff_standing_of {s : State} (h : rising (s.crews.map (·.slot))) (c : Chan) (cause : MoveCause) (teardown : Bool)
    {n : Nat} {k : Crew} (hk : s.standing n = some k.frame) :
    (s.moveOff c cause teardown).standing n = some (k.afterMoves c s.inService).frame := by
  obtain ⟨k', hk', hframe⟩ := Option.map_eq_some_iff.1 hk
  have hslot : k'.slot = n := State.slot_of_crew? hk'
  have hstands := State.moveOff_standing h c cause teardown (tFind_some Crew.slot hk').2
  rw [hslot] at hstands
  rw [hstands, ← k.afterMoves_frame, ← hframe, k'.afterMoves_frame, Crew.afterMoves, apply_ite Crew.frame]

theorem State.moveOff_of_no_moves {s : State} (h : rising (s.crews.map (·.slot))) (c : Chan) (cause : MoveCause) (teardown : Bool)
    (hnone : ∀ k ∈ s.crews, k.current = c → k.other.any s.inService = false) : s.moveOff c cause teardown = s := by
  have hone : ∀ k ∈ s.crews, k.current = c → s.moveAway c cause teardown k.slot = s := by
    intro k hk hc
    cases hother : k.other with
    | none => exact State.moveAway_none (by rw [State.crew?_of_mem h hk]; exact hother)
    | some b =>
      have hout : ¬ s.inService b = true := Bool.eq_false_iff.1 (by have := hnone k hk hc; rwa [hother] at this)
      simp only [State.moveAway, State.crew?_of_mem h hk, Option.bind_some, hother]
      exact if_neg hout
  have hall : ∀ l : List Nat, (∀ n ∈ l, s.moveAway c cause teardown n = s) → l.foldl (State.moveAway c cause teardown) s = s := by
    intro l
    induction l with
    | nil => exact fun _ => rfl
    | cons n l ih =>
      intro hl
      rw [List.foldl_cons, hl n List.mem_cons_self]
      exact ih fun m hm => hl m (List.mem_cons_of_mem _ hm)
  rw [State.moveOff_eq]
  refine hall _ fun n hn => ?_
  obtain ⟨k, hk, rfl⟩ := List.mem_map.1 hn
  obtain ⟨hmem, hc⟩ := List.mem_filter.1 hk
  exact hone k hmem (by simpa using hc)

theorem State.migrateStrays_of_none {s : State} {c : Chan} (h : ∀ e ∈ (s.chan c).queue, s.strayTo c e = none) :
    s.migrateStrays c = s := by
  rw [State.migrateStrays]
  generalize (s.chan c).queue = l at h
  induction l with
  | nil => rfl
  | cons e l ih =>
    rw [List.foldl_cons, h e List.mem_cons_self]
    exact ih fun e' he' => h e' (List.mem_cons_of_mem _ he')

/-- How many crews stand on a channel, counted by slot. -/
theorem State.crewsOn_eq {s : State} (h : rising (s.crews.map (·.slot))) (c : Chan) :
    s.crewsOn c = (s.crews.map (·.slot)).countP fun n => (s.standing n).any fun k => k.current == c := by
  rw [State.crewsOn, ← List.countP_eq_length_filter, List.countP_map]
  refine List.countP_congr fun k hk => ?_
  rw [Function.comp_apply, State.standing_of_crew? (State.crew?_of_mem h hk)]
  rfl

section
variable (s : State) (c : Chan)

/-- A channel that has left the air for OFF. -/
def Channel.takenOff (ch : Channel) : Channel := { ch.offAir with state := .off, failover := none }

/-- A channel OFF, before its crews are moved (R157). -/
def State.off : State :=
  (((s.abandon c).modChan c Channel.takenOff).post (.channelState c (s.chan c).state .off .request)).muteSignal c

theorem State.takeOff_eq : s.takeOff c = ((s.off c).moveOff c .disable true).migrateStrays c := rfl

/-- A channel OFF with nothing under way. -/
def Channel.grounded (ch : Channel) : Channel :=
  { ch.takenOff with attempt := if ch.queue.any (·.inFlight) then none else ch.attempt }

theorem State.off_frame : (s.off c).frame = (s.modChan c Channel.grounded).frame := by
  rw [State.off, State.muteSignal]
  refine (State.post_frame _ _).trans ?_
  rw [State.modChan_frame_congr (s.abandon_frame_any c) c fun _ => rfl, State.modChan_modChan]
  rfl

theorem State.off_inService (d : Chan) : (s.off c).inService d = (decide (d ≠ c) && s.inService d) := by
  have hstate : ((s.off c).chan d).state = ((s.modChan c Channel.grounded).chan d).state :=
    (congrArg Channel.state (State.chan_frame_of_frame (s.off_frame c) d) :)
  rw [State.inService, hstate]
  by_cases hd : c = d
  · subst hd
    rw [State.modChan_chan_same]
    simp [Channel.grounded, Channel.takenOff, ChState.inService]
  · rw [State.modChan_chan_other _ _ hd]
    simp [State.inService, Ne.symm hd]

theorem State.off_slots : (s.off c).crews.map (·.slot) = s.crews.map (·.slot) := by
  have hcrews : (s.off c).crews.map Crew.frame = s.crews.map Crew.frame := (congrArg State.crews (s.off_frame c) :)
  have hslots := congrArg (List.map fun k : Crew => k.slot) hcrews
  rw [List.map_map, List.map_map] at hslots
  exact hslots

end

theorem State.takeOff_standing {s : State} (h : rising (s.crews.map (·.slot))) (c : Chan) {k : Crew} (hk : k ∈ s.crews) :
    (s.takeOff c).standing k.slot = some (k.afterMoves c (s.off c).inService).frame := by
  have hoff : (s.off c).standing k.slot = some k.frame :=
    ((State.standing_of_frame (s.off_frame c) _).trans (State.standing_of_crew? (State.crew?_of_mem h hk) :))
  rw [State.takeOff_eq, State.standing_of_frame (State.migrateStrays_frame _ _)]
  exact State.moveOff_standing_of (by rw [s.off_slots]; exact h) c .disable true hoff

theorem State.takeOff_slots (s : State) (c : Chan) : (s.takeOff c).crews.map (·.slot) = s.crews.map (·.slot) := by
  have hcrews : (s.takeOff c).frameMoves.crews = (s.off c).frameMoves.crews :=
    congrArg State.crews ((State.migrateStrays_frameMoves ..).trans (State.moveOff_frameMoves ..))
  have hslots := congrArg (List.map fun k : Crew => k.slot) hcrews
  simp only [State.frameMoves, List.map_map] at hslots
  exact Eq.trans hslots (s.off_slots c)

/-- A disable's moves: whether a crew goes, and where (R157). -/
def Crew.goes (c : Chan) (serves : Chan → Bool) (k : Crew) : Bool :=
  decide (k.current = c) && k.other.any fun b => decide (b ≠ c) && serves b

theorem Crew.afterMoves_current (c : Chan) (serves : Chan → Bool) (k : Crew) :
    (k.afterMoves c fun b => decide (b ≠ c) && serves b).current = if k.goes c serves then k.other.getD c else k.current := by
  by_cases hc : k.current = c
  · simp [Crew.afterMoves, Crew.movedOff, Crew.goes, hc]
  · simp [Crew.afterMoves, Crew.goes, hc]

theorem Crew.current_of_goes {c : Chan} {serves : Chan → Bool} {k : Crew} (h : k.goes c serves = true) :
    k.current = c ∧ k.other.getD c ≠ c := by
  rw [Crew.goes, Bool.and_eq_true] at h
  obtain ⟨hc, hany⟩ := h
  cases hother : k.other with
  | none => rw [hother] at hany; cases hany
  | some b =>
    rw [hother] at hany
    simp at hany
    exact ⟨of_decide_eq_true hc, hany.1⟩

/-- The crews that stand on a channel after its disable are those that do not go. -/
theorem State.crewsOn_takeOff {s : State} (h : rising (s.crews.map (·.slot))) (c : Chan) :
    s.crewsOn c - (s.takeOff c).crewsOn c = (s.crews.filter (Crew.goes c s.inService)).length := by
  have hserves : (s.off c).inService = fun b => decide (b ≠ c) && s.inService b := funext (s.off_inService c)
  have hleft : (s.takeOff c).crewsOn c = s.crews.countP fun k => k.current == c && !k.goes c s.inService := by
    rw [State.crewsOn_eq (by rw [s.takeOff_slots]; exact h), s.takeOff_slots, List.countP_map]
    refine List.countP_congr fun k hk => ?_
    rw [Function.comp_apply, State.takeOff_standing h c hk, hserves]
    show ((k.afterMoves c _).current == c) = true ↔ _
    rw [Crew.afterMoves_current]
    cases hgoes : k.goes c s.inService with
    | false => simp
    | true => simp [(Crew.current_of_goes hgoes).2]
  have hsplit : s.crews.countP (fun k => k.current == c)
      = s.crews.countP (fun k => k.current == c && !k.goes c s.inService) + s.crews.countP (Crew.goes c s.inService) := by
    rw [List.countP_eq_countP_filter_add _ _ (fun k : Crew => k.goes c s.inService), Nat.add_comm, List.countP_filter, List.countP_filter]
    refine congrArg₂ (· + ·) rfl (List.countP_congr fun k _ => ?_)
    cases hgoes : k.goes c s.inService with
    | false => simp
    | true => simp [(Crew.current_of_goes hgoes).1]
  rw [hleft, State.crewsOn, ← List.countP_eq_length_filter, ← List.countP_eq_length_filter, hsplit, Nat.add_sub_cancel_left]

theorem askDisableChannel_of {s : State} {b : Byte} {c : Chan} (hb : b.toNat = c.val) (hon : (s.chan c).state ≠ .off) :
    askDisableChannel [b] s = (((s.takeOff c).flush c).1.muteSignal c, .ok,
      u8 (s.crewsOn c - (s.takeOff c).crewsOn c) ++ u8 ((s.takeOff c).flush c).2) :=
  (State.onChannel_of_chan _ hb).trans (if_neg hon)

theorem State.console_standing {s t : State} {x : Xfer} {work : State → Reply} {r : Status × List Byte}
    (hw : work (s.atRequest x) = (t, r)) (n : Nat) : (s.console x work).standing n = t.standing n := State.console_crew? hw n

theorem State.console_air {s t : State} {x : Xfer} {work : State → Reply} {r : Status × List Byte}
    (hw : work (s.atRequest x) = (t, r)) (c : Chan) : ((s.console x work).chan c).air = (t.chan c).air := by
  rw [State.console_eq, hw, State.settle_air, State.respond_chan]
  exact State.air_of_airs (State.airs_of_frame (State.giveSignals_frame _)) c

section
variable {s : State} {c : Chan} (hflying : s.flying c = none)
include hflying

theorem State.off_crews : (s.off c).crews = s.crews := by
  rw [State.off, State.abandon_of_none hflying]
  exact State.post_crews _ _

theorem State.off_strayTo (e : Entry) : (s.off c).strayTo c e = s.strayTo c e := by
  have hcrew : (s.off c).crew? = s.crew? := congrArg (fun l n => tFind Crew.slot n l) (State.off_crews hflying)
  rw [State.strayTo, hcrew]
  rfl

theorem State.off_sameQueues (hsignals : s.signals = []) : s.SameQueues (s.off c) := by
  rw [State.off, State.abandon_of_none hflying]
  obtain ⟨-, hqueues⟩ := (State.sameQueues_modChan (s := s) (c := c) (f := Channel.takenOff) fun _ => rfl).trans
    (State.sameQueues_post (.channelState c (s.chan c).state .off .request))
  refine ⟨?_, hqueues⟩
  rw [State.muteSignal, State.withSignals_signals, State.post_signals, State.modChan_signals, hsignals]
  rfl

end

/-- A channel taken off from which no crew goes (R157). -/
theorem State.takeOff_of_no_moves {s : State} {c : Chan} (h : rising (s.crews.map (·.slot))) (hflying : s.flying c = none)
    (hgoes : ∀ k ∈ s.crews, k.goes c s.inService = false) (hstray : ∀ e ∈ (s.chan c).queue, s.strayTo c e = none) :
    s.takeOff c = s.off c := by
  have hcrews := State.off_crews hflying
  have hqueue : ((s.off c).chan c).queue = (s.chan c).queue := by
    rw [State.off, State.abandon_of_none hflying, State.muteSignal, State.withSignals_chan, State.post_chan, State.modChan_chan_same]
    rfl
  have hstill : (s.off c).moveOff c .disable true = s.off c := by
    refine State.moveOff_of_no_moves (by rw [s.off_slots]; exact h) c .disable true fun k hk hc => ?_
    have hstays := hgoes k (hcrews ▸ hk)
    rw [Crew.goes, hc, decide_eq_true (rfl : c = c), Bool.true_and] at hstays
    rw [funext (s.off_inService c)]
    exact hstays
  rw [State.takeOff_eq, hstill]
  refine State.migrateStrays_of_none fun e he => ?_
  rw [State.off_strayTo hflying]
  exact hstray e (hqueue ▸ he)

/-- Settles O45. -/
theorem disableChannelTakesOff : Obligations.DisableChannelTakesOff := by
  intro x b c s hs hb other moves
  have hslots : rising (s.crews.map (·.slot)) := hs.tables.1.1
  refine ⟨fun hoff => refuses_of_refuse rfl ((State.onChannel_of_chan _ hb).trans (if_pos hoff)), fun hon => ?_⟩
  have hask := askDisableChannel_of (s := s.atRequest x) hb hon
  rw [State.crewsOn_takeOff (s := s.atRequest x) hslots] at hask
  have hflushed : (((s.atRequest x).takeOff c).flush c).1.frame = ((s.atRequest x).takeOff c).frame := State.flush_frame _ _
  have hserves : ((s.atRequest x).off c).inService = fun b => decide (b ≠ c) && s.inService b := funext ((s.atRequest x).off_inService c)
  refine ⟨_, rfl, ⟨_, State.console_replied_of_frame (effect := s) hask ?_ (.inl rfl) rfl rfl rfl, fun hnone hall => ?_⟩,
    fun k hk => ?_, ?_, State.console_alikeButMoves hask ?_⟩
  · refine Eq.trans (b := (((s.atRequest x).takeOff c).flush c).1.shape) rfl ?_
    rw [State.flush_shape, State.takeOff_eq, State.migrateStrays_shape, State.moveOff_shape,
      State.shape_of_frame ((s.atRequest x).off_frame c)]
    exact State.modChan_shape _ _ _
  · have hflying : (s.atRequest x).flying c = none := State.flying_eq_none_iff.2 fun e he => (hall e he).1
    have hhome : ∀ e ∈ (s.chan c).queue, (s.atRequest x).strayTo c e = none := fun e he => State.strayTo_none (s := s.atRequest x) (hall e he).2.2
    have hsame : (s.atRequest x).SameQueues ((s.atRequest x).takeOff c) := by
      rw [State.takeOff_of_no_moves (s := s.atRequest x) hslots hflying hnone hhome]
      exact (s.atRequest x).off_sameQueues hflying rfl
    have hstays : ∀ e ∈ (((s.atRequest x).takeOff c).chan c).queue, ((s.atRequest x).takeOff c).Stays c e := fun e he => by
      rw [hsame.2] at he
      refine ⟨?_, (hall e he).2.1⟩
      rw [State.takeOff_of_no_moves (s := s.atRequest x) hslots hflying hnone hhome, State.off_strayTo hflying]
      exact hhome e he
    obtain ⟨hcount, hempty, howes⟩ := State.flush_of_stays hstays (.inl hsame.1)
    exact ⟨hcount.trans (congrArg List.length (hsame.2 c)), (State.console_chan_of_settled hask howes.muted c).trans hempty⟩
  · have hstands : (s.console x (askDisableChannel [b])).standing k.slot = _ :=
      (State.console_standing hask _).trans ((State.standing_of_frame hflushed _).trans (State.takeOff_standing (s := s.atRequest x) hslots c hk))
    rw [State.current_of_standing hstands, hserves, Crew.afterMoves_current]
    rfl
  · have hset : ((s.console x (askDisableChannel [b])).chan c).frame.alarmSet = _ := (congrArg Channel.alarmSet (State.console_air hask c) :)
    have hout : ((s.atRequest x).off c).inService c = false := by
      rw [hserves]
      simp
    have hmoved : (((s.atRequest x).takeOff c).chan c).frame = (((s.atRequest x).off c).chan c).frame :=
      (State.chan_frame_of_frame (State.migrateStrays_frame _ _) c).trans (State.moveOff_chan .disable true hout)
    have hoff : (((s.atRequest x).off c).chan c).frame.alarmSet = (s.chan c).alarmSet := by
      rw [State.chan_frame_of_frame ((s.atRequest x).off_frame c) c, State.modChan_chan_same]
      rfl
    exact hset.trans (((congrArg Channel.alarmSet ((State.chan_frame_of_frame hflushed c).trans hmoved) :)).trans hoff)
  · refine (State.flush_frameMoves _ _).trans ((State.migrateStrays_frameMoves ..).trans ((State.moveOff_frameMoves ..).trans ?_))
    exact State.frameMoves_of_frame ((s.atRequest x).off_frame c)


end Sys2Proof.Machine
end

section
/-!
The sign-off of a crew (R7, R8, R9).
-/

namespace Sys2Proof.Machine
/-! ### The stages of a sign-off (R8) -/

/-- What a sign-off leaves as it is until its alarms leave their sets. -/
def State.lasting (s : State) : List Permit × List Device × Params × Word32 × List AlarmRef × Four (List AlarmRef) × (Nat → Option Nat) :=
  (s.permits.map Permit.frame, s.devices, s.params, s.clock, s.alarmOrder, s.chans.map Channel.alarmSet,
    fun badge => (s.worker? badge).map (·.crew))

theorem State.worker?_crew_of_frame {s t : State} (h : t.frame = s.frame) (badge : Nat) :
    (t.worker? badge).map (·.crew) = (s.worker? badge).map (·.crew) := by
  have hone (u : State) : (u.worker? badge).map (·.crew) = (tFind Worker.badge badge u.frame.workers).map (·.crew) := by
    refine Eq.trans ?_ (congrArg (Option.map fun w : Worker => w.crew)
      (tFind_map_of Worker.badge badge Worker.frame u.workers fun _ => rfl)).symm
    rw [Option.map_map]
    rfl
  rw [hone, hone, h]

theorem State.lasting_of_frame {s t : State} (h : t.frame = s.frame) : t.lasting = s.lasting := by
  have hsets : t.chans.map Channel.alarmSet = s.chans.map Channel.alarmSet := by
    have hchans : t.chans.map Channel.frame = s.chans.map Channel.frame := congrArg State.chans h
    have hmap := congrArg (Four.map Channel.alarmSet) hchans
    rw [Four.map_map, Four.map_map] at hmap
    exact hmap
  simp only [State.lasting, Prod.mk.injEq]
  exact ⟨(congrArg State.permits h :), (congrArg State.devices h :), (congrArg State.params h :), (congrArg State.clock h :),
    (congrArg State.alarmOrder h :), hsets, funext (State.worker?_crew_of_frame h)⟩

/-- One state differs from another in orders and notices alone. -/
def State.OnlyOrders (t u : State) : Prop := u = { t with orders := u.orders, notices := u.notices, overflow := u.overflow }

theorem State.OnlyOrders.trans {s t u : State} (h : s.OnlyOrders t) (h' : t.OnlyOrders u) : s.OnlyOrders u := by
  unfold State.OnlyOrders at *
  rw [h', h]

theorem State.onlyOrders_post (s : State) (n : Subject) : s.OnlyOrders (s.post n) := by
  unfold State.OnlyOrders State.post
  split
  · rfl
  · split
    · split <;> rfl
    · rfl

/-- An order of a queue made OPEN (R8 step 1). -/
def State.reopen (t : State) (n : Nat) : State :=
  (t.modOrder n fun o => o.signedOff true).post (.orderState n none .assigned .opened none)

section
variable (s : State) (k : Crew)

theorem State.onlyOrders_reopened (l : List Nat) : s.OnlyOrders (l.foldl State.reopen s) :=
  List.foldlRecOn (motive := s.OnlyOrders) _ _ rfl fun t ht n _ =>
    ht.trans ((show t.OnlyOrders (t.modOrder n fun o => o.signedOff true) from rfl).trans (State.onlyOrders_post _ _))

theorem State.offOrders_crews : (s.offOrders k).crews = (s.modCrew k.slot fun k => { k with queue := [], waitingFor := none }).crews := by
  have h : s.OnlyOrders (k.queue.foldl State.reopen s) := s.onlyOrders_reopened _
  have hcrews : (k.queue.foldl State.reopen s).crews = s.crews := by rw [h]
  exact congrArg (tMod Crew.slot k.slot fun k : Crew => { k with queue := [], waitingFor := none }) hcrews

theorem State.offOrders_workers : (s.offOrders k).workers = s.workers := by
  have h : s.OnlyOrders (k.queue.foldl State.reopen s) := s.onlyOrders_reopened _
  exact Eq.trans (b := (k.queue.foldl State.reopen s).workers) rfl (by rw [h])

theorem State.offOrders_chans : (s.offOrders k).chans = s.chans := by
  have h : s.OnlyOrders (k.queue.foldl State.reopen s) := s.onlyOrders_reopened _
  exact Eq.trans (b := (k.queue.foldl State.reopen s).chans) rfl (by rw [h])

theorem State.offOrders_lasting : (s.offOrders k).lasting = s.lasting := by
  have h : s.OnlyOrders (k.queue.foldl State.reopen s) := s.onlyOrders_reopened _
  exact Eq.trans (b := (k.queue.foldl State.reopen s).lasting) rfl (by rw [h]; rfl)

/-- An order as the stages of a sign-off leave it: its state, its crew and its deferral. -/
def Order.place (o : Order) : OrderState × Option Nat × Option Deferral := (o.state, o.crew, o.deferral)

/-- Every order of the queue is OPEN with no crew once the queue is emptied. -/
theorem State.reopened_order? {l : List Nat} {n : Nat} (hn : n ∈ l) (hsome : (s.order? n).isSome) :
    ((l.foldl State.reopen s).order? n).map Order.place = some (.opened, none, none) := by
  have hmod (t : State) (m : Nat) (f : Order → Order) (hf : ∀ o, (f o).number = o.number) :
      (t.modOrder m f).order? n = (t.order? n).map fun o => if n = m then f o else o := by
    by_cases hnm : n = m
    · subst hnm
      simp only [if_true]
      exact tFind_tMod_same Order.number n f t.orders hf
    · simp only [if_neg hnm, Option.map_id']
      exact tFind_tMod_other Order.number f t.orders hf hnm
  have hstep (t : State) (m : Nat) : (t.reopen m).order? n = (t.order? n).map fun o => if n = m then o.signedOff true else o := by
    refine Eq.trans ?_ (hmod t m (fun o => o.signedOff true) fun _ => rfl)
    exact congrArg (tFind Order.number n) (State.post_orders _ _)
  have hkeep : ∀ (l : List Nat) (t : State), (t.order? n).map Order.place = some (.opened, none, none) →
      ((l.foldl State.reopen t).order? n).map Order.place = some (.opened, none, none) := by
    intro l t ht
    refine List.foldlRecOn (motive := fun t : State => (t.order? n).map Order.place = some (.opened, none, none)) _ _ ht fun u hu m _ => ?_
    obtain ⟨o, ho, hplace⟩ := Option.map_eq_some_iff.1 hu
    rw [hstep, ho, Option.map_some, Option.map_some]
    split
    · rfl
    · exact congrArg some hplace
  induction l generalizing s with
  | nil => cases hn
  | cons m l ih =>
    rw [List.foldl_cons]
    by_cases hnm : n = m
    · refine hkeep l _ ?_
      obtain ⟨o, ho⟩ := Option.isSome_iff_exists.1 hsome
      rw [hstep, ho, Option.map_some, if_pos hnm]
      rfl
    · exact ih _ ((List.mem_cons.1 hn).resolve_left hnm) (by rw [hstep, Option.isSome_map]; exact hsome)

/-- No order is left to a crew that signs off. -/
theorem State.offOrders_free {o : Order} (ho : o ∈ (s.offOrders k).orders) : o.crew ≠ some k.slot := by
  obtain ⟨o', -, rfl⟩ := List.mem_map.1 ho
  split
  · nofun
  · assumption

theorem State.offOrders_order? {n : Nat} (hn : n ∈ k.queue) (hsome : (s.order? n).isSome) :
    ((s.offOrders k).order? n).map Order.place = some (.opened, none, none) := by
  have hfind : (s.offOrders k).order? n = ((k.queue.foldl State.reopen s).order? n).map
      fun o => if o.crew = some k.slot then o.signedOff false else o :=
    tFind_map_of Order.number n _ _ fun o => by split <;> rfl
  obtain ⟨o, ho, hplace⟩ := Option.map_eq_some_iff.1 (s.reopened_order? hn hsome)
  have hcrew : o.crew = none := congrArg (fun p => p.2.1) hplace
  rw [hfind, ho, Option.map_some, Option.map_some, if_neg (by rw [hcrew]; nofun), hplace]

theorem Permit.signedOff_frame (p : Permit) : p.signedOff.frame = p.frame := by
  simp [Permit.signedOff, Permit.frame, Option.map_map, Function.comp_def]

theorem State.offDeferrals_lasting : (s.offDeferrals k).lasting = s.lasting := by
  have hpermits : (s.offDeferrals k).permits.map Permit.frame = s.permits.map Permit.frame := by
    refine List.map_map.trans (List.map_congr_left fun p _ => ?_)
    rw [Function.comp_apply]
    split
    · exact p.signedOff_frame
    · rfl
  simp only [State.lasting, Prod.mk.injEq]
  refine ⟨hpermits, rfl, rfl, rfl, rfl, ?_, rfl⟩
  simp only [State.offDeferrals, State.modChans, Four.map_map]

theorem State.offDeferrals_queue (c : Chan) : ((s.offDeferrals k).chan c).queue = (s.chan c).queue := by
  rw [State.offDeferrals, State.modChans_chan]
  rfl

end

section
variable (s : State) (k : Crew)

/-- The records of the roster and the orders. -/
def State.recs (s : State) : List Crew × List Worker × List Order := (s.crews, s.workers, s.orders)

theorem OnlyChans.recs {s t : State} (h : OnlyChans s t) : t.recs = s.recs := by
  rw [h]
  rfl

theorem State.textResult_recs (c : Chan) (e : Entry) (r : TextOutcome) : (s.textResult c e r).recs = s.recs := by
  have hpost (n : Subject) : (s.post n).recs = s.recs := by simp [State.recs]
  rw [State.textResult]
  split
  · split <;> exact hpost _
  · rfl

theorem State.offEntries_recs : (s.offEntries k).recs = s.recs :=
  List.foldlRecOn (motive := fun t : State => t.recs = s.recs) (s.entriesOf k)
    (fun t e => t.textResult k.current e (.dropped .signedOff)) (s.withdrawOn_onlyChans k.current fun e => e.isFor k.slot).recs
    fun t ht e _ => (t.textResult_recs _ e _).trans ht

theorem State.offEntries_lasting : (s.offEntries k).lasting = s.lasting := by
  refine State.lasting_of_frame ((State.modEntries_frame _ _ _).trans ?_)
  rw [State.foldl_frame _ fun t e => t.textResult_frame _ e _, State.withdrawOn_frame]

theorem State.offEntries_queue (c : Chan) : ((s.offEntries k).chan c).queue
    = ((if k.current = c then (s.chan c).queue.filter fun e => !(!e.inFlight && e.isFor k.slot) else (s.chan c).queue).map
      fun e => if e.isFor k.slot then { e with orphan := true } else e) := by
  have hfold : (((s.entriesOf k).foldl (fun t e => t.textResult k.current e (.dropped .signedOff))
      (s.withdrawOn k.current fun e => e.isFor k.slot)).chan c).queue
        = ((s.withdrawOn k.current fun e => e.isFor k.slot).chan c).queue :=
    List.foldlRecOn (motive := fun t : State => (t.chan c).queue = ((s.withdrawOn k.current fun e => e.isFor k.slot).chan c).queue) _ _ rfl
      fun t ht e _ => ((State.sameQueues_textResult _ _ _).2 c).trans ht
  rw [State.offEntries]
  refine (congrArg Channel.queue (State.modChans_chan _ c _)).trans ?_
  rw [hfold, State.withdrawOn_queue]

/-- An entry for a crew that has signed off: an orphan, and on the crew's channel one that flies or was an orphan before. -/
def Entry.LeftBehind (old : List Entry) (slot : Nat) (current c : Chan) (e : Entry) : Prop :=
  e.addr.slot? = some slot → e.orphan = true ∧ (c = current → e.inFlight = true ∨ e ∈ old)

theorem State.offEntries_left {c : Chan} {e : Entry} (he : e ∈ ((s.offEntries k).chan c).queue) :
    e.LeftBehind (s.chan k.current).queue k.slot k.current c := by
  intro hslot
  rw [State.offEntries_queue] at he
  obtain ⟨e', he', rfl⟩ := List.mem_map.1 he
  by_cases hfor : e'.isFor k.slot = true
  · rw [if_pos hfor]
    refine ⟨rfl, fun hc => .inl ?_⟩
    rw [if_pos hc.symm] at he'
    have hstay := (List.mem_filter.1 he').2
    rw [hfor, Bool.and_true, Bool.not_not] at hstay
    exact hstay
  · rw [if_neg hfor] at hslot ⊢
    refine ⟨?_, fun hc => .inr ?_⟩
    · rw [Entry.isFor, hslot, beq_self_eq_true, Bool.true_and] at hfor
      simpa using hfor
    · rw [if_pos hc.symm] at he'
      exact hc ▸ List.mem_of_mem_filter he'

/-- A watch ended by its crew's sign-off. -/
def State.endWatch (slot : Nat) (t : State) (badge : Nat) : State :=
  match t.worker? badge with
  | none => t
  | some w =>
    if w.watch = .off then t
    else (t.modWorker badge Worker.stopped).post (.watchState badge slot w.watch .off .member)

theorem State.endWatch_kept (slot badge : Nat) : (s.endWatch slot badge).lasting = s.lasting
    ∧ (s.endWatch slot badge).crews = s.crews ∧ (s.endWatch slot badge).orders = s.orders ∧ s.SameQueues (s.endWatch slot badge) := by
  rw [State.endWatch]
  split
  · exact ⟨rfl, rfl, rfl, rfl, fun _ => rfl⟩
  · split
    · exact ⟨rfl, rfl, rfl, rfl, fun _ => rfl⟩
    · refine ⟨(State.lasting_of_frame (State.post_frame _ _)).trans ?_, State.post_crews _ _, State.post_orders _ _,
        State.sameQueues_post (s := s.modWorker badge Worker.stopped) _⟩
      have hroll (n : Nat) : ((s.modWorker badge Worker.stopped).worker? n).map (·.crew) = (s.worker? n).map (·.crew) := by
        by_cases hn : n = badge
        · subst hn
          rw [State.worker?, State.modWorker, tFind_tMod_same Worker.badge n Worker.stopped _ fun _ => rfl, Option.map_map]
          rfl
        · rw [State.worker?, State.modWorker, tFind_tMod_other Worker.badge Worker.stopped _ (fun _ => rfl) hn]
          rfl
      simp only [State.lasting, Prod.mk.injEq]
      exact ⟨rfl, rfl, rfl, rfl, rfl, rfl, funext hroll⟩

/-- The watches of a crew that signs off ended, its alarm with them. -/
def State.watchesEnded : State :=
  (k.members.foldl (State.endWatch k.slot) s).modCrew k.slot fun k => { k with alarm := .none, escal := none, escalated := false }

theorem State.offWatches_eq : s.offWatches k = ((s.watchesEnded k).alarmsOf k.slot).foldl State.leaveSets (s.watchesEnded k) := rfl

theorem State.watchesEnded_kept : (s.watchesEnded k).lasting = s.lasting
    ∧ (s.watchesEnded k).crews = (s.modCrew k.slot fun k => { k with alarm := .none, escal := none, escalated := false }).crews
    ∧ (s.watchesEnded k).orders = s.orders ∧ s.SameQueues (s.watchesEnded k) := by
  obtain ⟨hlasting, hcrews, horders, hqueues⟩ := List.foldlRecOn
    (motive := fun t : State => t.lasting = s.lasting ∧ t.crews = s.crews ∧ t.orders = s.orders ∧ s.SameQueues t) k.members
    (State.endWatch k.slot) ⟨rfl, rfl, rfl, rfl, fun _ => rfl⟩ fun t ⟨h1, h2, h3, h4⟩ badge _ => by
      obtain ⟨g1, g2, g3, g4⟩ := t.endWatch_kept k.slot badge
      exact ⟨g1.trans h1, g2.trans h2, g3.trans h3, h4.trans g4⟩
  exact ⟨hlasting, congrArg (tMod Crew.slot k.slot fun k : Crew => { k with alarm := .none, escal := none, escalated := false }) hcrews,
    horders, hqueues⟩

/-- What the alarms that leave their sets leave. -/
structure State.Unalarmed (s : State) (l : List AlarmRef) (t : State) : Prop where
  recs    : t.recs = s.recs
  permits : t.permits = s.permits
  devices : t.devices = s.devices
  params  : t.params = s.params
  clock   : t.clock = s.clock
  order   : t.alarmOrder = l.foldl List.erase s.alarmOrder
  sets    : ∀ c, (t.chan c).alarmSet = l.foldl List.erase (s.chan c).alarmSet
  queues  : ∀ c, (t.chan c).queue ⊆ (s.chan c).queue

theorem State.leaveSets_queue (a : AlarmRef) (c : Chan) : ((s.leaveSets a).chan c).queue ⊆ (s.chan c).queue := by
  have hmod : (s.modChans fun ch => { ch with alarmSet := ch.alarmSet.erase a }).chan c = _ := State.modChans_chan s c _
  have hbare : (((s.modChans fun ch => { ch with alarmSet := ch.alarmSet.erase a }).withAlarmOrder (s.alarmOrder.erase a)).chan c).queue
      = (s.chan c).queue := (congrArg Channel.queue hmod :)
  rw [State.leaveSets]
  refine List.foldlRecOn (motive := fun t : State => (t.chan c).queue ⊆ (s.chan c).queue) _ _ (hbare ▸ List.Subset.refl _) fun t ht d _ => ?_
  rw [State.settleCall]
  split
  · exact ht
  · rw [State.withdrawOn_queue]
    split
    · exact fun e he => ht (List.mem_of_mem_filter he)
    · exact ht

theorem State.leaveSets_unalarmed (l : List AlarmRef) : s.Unalarmed l (l.foldl State.leaveSets s) := by
  induction l generalizing s with
  | nil => exact ⟨rfl, rfl, rfl, rfl, rfl, rfl, fun _ => rfl, fun c => List.Subset.refl _⟩
  | cons a l ih =>
    have hone : OnlyChans ((s.modChans fun ch => { ch with alarmSet := ch.alarmSet.erase a }).withAlarmOrder (s.alarmOrder.erase a)) (s.leaveSets a) :=
      OnlyChans.foldl (fun t c => t.settleCall_onlyChans c) _ _
    have hset (c : Chan) : ((s.leaveSets a).chan c).alarmSet = (s.chan c).alarmSet.erase a := by
      have h := congrArg Channel.alarmSet (State.chan_frame_of_frame (s.leaveSets_frame a) c)
      refine Eq.trans h ?_
      exact congrArg Channel.alarmSet (State.modChans_chan s c _)
    obtain ⟨hrecs, hpermits, hdevices, hparams, hclock, horder, hsets, hqueues⟩ := ih (s.leaveSets a)
    refine ⟨hrecs.trans ?_, hpermits.trans ?_, hdevices.trans ?_, hparams.trans ?_, hclock.trans ?_, horder.trans ?_,
      fun c => (hsets c).trans ?_, fun c => List.Subset.trans (hqueues c) (s.leaveSets_queue a c)⟩
    · rw [hone]; rfl
    · rw [hone]; rfl
    · rw [hone]; rfl
    · rw [hone]; rfl
    · rw [hone]; rfl
    · rw [hone]; rfl
    · rw [hset]; rfl

end

/-! ### The sign-off (R7, R8, R9) -/

section
variable (s : State) (k : Crew)

/-- A crew signed off, its records still in the roster. -/
def State.tornDown : State := (((s.offOrders k).offDeferrals k).offEntries k).offWatches k

theorem State.signOffCrew_eq : s.signOffCrew k =
    { s.tornDown k with
      workers := (s.tornDown k).workers.filter fun w => w.crew != k.slot, crews := tDel Crew.slot k.slot (s.tornDown k).crews } := rfl

/-- The alarms of a crew, by order of entry. -/
theorem State.alarmsOf_of_lasting {s t : State} (h : t.lasting = s.lasting) (slot : Nat) :
    t.alarmsOf slot = s.alarmOrder.filter fun a => decide (s.alarmCrew a = some slot) := by
  simp only [State.lasting, Prod.mk.injEq] at h
  obtain ⟨-, -, -, -, horder, -, hroll⟩ := h
  rw [State.alarmsOf, horder]
  refine List.filter_congr fun a _ => ?_
  have hcrew : t.alarmCrew a = s.alarmCrew a := by
    cases a with
    | worker badge => exact congrFun hroll badge
    | crew n => rfl
  rw [hcrew]
  exact Bool.eq_iff_iff.2 (by simp)

theorem State.tornDown_lasting : ((((s.offOrders k).offDeferrals k).offEntries k).watchesEnded k).lasting = s.lasting := by
  obtain ⟨hlasting, -⟩ := State.watchesEnded_kept (((s.offOrders k).offDeferrals k).offEntries k) k
  rw [hlasting, State.offEntries_lasting, State.offDeferrals_lasting, State.offOrders_lasting]

/-- What a sign-off brings to the rest of the state. -/
structure State.TornDown (s : State) (k : Crew) (t : State) : Prop where
  crews   : ∀ j, j ≠ k.slot → t.crew? j = s.crew? j
  orders  : t.orders = (s.offOrders k).orders
  entries : ∀ c, ∀ e ∈ (t.chan c).queue, e.LeftBehind (s.chan k.current).queue k.slot k.current c
  permits : t.permits.map Permit.frame = s.permits.map Permit.frame
  devices : t.devices = s.devices
  params  : t.params = s.params
  clock   : t.clock = s.clock
  order   : t.alarmOrder = (s.alarmOrder.filter fun a => decide (s.alarmCrew a = some k.slot)).foldl List.erase s.alarmOrder
  sets    : ∀ c, (t.chan c).alarmSet
    = (s.alarmOrder.filter fun a => decide (s.alarmCrew a = some k.slot)).foldl List.erase (s.chan c).alarmSet

theorem State.tornDown_is : s.TornDown k (s.tornDown k) := by
  have hlast := s.tornDown_lasting k
  have halarms := State.alarmsOf_of_lasting hlast k.slot
  obtain ⟨-, hcrews, horders, hqueues⟩ := State.watchesEnded_kept (((s.offOrders k).offDeferrals k).offEntries k) k
  obtain ⟨hrecs, hpermits, hdevices, hparams, hclock, horder, hsets, hsub⟩ :=
    ((((s.offOrders k).offDeferrals k).offEntries k).watchesEnded k).leaveSets_unalarmed
      (s.alarmOrder.filter fun a => decide (s.alarmCrew a = some k.slot))
  have heq : s.tornDown k = (s.alarmOrder.filter fun a => decide (s.alarmCrew a = some k.slot)).foldl State.leaveSets
      ((((s.offOrders k).offDeferrals k).offEntries k).watchesEnded k) := by
    rw [State.tornDown, State.offWatches_eq, halarms]
  rw [heq]
  have hrecs' := State.offEntries_recs ((s.offOrders k).offDeferrals k) k
  simp only [State.recs, Prod.mk.injEq] at hrecs hrecs'
  simp only [State.lasting, Prod.mk.injEq] at hlast
  obtain ⟨lpermits, ldevices, lparams, lclock, lorder, lsets, -⟩ := hlast
  refine ⟨fun j hj => ?_, ?_, fun c e he => ?_, ?_, hdevices.trans ldevices, hparams.trans lparams, hclock.trans lclock,
    horder.trans (by rw [lorder]), fun c => (hsets c).trans ?_⟩
  · rw [State.crew?, hrecs.1, hcrews]
    refine (State.crew?_modCrew_other (s := ((s.offOrders k).offDeferrals k).offEntries k) (by intro; rfl) hj).trans ?_
    rw [State.crew?, hrecs'.1]
    refine (congrArg (tFind Crew.slot j) (s.offOrders_crews k)).trans ?_
    exact State.crew?_modCrew_other (s := s) (by intro; rfl) hj
  · exact hrecs.2.2.trans (horders.trans hrecs'.2.2)
  · have hleft := ((s.offOrders k).offDeferrals k).offEntries_left k ((hqueues.2 c) ▸ hsub c he)
    have hold : (((s.offOrders k).offDeferrals k).chan k.current).queue = (s.chan k.current).queue := by
      rw [State.offDeferrals_queue, State.chan, s.offOrders_chans k]
      rfl
    rwa [hold] at hleft
  · rw [hpermits]
    exact lpermits
  · have hget := congrArg (Four.get · c) lsets
    simp only [Four.get_map] at hget
    exact congrArg (List.foldl List.erase · _) hget

theorem State.signOffCrew_tornDown : s.TornDown k (s.signOffCrew k) := by
  obtain ⟨hcrews, horders, hentries, hpermits, hdevices, hparams, hclock, horder, hsets⟩ := s.tornDown_is k
  exact ⟨fun j hj => (tFind_tDel_other Crew.slot _ hj).trans (hcrews j hj), horders, hentries, hpermits, hdevices, hparams, hclock, horder, hsets⟩

theorem State.signOffCrew_crew? : (s.signOffCrew k).crew? k.slot = none := tFind_tDel_same Crew.slot _ _

theorem State.signOffCrew_workers {w : Worker} (hw : w ∈ (s.signOffCrew k).workers) : w.crew ≠ k.slot :=
  bne_iff_ne.1 (List.mem_filter.1 hw).2

theorem State.signOffCrew_shape : (s.signOffCrew k).shape =
    ({ s with workers := (s.signOffCrew k).workers, crews := (s.signOffCrew k).crews } : State).shape := by
  have hkept := ((((s.offOrders_keeps k).trans (State.offDeferrals_keeps _ k)).trans (State.offEntries_keeps _ k)).trans
    (State.offWatches_keeps _ k)).shape
  exact congrArg (fun h : Shape =>
    { h with slots := (s.signOffCrew k).crews.map Crew.slot, badges := (s.signOffCrew k).workers.map Worker.badge }) hkept

end

/-- What traffic keeps of a sign-off: no crew at the slot, its orders OPEN, its entries left behind. -/
structure State.SignedOff (slot : Nat) (opened : List Nat) (old : List Entry) (current : Chan) (t : State) : Prop where
  crew    : t.crew? slot = none
  orders  : ∀ n ∈ opened, (t.order? n).map Order.place = some (.opened, none, none)
  entries : ∀ c, ∀ e ∈ (t.chan c).queue, e.LeftBehind old slot current c

section
variable {slot : Nat} {opened : List Nat} {old : List Entry} {current : Chan} {s t : State}

/-- A change of the channels alone that brings no entry of the crew's. -/
theorem State.SignedOff.of_queues (h : s.SignedOff slot opened old current) (hcrews : t.crews = s.crews) (horders : t.orders = s.orders)
    (hq : ∀ c, ∀ e ∈ (t.chan c).queue, e ∈ (s.chan c).queue ∨ e.addr.slot? ≠ some slot) : t.SignedOff slot opened old current := by
  obtain ⟨hcrew, ho, he⟩ := h
  refine ⟨?_, fun n hn => ?_, fun c e hmem => ?_⟩
  · rw [State.crew?, hcrews]
    exact hcrew
  · rw [State.order?, horders]
    exact ho n hn
  · rcases hq c e hmem with hin | hother
    · exact he c e hin
    · exact fun hslot => absurd hslot hother

theorem State.SignedOff.modOrder (h : s.SignedOff slot opened old current) (n : Nat) {f : Order → Order} (hf : ∀ o, (f o).number = o.number)
    (hplace : ∀ o, o.state = .opened → (f o).place = o.place) : (s.modOrder n f).SignedOff slot opened old current := by
  refine ⟨h.crew, fun m hm => ?_, h.entries⟩
  obtain ⟨o, ho, hop⟩ := Option.map_eq_some_iff.1 (h.orders m hm)
  by_cases hmn : m = n
  · subst hmn
    rw [State.order?_modOrder hf ho, Option.map_some, hplace o (congrArg Prod.fst hop), hop]
  · rw [State.order?, State.modOrder, tFind_tMod_other Order.number f _ hf hmn]
    exact h.orders m hm

theorem State.SignedOff.modCrew (h : s.SignedOff slot opened old current) (n : Nat) {f : Crew → Crew} (hf : ∀ k, (f k).slot = k.slot) :
    (s.modCrew n f).SignedOff slot opened old current := by
  refine ⟨?_, h.orders, h.entries⟩
  rw [State.crew?, State.modCrew, tFind_tMod Crew.slot _ _ _ _ hf]
  exact congrArg (Option.map _) h.crew

theorem State.mem_modChan_queue {c d : Chan} {f : Channel → Channel} {e : Entry} (h : e ∈ ((s.modChan c f).chan d).queue) :
    e ∈ (s.chan d).queue ∨ e ∈ (f (s.chan d)).queue := by
  rw [State.modChan_chan] at h
  split at h
  · exact .inr h
  · exact .inl h

/-- Traffic keeps what a sign-off brought. -/
theorem signedOff_spared (slot : Nat) (opened : List Nat) (old : List Entry) (current : Chan) :
    Spares (fun _ => True) (State.SignedOff slot opened old current) where
  posted := posted_of_notices fun _ _ _ h => ⟨h.crew, h.orders, h.entries⟩
  quiet := fun _ _ _ _ h => ⟨h.crew, h.orders, h.entries⟩
  marks := fun s d f hf h => h.of_queues rfl rfl fun c e he => .inl <| (State.mem_modChan_queue he).elim id fun he => by
    rw [hf] at he
    exact he
  crew := fun s n f hf h => h.modCrew n fun k => by rw [hf]
  enter := fun s d x hfresh h => h.of_queues rfl rfl fun c e he => (State.mem_modChan_queue he).elim .inl fun he => by
    rcases mem_insertEntry.1 he with rfl | he
    · refine .inr fun haddr => ?_
      have hsome := hfresh.crew slot haddr
      rw [h.crew] at hsome
      cases hsome
    · exact .inl he
  leave := fun s d x _ _ _ _ h => h.of_queues rfl rfl fun c e he => .inl <| (State.mem_modChan_queue he).elim id fun he =>
    List.mem_of_mem_erase he
  drop := fun s d n _ h => h.of_queues rfl rfl fun c e he => .inl <| (State.mem_modChan_queue he).elim id fun he =>
    List.mem_of_mem_filter he
  order := fun s n st f _ hst hf h => by
    refine h.modOrder n (fun o => ?_) fun o ho => ?_
    · split
      next hs => rw [(hf o hs).1]
      next => rfl
    · have hno : ¬ o.state = st := by
        rw [ho]
        rintro rfl
        cases hst
      rw [if_neg hno]
  followUp := fun s n st _ h => h.modOrder n (fun _ => rfl) fun _ _ => rfl
  permit := fun _ _ _ _ _ h => ⟨h.crew, h.orders, h.entries⟩
  mark := fun _ _ _ h => ⟨h.crew, h.orders, h.entries⟩
  prompt := fun s n body st _ h => by
    unfold State.setPrompts
    split
    · exact ⟨h.crew, h.orders, h.entries⟩
    · exact h
  reorder := fun s n k m f _ _ _ _ hf h => h.modCrew n fun k => by rw [(hf k).1]
  respond := fun _ _ _ _ h => ⟨h.crew, h.orders, h.entries⟩
  settle := fun s h => h.of_queues rfl rfl fun c e he => .inl (by rwa [State.settle_queue] at he)
  headDue := fun _ _ _ _ _ _ _ _ _ _ => trivial
  followUpDue := fun _ _ _ _ _ _ _ => trivial
  permitDue := fun _ _ _ _ _ _ _ => trivial
  displaced := fun _ _ _ _ _ _ _ _ _ => trivial
  evicted := fun _ _ _ _ _ _ _ => ⟨fun _ _ => .inl trivial, fun _ _ => trivial, fun _ _ => trivial⟩

end

section
variable {s t : State} {x : Xfer} {work : State → Reply} {r : Status × List Byte} (hw : work (s.atRequest x) = (t, r))
include hw

theorem State.console_lasting : (s.console x work).lasting = t.lasting := by
  rw [State.console_eq, hw]
  refine Eq.trans ?_ (State.lasting_of_frame t.giveSignals_frame)
  simp only [State.lasting, Prod.mk.injEq]
  refine ⟨rfl, rfl, rfl, rfl, rfl, ?_, rfl⟩
  simp only [State.settle, State.modChans, Four.map_map]
  rfl

/-- Each worker after a request is one that its work left, but for prompts. -/
theorem State.console_worker_of {w : Worker} (h : w ∈ (s.console x work).workers) : ∃ w' ∈ t.workers, w'.frame = w.frame := by
  have hframe : (s.console x work).workers.map Worker.frame = t.workers.map Worker.frame := by
    rw [State.console_eq, hw]
    exact (congrArg State.workers t.giveSignals_frame :)
  exact List.mem_map.1 (hframe ▸ List.mem_map_of_mem h)

/-- Each order after a request is one that its work left, but for where its telegrams stand. -/
theorem State.console_order_of {o : Order} (h : o ∈ (s.console x work).orders) : ∃ o' ∈ t.orders, o'.frame = o.frame := by
  have hframe : (s.console x work).orders.map Order.frame = t.orders.map Order.frame := by
    rw [State.console_eq, hw]
    exact (congrArg State.orders t.giveSignals_frame :)
  exact List.mem_map.1 (hframe ▸ List.mem_map_of_mem h)

end

/-- Settles O17. -/
theorem signOffTearsDown : Obligations.SignOffTearsDown := by
  intro x b k s hslot hk
  have hkslot : k.slot = b.toNat := State.slot_of_crew? hk
  have hcrew : (s.atRequest x).crew? b.toNat = some k := hk
  have hrefused : ((s.permits.any fun p => p.holder == k.slot && p.state != .closed)
      ∨ k.queue.any fun n => (s.order? n).any fun o => o.state != .assigned) ↔
      (∃ p ∈ s.permits, p.holder = b.toNat ∧ p.state ≠ .closed)
        ∨ (∃ n ∈ k.queue, ∃ o, s.order? n = some o ∧ o.state ≠ .assigned) := by
    simp [hkslot, Option.any_eq_true]
  have hgo : askSignOff [b] (s.atRequest x) = _ := State.onCrew_of_crew? _ hslot hcrew
  refine ⟨fun hbusy => refuses_of_refuse rfl (hgo.trans (if_pos (hrefused.2 hbusy))), fun hclosed hidle => ?_⟩
  have hfree : ¬ ((∃ p ∈ s.permits, p.holder = b.toNat ∧ p.state ≠ .closed)
      ∨ ∃ n ∈ k.queue, ∃ o, s.order? n = some o ∧ o.state ≠ .assigned) := by
    rintro (⟨p, hp, hholder, hopen⟩ | ⟨n, hn, o, ho, hwork⟩)
    · exact hopen (hclosed p hp hholder)
    · exact hwork (hidle n hn o ho)
  have hask : askSignOff [b] (s.atRequest x) = ((s.atRequest x).signOffCrew k, .ok,
      u8 k.queue.length ++ u8 ((s.chan k.current).queue.filter fun e => !e.inFlight && e.isFor b.toNat).length) := by
    rw [← hkslot]
    exact hgo.trans (if_neg (mt hrefused.1 hfree))
  obtain ⟨hcrews, horders, hentries, hpermits, hdevices, hparams, hclock, horder, hsets⟩ := (s.atRequest x).signOffCrew_tornDown k
  have hgone := (s.atRequest x).signOffCrew_crew? k
  have hmembers := fun w hw => (s.atRequest x).signOffCrew_workers k (w := w) hw
  have hleft := fun o ho => (s.atRequest x).offOrders_free k (o := o) ho
  rw [hkslot] at hcrews hentries horder hsets hgone
  have hoff : (s.console x (askSignOff [b])).SignedOff b.toNat (k.queue.filter fun n => (s.order? n).isSome)
      (s.chan k.current).queue k.current := by
    refine (signedOff_spared ..).console ?_
    rw [hask]
    refine ⟨hgone, fun n hn => ?_, hentries⟩
    obtain ⟨hn, hsome⟩ := List.mem_filter.1 hn
    rw [State.order?, horders]
    exact (s.atRequest x).offOrders_order? k hn hsome
  have hlast : (s.console x (askSignOff [b])).lasting = ((s.atRequest x).signOffCrew k).lasting := State.console_lasting hask
  simp only [State.lasting, Prod.mk.injEq] at hlast
  obtain ⟨lpermits, ldevices, lparams, lclock, lorder, lsets, -⟩ := hlast
  refine ⟨_, rfl, State.console_replied_of_frame (effect := { s with workers := ((s.atRequest x).signOffCrew k).workers, crews := ((s.atRequest x).signOffCrew k).crews }) hask ?_ (.inl rfl) rfl rfl rfl, hoff.crew, fun j hj => ?_, fun w hw => ?_, fun o ho => ?_, fun n hn o ho => ?_,
    fun c e he haddr => (hoff.entries c e he haddr).1, fun e he haddr => (hoff.entries k.current e he haddr).2 rfl, ⟨?_, fun c => ?_⟩, ?_, ?_, ?_, ?_⟩
  · exact (s.atRequest x).signOffCrew_shape k
  · exact (State.console_standing hask j).trans (congrArg (Option.map Crew.frame) (hcrews j hj))
  · obtain ⟨w', hw', hframe⟩ := State.console_worker_of hask hw
    have hmember : w'.crew = w.crew := (congrArg Worker.crew hframe :)
    rw [← hmember, ← hkslot]
    exact hmembers w' hw'
  · obtain ⟨o', ho', hframe⟩ := State.console_order_of hask ho
    have hmember : o'.crew = o.crew := (congrArg Order.crew hframe :)
    rw [← hmember, ← hkslot]
    exact hleft o' (horders ▸ ho')
  · exact hoff.orders n (List.mem_filter.2 ⟨hn, by rw [ho]; rfl⟩)
  · exact lorder.trans horder
  · have hget := congrArg (Four.get · c) lsets
    simp only [Four.get_map] at hget
    exact hget.trans (hsets c)
  · exact lpermits.trans hpermits
  · exact ldevices.trans hdevices
  · exact lparams.trans hparams
  · exact lclock.trans hclock


end Sys2Proof.Machine
end

section
/-!
Where an assigned order stands, and the preemption it can bring (R24 to R26, R36): O21.
-/

namespace Sys2Proof.Machine
/-! ### Where an order is placed (R24, R25) -/

/-- Where an order stands between the orders before it and those behind, by the ordering of R24. -/
def PlacedBetween (rank : Nat → Nat × Nat) (m : Nat) (front back : List Nat) : Prop :=
  (∀ j ∈ front, ranksBefore (rank m) (rank j) = false) ∧ ∀ j, back.head? = some j → ranksBefore (rank m) (rank j) = true

theorem State.placeIn_split (s : State) (n : Nat) (l : List Nat) : ∃ front back, l = front ++ back ∧ s.placeIn n l = front ++ n :: back
    ∧ PlacedBetween s.rankOf n front back := by
  induction l with
  | nil => exact ⟨[], [], rfl, rfl, fun _ h => absurd h List.not_mem_nil, fun _ h => absurd h nofun⟩
  | cons m l ih =>
    rw [State.placeIn]
    split
    · next hbefore => exact ⟨[], m :: l, rfl, rfl, fun _ h => absurd h List.not_mem_nil, fun j hj => by cases hj; exact hbefore⟩
    · next hafter =>
      obtain ⟨front, back, hl, hplace, hfront, hback⟩ := ih
      refine ⟨m :: front, back, by rw [hl]; rfl, by rw [hplace]; rfl, fun j hj => ?_, hback⟩
      rcases List.mem_cons.1 hj with rfl | hj
      · exact Bool.eq_false_iff.2 hafter
      · exact hfront j hj

theorem State.order?_modOrder_other {s : State} {m n : Nat} {f : Order → Order} (hf : ∀ o, (f o).number = o.number) (hm : m ≠ n) :
    (s.modOrder n f).order? m = s.order? m := tFind_tMod_other Order.number f s.orders hf hm

/-- What ranks an order (R24). -/
def Order.rank (o : Order) : Nat × Nat := (o.priority.code, o.asgSeq.toNat)

theorem State.rankOf_eq (s : State) (n : Nat) : s.rankOf n = ((s.order? n).map Order.rank).getD (0, 0) := by
  rw [State.rankOf]
  cases s.order? n <;> rfl

theorem State.modOrder_rank {s : State} (m n : Nat) {f : Order → Order} (hf : ∀ o, (f o).number = o.number ∧ (f o).rank = o.rank) :
    (s.modOrder m f).rankOf n = s.rankOf n := by
  rw [State.rankOf_eq, State.rankOf_eq]
  refine congrArg (Option.getD · (0, 0)) ?_
  by_cases hn : n = m
  · subst hn
    rw [State.order?, State.modOrder, tFind_tMod_same Order.number n f _ fun o => (hf o).1, Option.map_map]
    exact congrArg (Option.map · _) (funext fun o => (hf o).2)
  · rw [State.order?_modOrder_other (fun o => (hf o).1) hn]

/-! ### A queue that keeps its order -/

/-- The priorities of the first two orders call for no preemption (R36). -/
def Calm (prio : Nat → Option Priority) (q : List Nat) : Prop :=
  ¬ ∃ h e rest ph pe, q = h :: e :: rest ∧ prio h = some ph ∧ prio e = some pe ∧ pe = .emergency ∧ ph ≠ .emergency

/-- The priorities of the orders. -/
def State.priority? (s : State) (n : Nat) : Option Priority := (s.order? n).map (·.priority)

/-- A crew's queue, and the priorities of the orders. -/
structure State.Lined (slot : Nat) (q : List Nat) (prio : Nat → Option Priority) (t : State) : Prop where
  queue : (t.crew? slot).map (·.queue) = some q
  prios : t.priority? = prio

section
variable {slot : Nat} {q : List Nat} {prio : Nat → Option Priority} {s t : State}

theorem State.Lined.still (h : s.Lined slot q prio) (hcalm : Calm prio q) {k : Crew} (hk : s.crew? slot = some k) :
    (s.emergencySecond k).isSome = false := by
  rw [Bool.eq_false_iff]
  intro hsecond
  have hq : k.queue = q := Option.some_inj.1 ((congrArg (Option.map _) hk).symm.trans h.queue)
  obtain ⟨m, e, rest, ph, pe, hqueue, hph, hpe, hprio⟩ := State.emergencySecond_isSome_iff.1 hsecond
  rw [← h.prios] at hcalm
  exact hcalm ⟨m, e, rest, ph, pe, hq ▸ hqueue, hph, hpe, hprio⟩

theorem State.Lined.modOrder (h : s.Lined slot q prio) (n : Nat) {f : Order → Order}
    (hf : ∀ o, (f o).number = o.number ∧ (f o).priority = o.priority) : (s.modOrder n f).Lined slot q prio :=
  ⟨h.queue, (funext fun m => State.modOrder_priority n m hf).trans h.prios⟩

theorem State.Lined.modCrew (h : s.Lined slot q prio) (n : Nat) {f : Crew → Crew}
    (hf : ∀ k, (f k).slot = k.slot ∧ (n = slot → (f k).queue = k.queue)) : (s.modCrew n f).Lined slot q prio := by
  refine ⟨?_, h.prios⟩
  obtain ⟨k, hk, hq⟩ := Option.map_eq_some_iff.1 h.queue
  by_cases hn : slot = n
  · subst hn
    rw [State.crew?_modCrew (fun k => (hf k).1) hk]
    exact congrArg some (((hf k).2 rfl).trans hq)
  · rw [State.crew?_modCrew_other (fun k => (hf k).1) hn]
    exact h.queue

/-- Traffic keeps a queue in its order where its first two orders call for no preemption. -/
theorem lined_spared (hcalm : Calm prio q) : Spares (fun _ => True) (State.Lined slot q prio) where
  posted := posted_of_notices fun _ _ _ h => ⟨h.queue, h.prios⟩
  quiet := fun _ _ _ _ h => ⟨h.queue, h.prios⟩
  marks := fun _ _ _ _ h => ⟨h.queue, h.prios⟩
  crew := fun s n f hf h => h.modCrew n fun k => by rw [hf]; exact ⟨rfl, fun _ => rfl⟩
  enter := fun _ _ _ _ h => ⟨h.queue, h.prios⟩
  leave := fun _ _ _ _ _ _ _ h => ⟨h.queue, h.prios⟩
  drop := fun _ _ _ _ h => ⟨h.queue, h.prios⟩
  order := fun s n st f _ _ hf h => h.modOrder n fun o => by
    split
    next hs => rw [(hf o hs).1]; exact ⟨rfl, rfl⟩
    next => exact ⟨rfl, rfl⟩
  followUp := fun s n _ _ h => h.modOrder n fun _ => ⟨rfl, rfl⟩
  permit := fun _ _ _ _ _ h => ⟨h.queue, h.prios⟩
  mark := fun _ _ _ h => ⟨h.queue, h.prios⟩
  prompt := fun s n body st _ h => by
    unfold State.setPrompts
    split
    · exact ⟨h.queue, h.prios⟩
    · exact h
  reorder := fun s n k m f hk _ hsecond _ hf h => h.modCrew n fun k' => by
    refine ⟨by rw [(hf k').1], fun hn => ?_⟩
    subst hn
    rw [h.still hcalm hk] at hsecond
    cases hsecond
  respond := fun _ _ _ _ h => ⟨h.queue, h.prios⟩
  settle := fun _ h => ⟨h.queue, h.prios⟩
  headDue := fun _ _ _ _ _ _ _ _ _ _ => trivial
  followUpDue := fun _ _ _ _ _ _ _ => trivial
  permitDue := fun _ _ _ _ _ _ _ => trivial
  displaced := fun _ _ _ _ _ _ _ _ _ => trivial
  evicted := fun _ _ _ _ _ _ _ => ⟨fun _ _ => .inl trivial, fun _ _ => trivial, fun _ _ => trivial⟩


/-- An order taken back to ASSIGNED with nothing under way. -/
def Order.rest (o : Order) : OrderState × Option Link × Option Deferral × Option Nat × Bool :=
  (o.state, o.link, o.deferral, o.acceptance, o.unanswered)

/-- An order that stands in ASSIGNED behind the head of its crew's queue, and in no other queue. -/
structure State.Rests (slot : Nat) (q : List Nat) (prio : Nat → Option Priority) (n : Nat) (withdrawn : Prop) (t : State) : Prop where
  lined  : t.Lined slot q prio
  record : (t.order? n).map Order.rest = some (.assigned, none, none, none, false)
  apart  : ∀ j k, j ≠ slot → t.crew? j = some k → n ∉ k.queue
  waits  : withdrawn → ∀ c, ∀ e ∈ (t.chan c).queue, e.owner = .order n → e.inFlight = true

section
variable {n : Nat} {withdrawn : Prop}

theorem State.Rests.of_queues (h : s.Rests slot q prio n withdrawn) (hcrews : t.crews = s.crews) (horders : t.orders = s.orders)
    (hq : ∀ c, ∀ e ∈ (t.chan c).queue, e ∈ (s.chan c).queue ∨ e.owner ≠ .order n) : t.Rests slot q prio n withdrawn := by
  have hcrew (j : Nat) : t.crew? j = s.crew? j := by rw [State.crew?, hcrews]; rfl
  have horder (j : Nat) : t.order? j = s.order? j := by rw [State.order?, horders]; rfl
  obtain ⟨⟨hqueue, hprios⟩, hrecord, hapart, hwaits⟩ := h
  refine ⟨⟨by rw [hcrew]; exact hqueue, ?_⟩, by rw [horder]; exact hrecord, fun j k hj hk => hapart j k hj (by rw [← hcrew]; exact hk),
    fun hw c e he howner => ?_⟩
  · rw [← hprios]
    exact funext fun j => congrArg _ (horder j)
  · exact (hq c e he).elim (fun hin => hwaits hw c e hin howner) fun hno => absurd howner hno

theorem State.Rests.modOrder (h : s.Rests slot q prio n withdrawn) (m : Nat) {f : Order → Order}
    (hf : ∀ o, (f o).number = o.number ∧ (f o).priority = o.priority) (hrest : m = n → ∀ o, (f o).rest = o.rest) :
    (s.modOrder m f).Rests slot q prio n withdrawn := by
  refine ⟨h.lined.modOrder m hf, ?_, h.apart, h.waits⟩
  by_cases hm : n = m
  · subst hm
    obtain ⟨o, ho, hr⟩ := Option.map_eq_some_iff.1 h.record
    rw [State.order?_modOrder (fun o => (hf o).1) ho, Option.map_some, hrest rfl, hr]
  · rw [State.order?_modOrder_other (fun o => (hf o).1) hm]
    exact h.record

theorem State.Rests.modCrew (h : s.Rests slot q prio n withdrawn) (m : Nat) {f : Crew → Crew}
    (hf : ∀ k, (f k).slot = k.slot ∧ (m = slot → (f k).queue = k.queue) ∧ (f k).queue.Perm k.queue) :
    (s.modCrew m f).Rests slot q prio n withdrawn := by
  refine ⟨h.lined.modCrew m fun k => ⟨(hf k).1, (hf k).2.1⟩, h.record, fun j k hj hk => ?_, h.waits⟩
  by_cases hm : j = m
  · subst hm
    cases hk' : s.crew? j with
    | none =>
      rw [State.crew?, State.modCrew, tFind_tMod_same Crew.slot j f _ fun k => (hf k).1] at hk
      rw [State.crew?] at hk'
      rw [hk'] at hk
      cases hk
    | some k' =>
      rw [State.crew?_modCrew (fun k => (hf k).1) hk'] at hk
      cases hk
      exact fun hmem => h.apart j k' hj hk' ((hf k').2.2.mem_iff.1 hmem)
  · rw [State.crew?_modCrew_other (fun k => (hf k).1) hm] at hk
    exact h.apart j k hj hk

theorem State.Rests.not_head (h : s.Rests slot q prio n withdrawn) (hhead : q.head? ≠ some n) {j : Nat} {k : Crew}
    (hk : s.crew? j = some k) : k.queue.head? ≠ some n := by
  by_cases hj : j = slot
  · subst hj
    have hq : k.queue = q := Option.some_inj.1 ((congrArg (Option.map _) hk).symm.trans h.lined.queue)
    rwa [hq]
  · exact fun hn => h.apart j k hj hk (List.mem_of_mem_head? hn)

/-- Traffic leaves an order that stands behind the head where it is. -/
theorem rests_spared (hcalm : Calm prio q) (hhead : q.head? ≠ some n) :
    Spares (· ≠ .order n) (State.Rests slot q prio n withdrawn) where
  posted := posted_of_notices fun _ _ _ h => h.of_queues rfl rfl fun _ _ he => .inl he
  quiet := fun _ _ _ _ h => h.of_queues rfl rfl fun _ _ he => .inl he
  marks := fun s d f hf h => h.of_queues rfl rfl fun c e he => .inl <| (State.mem_modChan_queue he).elim id fun he => by
    rw [hf] at he
    exact he
  crew := fun s m f hf h => h.modCrew m fun k => by rw [hf]; exact ⟨rfl, fun _ => rfl, .refl _⟩
  enter := fun s d x hfresh h => h.of_queues rfl rfl fun c e he => (State.mem_modChan_queue he).elim .inl fun he =>
    (mem_insertEntry.1 he).elim (fun heq => .inr (by rw [heq]; exact hfresh.owner)) .inl
  leave := fun s d x _ _ _ _ h => h.of_queues rfl rfl fun c e he => .inl <| (State.mem_modChan_queue he).elim id List.mem_of_mem_erase
  drop := fun s d m _ h => h.of_queues rfl rfl fun c e he => .inl <| (State.mem_modChan_queue he).elim id List.mem_of_mem_filter
  order := fun s m st f hmay _ hf h => h.modOrder m (fun o => by
    split
    next hs => rw [(hf o hs).1]; exact ⟨rfl, rfl⟩
    next => exact ⟨rfl, rfl⟩) fun hm => absurd (congrArg Owner.order hm) hmay
  followUp := fun s m _ _ h => h.modOrder m (fun _ => ⟨rfl, rfl⟩) fun _ _ => rfl
  permit := fun _ _ _ _ _ h => h.of_queues rfl rfl fun _ _ he => .inl he
  mark := fun _ _ _ h => h.of_queues rfl rfl fun _ _ he => .inl he
  prompt := fun s m body st _ h => by
    unfold State.setPrompts
    split
    · exact h.of_queues rfl rfl fun _ _ he => .inl he
    · exact h
  reorder := fun s m k x f hk _ hsecond _ hf h => h.modCrew m fun k' => by
    refine ⟨by rw [(hf k').1], fun hm => ?_, (hf k').2⟩
    subst hm
    rw [h.lined.still hcalm hk] at hsecond
    cases hsecond
  respond := fun _ _ _ _ h => h.of_queues rfl rfl fun _ _ he => .inl he
  settle := fun s h => h.of_queues rfl rfl fun c e he => .inl (by rwa [State.settle_queue] at he)
  headDue := fun s m k x o h hk hx _ _ hn => h.not_head hhead hk (by cases hn; exact hx)
  followUpDue := fun _ _ _ _ _ _ _ => nofun
  permitDue := fun _ _ _ _ _ _ _ => nofun
  displaced := fun s m k x e h hk hsecond _ hn => by
    obtain ⟨rest, hqueue, -⟩ := State.emergencySecond_eq hsecond
    refine h.not_head hhead hk ?_
    cases hn
    rw [hqueue]
    rfl
  evicted := fun s c e _ _ _ _ => by
    refine ⟨fun m howner => ?_, fun _ _ => nofun, fun _ hno => hno n⟩
    · by_cases hm : m = n
      · refine .inr fun t o ht ho hsent => ?_
        subst hm
        have hrecord := ht.record
        rw [ho, Option.map_some] at hrecord
        have hassigned : o.state = .assigned := congrArg Prod.fst (Option.some_inj.1 hrecord)
        rw [hsent] at hassigned
        cases hassigned
      · exact .inl fun h => hm (Owner.order.inj h)

end

end

/-! ### A head that has been sent (R36, R28) -/

/-- An ORDER telegram of SAFETY class. -/
def Entry.Urgent (n : Nat) (e : Entry) : Prop := e.owner = .order n ∧ e.cls = .safety ∧ e.kind = .order

theorem Entry.Urgent.not_weak {n : Nat} {e : Entry} (h : e.Urgent n) : ¬ (e.cls = .text ∨ e.cls = .order ∨ e.kind = .checkPrompt) := by
  obtain ⟨-, hcls, hkind⟩ := h
  rw [hcls, hkind]
  rintro (h | h | h) <;> cases h

/-- An EMERGENCY order SENT, its telegram waiting in a queue. -/
structure State.SentFirst (d : Chan) (n : Nat) (addr : Addr) (t : State) : Prop where
  record : ∃ o, t.order? n = some o ∧ o.state = .sent ∧ o.link = some .queued ∧ o.priority = .emergency
  firm   : ∀ c, ∀ e ∈ (t.chan c).queue, e.owner = .order n → e.inFlight = true ∨ e.Urgent n
  entry  : ∃ e ∈ (t.chan d).queue, e.Urgent n ∧ e.addr = addr ∧ e.inFlight = false

section
variable {d : Chan} {n : Nat} {addr : Addr} {s t : State}

theorem State.SentFirst.of_queues (h : s.SentFirst d n addr) (horders : t.orders = s.orders)
    (hq : ∀ c, ∀ e ∈ (t.chan c).queue, e ∈ (s.chan c).queue ∨ e.owner ≠ .order n)
    (hkeep : ∀ e ∈ (s.chan d).queue, e.Urgent n → e ∈ (t.chan d).queue) : t.SentFirst d n addr := by
  obtain ⟨hrecord, hfirm, e, he, hurgent, hrest⟩ := h
  refine ⟨by rw [State.order?, horders]; exact hrecord, fun c e he howner => ?_, e, hkeep e he hurgent, hurgent, hrest⟩
  exact (hq c e he).elim (fun hin => hfirm c e hin howner) fun hno => absurd howner hno

theorem State.SentFirst.modOrder (h : s.SentFirst d n addr) (m : Nat) {f : Order → Order} (hf : ∀ o, (f o).number = o.number)
    (hkeep : m = n → ∀ o, (f o).state = o.state ∧ (f o).link = o.link ∧ (f o).priority = o.priority) :
    (s.modOrder m f).SentFirst d n addr := by
  obtain ⟨o, ho, hstate, hlink, hprio⟩ := h.record
  refine ⟨?_, h.firm, h.entry⟩
  by_cases hm : n = m
  · subst hm
    obtain ⟨h1, h2, h3⟩ := hkeep rfl o
    exact ⟨f o, State.order?_modOrder hf ho, h1.trans hstate, h2.trans hlink, h3.trans hprio⟩
  · refine ⟨o, ?_, hstate, hlink, hprio⟩
    rw [State.order?_modOrder_other hf hm]
    exact ho

theorem sentFirst_spared (d : Chan) (n : Nat) (addr : Addr) : Spares (· ≠ .order n) (State.SentFirst d n addr) where
  posted := posted_of_notices fun _ _ _ h => h.of_queues rfl (fun _ _ he => .inl he) fun _ he _ => he
  quiet := fun _ _ _ _ h => h.of_queues rfl (fun _ _ he => .inl he) fun _ he _ => he
  marks := fun s c f hf h => h.of_queues rfl
    (fun c e he => .inl <| (State.mem_modChan_queue he).elim id fun he => by
      rw [hf] at he
      exact he)
    fun e he _ => State.mem_queue_modChan he fun he => by rw [hf]; exact he
  crew := fun _ _ _ _ h => h.of_queues rfl (fun _ _ he => .inl he) fun _ he _ => he
  enter := fun s c x hfresh h => h.of_queues rfl
    (fun c e he => (State.mem_modChan_queue he).elim .inl fun he =>
      (mem_insertEntry.1 he).elim (fun heq => .inr (by rw [heq]; exact hfresh.owner)) .inl)
    fun e he _ => State.mem_queue_modChan he fun he => mem_insertEntry.2 (.inr he)
  leave := fun s c x _ _ hweak _ h => h.of_queues rfl
    (fun c e he => .inl <| (State.mem_modChan_queue he).elim id List.mem_of_mem_erase)
    fun e he hurgent => State.mem_queue_modChan he fun he => (List.mem_erase_of_ne (by rintro rfl; exact hurgent.not_weak hweak)).2 he
  drop := fun s c m hmay h => h.of_queues rfl
    (fun c e he => .inl <| (State.mem_modChan_queue he).elim id List.mem_of_mem_filter)
    fun e he hurgent => State.mem_queue_modChan he fun he => List.mem_filter.2 ⟨he, by
      obtain ⟨howner, -⟩ := hurgent
      rw [howner, beq_eq_false_iff_ne.2 (Ne.symm hmay), Bool.and_false]
      rfl⟩
  order := fun s m st f hmay _ hf h => h.modOrder m (fun o => by
    split
    next hs => rw [(hf o hs).1]
    next => rfl) fun hm => absurd (congrArg Owner.order hm) hmay
  followUp := fun s m _ _ h => h.modOrder m (fun _ => rfl) fun _ _ => ⟨rfl, rfl, rfl⟩
  permit := fun _ _ _ _ _ h => h.of_queues rfl (fun _ _ he => .inl he) fun _ he _ => he
  mark := fun _ _ _ h => h.of_queues rfl (fun _ _ he => .inl he) fun _ he _ => he
  prompt := fun s m body st _ h => by
    unfold State.setPrompts
    split
    · exact h.of_queues rfl (fun _ _ he => .inl he) fun _ he _ => he
    · exact h
  reorder := fun _ _ _ _ _ _ _ _ _ _ h => h.of_queues rfl (fun _ _ he => .inl he) fun _ he _ => he
  respond := fun _ _ _ _ h => h.of_queues rfl (fun _ _ he => .inl he) fun _ he _ => he
  settle := fun s h => h.of_queues rfl (fun c e he => .inl (by rwa [State.settle_queue] at he)) fun e he _ => by rwa [State.settle_queue]
  headDue := fun s m k x o h _ _ ho hassigned hn => by
    obtain ⟨o', ho', hsent, -⟩ := h.record
    cases hn
    rw [ho] at ho'
    cases ho'
    rw [hassigned] at hsent
    cases hsent
  followUpDue := fun _ _ _ _ _ _ _ => nofun
  permitDue := fun _ _ _ _ _ _ _ => nofun
  displaced := fun s m k x e h _ hsecond _ hn => by
    obtain ⟨rest, -, hx, -, -, hordinary⟩ := State.emergencySecond_eq hsecond
    obtain ⟨o', ho', -, -, hprio⟩ := h.record
    cases hn
    rw [hx] at ho'
    cases ho'
    exact hordinary hprio
  evicted := fun s c e h he hwait hweak => by
    refine ⟨fun m howner => .inl fun hm => ?_, fun _ _ => nofun, fun _ hno => hno n⟩
    rcases h.firm c e he (howner.trans hm) with hfly | hurgent
    · rw [hwait] at hfly
      cases hfly
    · exact hurgent.not_weak hweak

end

/-! ### The check of a queue whose head may be displaced (R36, R37) -/

/-- A head that an EMERGENCY order behind it takes the place of (R36). -/
def Order.Displaceable (o : Order) : Prop :=
  o.state = .assigned ∨ (o.state = .sent ∧ o.link = some .queued)
    ∨ ((o.state = .delivered ∨ o.state = .accepted ∨ o.state = .blocked) ∧ o.link = none)

section
variable {s : State} {slot : Nat} {k : Crew} {h e : Order} (hk : s.crew? slot = some k) (hsecond : s.emergencySecond k = some (h, e))
include hk hsecond

theorem State.checkFueled_of_displaceable (fuel : Nat) (hd : h.Displaceable) :
    State.checkFueled (fuel + 1) s slot = State.offerHeadWith (State.checkFueled fuel) (s.displaceHead slot h) slot := by
  rw [State.checkFueled]
  rcases hd with hst | ⟨hst, hlink⟩ | ⟨hst | hst | hst, hlink⟩
  · simp only [hk, hsecond, hst]
  all_goals simp only [hk, hsecond, hst, hlink]

/-- A head that stays: no more than the mark of the wait changes. -/
theorem State.checkFueled_of_not_displaceable (fuel : Nat) (hd : ¬ h.Displaceable) :
    State.checkFueled (fuel + 1) s slot = s ∨ ∃ w, State.checkFueled (fuel + 1) s slot
      = (s.modCrew slot fun k => { k with waitingFor := w }).post (.orderWaiting slot e.number h.number) := by
  rw [State.checkFueled]
  simp only [hk, hsecond]
  split
  · next hst => exact absurd (.inl hst) hd
  · next hst hlink => exact absurd (.inr (.inl ⟨hst, hlink⟩)) hd
  · next hst hlink => exact absurd (.inr (.inr ⟨.inl hst, hlink⟩)) hd
  · next hst hlink => exact absurd (.inr (.inr ⟨.inr (.inl hst), hlink⟩)) hd
  · next hst hlink => exact absurd (.inr (.inr ⟨.inr (.inr hst), hlink⟩)) hd
  · split
    · exact .inl rfl
    · exact .inr ⟨_, rfl⟩
  · exact .inl rfl

end

/-! ### A head displaced (R36) -/

theorem State.placeIn_congr {s t : State} (h : ∀ n, t.rankOf n = s.rankOf n) (n : Nat) (l : List Nat) : t.placeIn n l = s.placeIn n l := by
  induction l with
  | nil => rfl
  | cons m l ih => rw [State.placeIn, State.placeIn, h, h, ih]

/-- The state once a head's telegram is withdrawn, where it waited. -/
def State.headWithdrawn (s : State) (h : Order) : State :=
  if h.state = .sent then s.withdraw fun x => x.owner == .order h.number else s

theorem State.headWithdrawn_onlyChans (s : State) (h : Order) : OnlyChans s (s.headWithdrawn h) := by
  rw [State.headWithdrawn]
  split
  · exact s.withdraw_onlyChans _
  · exact .refl s

theorem State.withdraw_length (s : State) (p : Entry → Bool) (c : Chan) : ((s.withdraw p).chan c).queue.length ≤ (s.chan c).queue.length := by
  refine List.foldlRecOn (motive := fun t : State => (t.chan c).queue.length ≤ (s.chan c).queue.length) _ _ le_rfl fun t ht d _ => ?_
  rw [State.withdrawOn_queue]
  split
  · exact (List.length_filter_le _ _).trans ht
  · exact ht

/-- A head back in ASSIGNED, nothing of it under way. -/
def Order.backed (o : Order) : Order := { o with state := .assigned, link := none, acceptance := none, unanswered := false, deferral := none }

/-- The state once a head is back in ASSIGNED. -/
def State.headBacked (s : State) (h : Order) : State := (s.headWithdrawn h).modOrderIn h.number h.state Order.backed

theorem State.displaceHead_eq (s : State) (slot : Nat) (h : Order) : s.displaceHead slot h =
    if h.state = .assigned then
      (s.headBacked h).modCrew slot fun k => { k with queue := (s.headBacked h).secondFirst k.queue, waitingFor := none }
    else ((s.headBacked h).modCrew slot fun k => { k with queue := (s.headBacked h).secondFirst k.queue, waitingFor := none }).post
      (.orderState h.number h.crew h.state .assigned (some .preempted)) := rfl

/-- What a displacement leaves of a state (R36). -/
structure State.Displaced (s : State) (slot head : Nat) (h : Order) (k : Crew) (q : List Nat) (d : State) : Prop where
  crew   : d.crew? slot = some { k with queue := q, waitingFor := none }
  crews  : ∀ j, j ≠ slot → d.crew? j = s.crew? j
  record : d.order? head = some h.backed
  orders : ∀ m, m ≠ head → d.order? m = s.order? m
  queues : ∀ c, ∀ e ∈ (d.chan c).queue, e ∈ (s.chan c).queue
  waits  : h.state = .sent → ∀ c, ∀ e ∈ (d.chan c).queue, e.owner = .order head → e.inFlight = true
  length : ∀ c, (d.chan c).queue.length ≤ (s.chan c).queue.length

theorem State.displaceHead_displaced {s : State} {slot : Nat} {k : Crew} {head second : Nat} {more : List Nat} {h : Order}
    (hk : s.crew? slot = some k) (hq : k.queue = head :: second :: more) (hh : s.order? head = some h) :
    s.Displaced slot head h k (second :: s.placeIn head more) (s.displaceHead slot h) := by
  have hnumber : h.number = head := State.number_of_order? hh
  have honly := s.headWithdrawn_onlyChans h
  have horders : (s.headWithdrawn h).orders = s.orders := honly.orders
  have hcrews : (s.headBacked h).crews = s.crews := honly.crews
  have hf : ∀ o : Order, (if o.state = h.state then o.backed else o).number = o.number := fun o => by split <;> rfl
  have hhead : (s.headBacked h).order? head = some h.backed := by
    rw [State.headBacked, hnumber]
    exact State.order?_modOrderIn (f := Order.backed) (fun _ => rfl) (by rw [State.order?, horders]; exact hh) rfl
  have hothers (m : Nat) (hm : m ≠ head) : (s.headBacked h).order? m = s.order? m := by
    rw [State.headBacked, hnumber, State.modOrderIn, State.order?, State.modOrder, tFind_tMod_other Order.number _ _ hf hm, horders]
    rfl
  have hrank (m : Nat) : (s.headBacked h).rankOf m = s.rankOf m := by
    by_cases hm : m = head
    · subst hm
      rw [State.rankOf_eq, State.rankOf_eq, hhead, hh]
      rfl
    · rw [State.rankOf_eq, State.rankOf_eq, hothers m hm]
  have hsecond : (s.headBacked h).secondFirst k.queue = second :: s.placeIn head more := by
    rw [hq]
    exact congrArg (second :: ·) (State.placeIn_congr hrank head more)
  have hchan (c : Chan) : (s.headBacked h).chan c = (s.headWithdrawn h).chan c := rfl
  have hbare : s.Displaced slot head h k (second :: s.placeIn head more)
      ((s.headBacked h).modCrew slot fun k => { k with queue := (s.headBacked h).secondFirst k.queue, waitingFor := none }) := by
    have hk' : (s.headBacked h).crew? slot = some k := by rw [State.crew?, hcrews]; exact hk
    refine ⟨?_, fun j hj => ?_, hhead, hothers, fun c e he => ?_, fun hsent c e he howner => ?_, fun c => ?_⟩
    · rw [State.crew?_modCrew (by intro; rfl) hk', hsecond]
    · rw [State.crew?_modCrew_other (by intro; rfl) hj, State.crew?, hcrews]
      rfl
    · rw [State.modCrew_chan, hchan, State.headWithdrawn] at he
      split at he
      · exact (State.mem_withdraw he).1
      · exact he
    · rw [State.modCrew_chan, hchan, State.headWithdrawn, if_pos hsent] at he
      exact (State.mem_withdraw he).2 (beq_iff_eq.2 (howner.trans (congrArg Owner.order hnumber.symm)))
    · rw [State.modCrew_chan, hchan, State.headWithdrawn]
      split
      · exact s.withdraw_length _ c
      · exact le_rfl
  rw [State.displaceHead_eq]
  split
  · exact hbare
  · obtain ⟨h1, h2, h3, h4, h5, h6, h7⟩ := hbare
    refine ⟨?_, fun j hj => ?_, ?_, fun m hm => ?_, fun c e he => h5 c e (by rwa [State.post_chan] at he),
      fun hs c e he => h6 hs c e (by rwa [State.post_chan] at he), fun c => by rw [State.post_chan]; exact h7 c⟩
    · rw [State.crew?, State.post_crews]; exact h1
    · rw [State.crew?, State.post_crews]; exact h2 j hj
    · rw [State.order?, State.post_orders]; exact h3
    · rw [State.order?, State.post_orders]; exact h4 m hm

/-- An EMERGENCY head offered to a queue with room is sent, whatever its flow hold (R28, R165). -/
theorem State.offerHeadWith_sentFirst {check : State → Nat → State} {s : State} {slot n : Nat} {k : Crew} {o : Order}
    (hk : s.crew? slot = some k) (hhead : k.queue.head? = some n) (ho : s.order? n = some o) (hst : o.state = .assigned)
    (hprio : o.priority = .emergency) (hreach : k.reach ≠ .lost) (hroom : (s.chan k.current).queue.length < 24)
    (hold : ∀ c, ∀ e ∈ (s.chan c).queue, e.owner = .order n → e.inFlight = true) :
    (s.offerHeadWith check slot).SentFirst k.current n k.addr := by
  have hnumber : o.number = n := State.number_of_order? ho
  have hslot : k.slot = slot := State.slot_of_crew? hk
  have hhead' : s.headOf k = some o := by rw [State.headOf, hhead]; exact ho
  have hcls : (orderEntry k o).cls = .safety := if_pos hprio
  have hurgent : ({ orderEntry k o with seq := some k.outSeq, admission := (s.chan k.current).admissions } : Entry).Urgent n :=
    ⟨congrArg Owner.order hnumber, hcls, rfl⟩
  simp only [State.offerHeadWith, hk, hhead', hst, if_true, if_neg hreach]
  rw [State.offerWith_safety (e := orderEntry k o) check _ _ rfl (by rw [hslot]; exact hk) hcls hroom, hnumber]
  refine (sentFirst_spared k.current n k.addr).syncOrderDefer ?_ slot
  refine (sentFirst_spared k.current n k.addr).post ?_ _ rfl
  generalize hu : (s.modCrew k.slot fun k => { k with outSeq := k.outSeq + 1 }).enqueue k.current
    { orderEntry k o with seq := some k.outSeq } = u
  have hou : u.order? n = some o := by
    rw [← hu, State.enqueue, State.order?, (State.flowEval_onlyChans _ _).orders]
    exact ho
  have hmem {c : Chan} {e : Entry} (he : e ∈ (u.chan c).queue) :
      e = { orderEntry k o with seq := some k.outSeq, admission := (s.chan k.current).admissions } ∨ e ∈ (s.chan c).queue := by
    rw [← hu] at he
    exact State.mem_enqueue_iff he
  refine ⟨⟨_, State.order?_modOrderIn (fun _ => rfl) hou hst, rfl, rfl, hprio⟩, fun c e he howner => ?_, _, ?_, hurgent, rfl, rfl⟩
  · rcases hmem he with rfl | hin
    · exact .inr hurgent
    · exact .inl (hold c e hin howner)
  · rw [← hu]
    exact State.mem_enqueue (s := s.modCrew k.slot _)

/-! ### The place of an assigned order (R25, R36) -/

section
variable {s : State} {o : Order} {slot n : Nat} (ho : s.order? n = some o)

theorem State.entrusted_crew? (j : Nat) : (s.entrusted o slot).crew? j = s.crew? j := by
  rw [State.crew?, State.entrusted_crews]
  rfl

include ho

theorem State.entrusted_order?_other {m : Nat} (hm : m ≠ n) : (s.entrusted o slot).order? m = s.order? m := by
  rw [State.entrusted, State.number_of_order? ho]
  refine (congrArg (tFind Order.number m) (State.post_orders _ _)).trans ?_
  exact tFind_tMod_other Order.number _ _ (fun _ => rfl) hm

/-- The ordering of R24, the order under its new number. -/
theorem State.entrusted_rankOf (m : Nat) : (s.entrusted o slot).rankOf m
    = (s.modOrder n fun o => { o with asgSeq := s.assignments }).rankOf m := by
  rw [State.rankOf_eq, State.rankOf_eq]
  by_cases hm : m = n
  · subst hm
    rw [State.entrusted_order? ho, State.order?_modOrder (f := fun o => { o with asgSeq := s.assignments }) (fun _ => rfl) ho]
    rfl
  · rw [State.entrusted_order?_other ho hm,
      State.order?_modOrder_other (f := fun o => { o with asgSeq := s.assignments }) (fun _ => rfl) hm]

theorem State.entrusted_priority? : (s.entrusted o slot).priority? = s.priority? := by
  refine funext fun m => ?_
  by_cases hm : m = n
  · subst hm
    rw [State.priority?, State.priority?, State.entrusted_order? ho, ho]
    rfl
  · rw [State.priority?, State.entrusted_order?_other ho hm]
    rfl

end

/-- An order that ranks first of a queue leaves no EMERGENCY order behind one that is not. -/
theorem State.calm_of_ranksFirst {s : State} {n : Nat} {o : Order} {l q : List Nat} (ho : s.order? n = some o)
    (hfirst : ∀ m ∈ l, ranksBefore (s.rankOf n) (s.rankOf m) = true) (hq : ∀ m ∈ q, m ∈ l) : Calm s.priority? (n :: q) := by
  rintro ⟨h, e, rest, ph, pe, heq, hph, hpe, hemergency, hordinary⟩
  cases heq
  obtain ⟨oe, hoe, rfl⟩ := Option.map_eq_some_iff.1 hpe
  rw [State.priority?, ho] at hph
  cases hph
  have hrank := hfirst e (hq e List.mem_cons_self)
  rw [State.rankOf_eq, State.rankOf_eq, ho, hoe] at hrank
  simp only [Option.map_some, Option.getD_some, Order.rank, ranksBefore, hemergency, Bool.or_eq_true, decide_eq_true_eq,
    Bool.and_eq_true, beq_iff_eq, Priority.code] at hrank
  cases hp : o.priority <;> simp [hp] at hrank hordinary

theorem calm_single (prio : Nat → Option Priority) (n : Nat) : Calm prio [n] := by
  rintro ⟨h, e, rest, ph, pe, heq, -⟩
  cases heq

/-- An EMERGENCY head is displaced by none. -/
theorem calm_of_emergency {prio : Nat → Option Priority} {n : Nat} {q : List Nat} (h : prio n = some .emergency) : Calm prio (n :: q) := by
  rintro ⟨m, e, rest, ph, pe, heq, hph, -, -, hordinary⟩
  cases heq
  rw [h] at hph
  cases hph
  exact hordinary rfl

/-! ### An assignment's place, and the preemption it can bring (R25, R36) -/

/-- An order entrusted to a crew and placed in its queue, nothing offered yet. -/
def State.linedUp (s : State) (o : Order) (slot n : Nat) : State :=
  (s.entrusted o slot).modCrew slot fun k => { k with queue := (s.entrusted o slot).placed n k.queue }

section
variable {s : State} {o : Order} {slot n : Nat} {k : Crew} (ho : s.order? n = some o) (hk : s.crew? slot = some k) {q : List Nat}
  (hq : (s.entrusted o slot).placed n k.queue = q)

include hk hq in
theorem State.linedUp_crew? : (s.linedUp o slot n).crew? slot = some { k with queue := q } := by
  rw [State.linedUp, State.crew?_modCrew (by intro; rfl) (by rw [State.entrusted_crew?]; exact hk), hq]

include ho hk hq

theorem State.linedUp_lined : (s.linedUp o slot n).Lined slot q s.priority? :=
  ⟨by rw [State.linedUp_crew? hk hq]; rfl, State.entrusted_priority? ho⟩

/-- An order that is made head: its queue stands. -/
theorem State.assign_lined_of_head (hhead : q.head? = some n) (hcalm : Calm s.priority? q) :
    (s.assign o slot).Lined slot q s.priority? := by
  have hspared := lined_spared (slot := slot) hcalm
  have hke : (s.entrusted o slot).crew? slot = some k := by rw [State.entrusted_crew?]; exact hk
  rw [State.assign_eq, State.number_of_order? ho]
  refine hspared.check ?_ slot
  simp only [State.placeOrder, hke, hq, hhead, if_true]
  refine hspared.offerHeadWith (fun t j ht => hspared.check ht j) ?_ slot
  have hplaced := State.linedUp_lined ho hk hq
  split
  · exact hplaced.modOrder _ fun o => by split <;> exact ⟨rfl, rfl⟩
  · exact hplaced

/-- An order that stands behind the head: the check comes next. -/
theorem State.assign_of_behind (hhead : q.head? ≠ some n) :
    s.assign o slot = (s.linedUp o slot n).check slot := by
  have hke : (s.entrusted o slot).crew? slot = some k := by rw [State.entrusted_crew?]; exact hk
  rw [State.assign_eq, State.number_of_order? ho]
  simp only [State.placeOrder, hke, hq, if_neg hhead]
  rfl

/-- A head that no EMERGENCY order displaces: nothing but the mark of the wait changes. -/
theorem State.assign_of_no_preemption (hhead : q.head? ≠ some n)
    (hstay : ∀ h e, (s.linedUp o slot n).emergencySecond { k with queue := q } = some (h, e) → ¬ h.Displaceable) :
    (s.assign o slot).signals = s.signals ∧ ((s.assign o slot).crew? slot).map (·.queue) = some q := by
  have hkq := State.linedUp_crew? (n := n) hk hq
  have hsignals : (s.linedUp o slot n).signals = s.signals := s.entrusted_signals o slot
  have hmark (w : Option (Nat × Nat)) : ((s.linedUp o slot n).modCrew slot fun k => { k with waitingFor := w }).crew? slot
      = some { k with queue := q, waitingFor := w } := State.crew?_modCrew (by intro; rfl) hkq
  rw [State.assign_of_behind ho hk hq hhead]
  cases hsecond : (s.linedUp o slot n).emergencySecond { k with queue := q } with
  | none =>
    rw [State.check_of_none hkq hsecond]
    exact ⟨hsignals, congrArg (Option.map Crew.queue) (hmark none)⟩
  | some p =>
    obtain ⟨h, e⟩ := p
    rcases State.checkFueled_of_not_displaceable hkq hsecond 64 (hstay h e hsecond) with heq | ⟨w, heq⟩
    · rw [State.check, heq]
      exact ⟨hsignals, congrArg (Option.map Crew.queue) hkq⟩
    · rw [State.check, heq]
      refine ⟨(State.post_signals _ _).trans hsignals, ?_⟩
      rw [State.crew?, State.post_crews]
      exact congrArg (Option.map Crew.queue) (hmark w)

end

/-- Where an order comes to stand in a crew's queue (R25). -/
theorem State.entrusted_placed {s : State} {o ho' : Order} {slot n head : Nat} {rest : List Nat} (ho : s.order? n = some o)
    (hhead : s.order? head = some ho') (hne : head ≠ n) :
    (s.entrusted o slot).placed n (head :: rest)
      = if ho'.state = .assigned ∧ ∀ m ∈ head :: rest, ranksBefore ((s.entrusted o slot).rankOf n) ((s.entrusted o slot).rankOf m) = true
        then n :: (s.entrusted o slot).placeIn head rest else head :: (s.entrusted o slot).placeIn n rest := by
  have hcond : ((((s.entrusted o slot).order? head).any fun o => o.state == .assigned) && (s.entrusted o slot).ranksFirst n (head :: rest))
      = decide (ho'.state = .assigned ∧ ∀ m ∈ head :: rest, ranksBefore ((s.entrusted o slot).rankOf n) ((s.entrusted o slot).rankOf m) = true) := by
    rw [State.entrusted_order?_other ho hne, hhead, Bool.eq_iff_iff]
    simp [State.ranksFirst]
  rw [State.placed, hcond]
  simp only [decide_eq_true_eq]

theorem State.linedUp_order? {s : State} {o : Order} {slot n m : Nat} (ho : s.order? n = some o) (hm : m ≠ n) :
    (s.linedUp o slot n).order? m = s.order? m := State.entrusted_order?_other ho hm

theorem State.linedUp_order?_same {s : State} {o : Order} {slot n : Nat} (ho : s.order? n = some o) :
    (s.linedUp o slot n).order? n = some (o.entrusted slot s.assignments) := State.entrusted_order? ho

theorem State.linedUp_chan (s : State) (o : Order) (slot n : Nat) (c : Chan) : (s.linedUp o slot n).chan c = s.chan c :=
  s.entrusted_chan o slot c

theorem Displaceable_iff {o : Order} : o.Displaceable ↔ (o.state = .assigned ∨ (o.state = .sent ∧ o.link = some .queued)
    ∨ ((o.state = .delivered ∨ o.state = .accepted ∨ o.state = .blocked) ∧ o.link = none)) := Iff.rfl

/-- An assignment that brings an EMERGENCY order behind a head that it takes the place of (R36). -/
structure State.Preempted (s : State) (o : Order) (slot n head second : Nat) (more : List Nat) (k : Crew) (h so : Order) : Prop where
  order  : s.order? n = some o
  crew   : s.crew? slot = some k
  placed : (s.entrusted o slot).placed n k.queue = head :: second :: more
  new    : head ≠ n
  head   : s.order? head = some h
  second : s.order? second = some so
  urgent : so.priority = .emergency
  plain  : h.priority ≠ .emergency
  displ  : h.Displaceable

section
variable {s : State} {o : Order} {slot n head second : Nat} {more : List Nat} {k : Crew} {h so : Order}
  (hp : s.Preempted o slot n head second more k h so)
include hp

theorem State.Preempted.ne : second ≠ head := by
  obtain ⟨-, -, -, -, hhead, hsecond, hurgent, hplain, -⟩ := hp
  rintro rfl
  rw [hhead] at hsecond
  cases hsecond
  exact hplain hurgent

/-- The order behind the head, as the assignment leaves it. -/
theorem State.Preempted.second_order? : ∃ so', (s.linedUp o slot n).order? second = some so' ∧ so'.priority = .emergency
    ∧ (second = n ∨ so.state = .assigned → so'.state = .assigned) := by
  obtain ⟨ho, -, -, -, -, hsecond, hurgent, -, -⟩ := hp
  by_cases hn : second = n
  · subst hn
    cases ho.symm.trans hsecond
    exact ⟨_, State.linedUp_order?_same ho, hurgent, fun _ => rfl⟩
  · exact ⟨so, (State.linedUp_order? ho hn).trans hsecond, hurgent, fun h => h.resolve_left hn⟩

theorem State.Preempted.assign_eq : s.assign o slot
    = State.offerHeadWith (State.checkFueled 64) ((s.linedUp o slot n).displaceHead slot h) slot := by
  obtain ⟨so', hso', hurgent', -⟩ := hp.second_order?
  obtain ⟨ho, hk, hplaced, hnew, hhead, -, -, hplain, hdispl⟩ := hp
  have hsecond : (s.linedUp o slot n).emergencySecond { k with queue := head :: second :: more } = some (h, so') := by
    simp only [State.emergencySecond, State.linedUp_order? ho hnew, hhead, hso', if_pos (And.intro hurgent' hplain)]
  rw [State.assign_of_behind ho hk hplaced (fun hhead => hnew (Option.some_inj.1 hhead))]
  exact State.checkFueled_of_displaceable (State.linedUp_crew? hk hplaced) hsecond 64 hdispl

theorem State.Preempted.displaced : (s.linedUp o slot n).Displaced slot head h { k with queue := head :: second :: more }
    (second :: (s.entrusted o slot).placeIn head more) ((s.linedUp o slot n).displaceHead slot h) := by
  obtain ⟨ho, hk, hplaced, hnew, hhead, -⟩ := hp
  have hplace : (s.linedUp o slot n).placeIn head more = (s.entrusted o slot).placeIn head more :=
    State.placeIn_congr (s := s.entrusted o slot) (t := s.linedUp o slot n) (fun _ => rfl) head more
  rw [← hplace]
  exact State.displaceHead_displaced (State.linedUp_crew? hk hplaced) rfl ((State.linedUp_order? ho hnew).trans hhead)

theorem State.Preempted.priority? : ((s.linedUp o slot n).displaceHead slot h).priority? = s.priority? := by
  obtain ⟨-, -, hrecord, horders, -⟩ := hp.displaced
  obtain ⟨ho, -, -, hnew, hhead, -⟩ := hp
  refine (funext fun m => ?_ : _ = (s.linedUp o slot n).priority?).trans (State.entrusted_priority? ho)
  by_cases hm : m = head
  · subst hm
    have hlined : (s.linedUp o slot n).order? m = some h := (State.linedUp_order? ho hnew).trans hhead
    rw [State.priority?, State.priority?, hrecord, hlined]
    rfl
  · rw [State.priority?, horders m hm]
    rfl

theorem State.Preempted.calm : Calm s.priority? (second :: (s.entrusted o slot).placeIn head more) :=
  calm_of_emergency (by rw [State.priority?, hp.second, Option.map_some, hp.urgent])

theorem State.Preempted.lined : (s.assign o slot).Lined slot (second :: (s.entrusted o slot).placeIn head more) s.priority? := by
  have hspared := lined_spared (slot := slot) hp.calm
  rw [hp.assign_eq]
  exact hspared.offerHeadWith (fun t j ht => hspared.checkFueled 64 ht j) ⟨by rw [hp.displaced.crew]; rfl, hp.priority?⟩ slot

theorem State.Preempted.rests (hapart : ∀ k' ∈ s.crews, k'.slot ≠ slot → head ∉ k'.queue) :
    (s.assign o slot).Rests slot (second :: (s.entrusted o slot).placeIn head more) s.priority? head (h.state = .sent) := by
  have hspared := rests_spared (withdrawn := h.state = .sent) (slot := slot) (n := head) hp.calm (fun heq => hp.ne (Option.some_inj.1 heq))
  obtain ⟨hcrew, hcrews, hrecord, -, -, hwaits, -⟩ := hp.displaced
  rw [hp.assign_eq]
  refine hspared.offerHeadWith (fun t j ht => hspared.checkFueled 64 ht j)
    ⟨⟨by rw [hcrew]; rfl, hp.priority?⟩, by rw [hrecord]; rfl, fun j k' hj hk' => ?_, hwaits⟩ slot
  rw [hcrews j hj, State.linedUp, State.crew?_modCrew_other (by intro; rfl) hj, State.entrusted_crew?] at hk'
  exact hapart k' (tFind_some Crew.slot hk').2 (by rwa [State.slot_of_crew? hk'])

theorem State.Preempted.sentFirst (hfree : second = n ∨ so.state = .assigned) (hreach : k.reach ≠ .lost)
    (hroom : (s.chan k.current).queue.length < 24) (hold : ∀ c, ∀ e ∈ (s.chan c).queue, e.owner = .order second → e.inFlight = true) :
    (s.assign o slot).SentFirst k.current second k.addr := by
  obtain ⟨so', hso', hurgent', hassigned⟩ := hp.second_order?
  obtain ⟨hcrew, -, -, horders, hqueues, -, hlength⟩ := hp.displaced
  have hchan := s.linedUp_chan o slot n
  rw [hp.assign_eq]
  refine State.offerHeadWith_sentFirst (k := { k with queue := _, waitingFor := none }) hcrew rfl ((horders _ hp.ne).trans hso') (hassigned hfree)
    hurgent' hreach ((hlength _).trans_lt (by rw [hchan]; exact hroom)) fun c e he => hold c e ?_
  rw [← hchan c]
  exact hqueues c e he

end

section
variable {s : State} {o ho' : Order} {slot n head : Nat} {rest : List Nat} {k : Crew} (ho : s.order? n = some o) (hk : s.crew? slot = some k)
  (hqueue : k.queue = head :: rest) (hho : s.order? head = some ho') (hne : head ≠ n)
include ho hk hqueue hho hne

/-- An order that ranks first before an ASSIGNED head becomes the head (R25). -/
theorem State.assign_first (hassigned : ho'.state = .assigned)
    (hfirst : ∀ m ∈ head :: rest, ranksBefore ((s.entrusted o slot).rankOf n) ((s.entrusted o slot).rankOf m) = true) :
    ∃ front back, rest = front ++ back ∧ PlacedBetween (s.entrusted o slot).rankOf head front back
      ∧ Calm s.priority? (n :: front ++ head :: back) ∧ (s.assign o slot).Lined slot (n :: front ++ head :: back) s.priority? := by
  obtain ⟨front, back, hrest, hplace, hbetween⟩ := (s.entrusted o slot).placeIn_split head rest
  have hplaced := State.entrusted_placed (slot := slot) (rest := rest) ho hho hne
  rw [if_pos ⟨hassigned, hfirst⟩, hplace, ← hqueue] at hplaced
  have hmem : ∀ m ∈ front ++ head :: back, m ∈ head :: rest := fun m hm => by
    rw [hrest]
    simp only [List.mem_append, List.mem_cons] at hm ⊢
    tauto
  have hcalm := State.calm_of_ranksFirst (State.entrusted_order? ho) hfirst hmem
  rw [State.entrusted_priority? ho] at hcalm
  exact ⟨front, back, hrest, hbetween, hcalm, State.assign_lined_of_head ho hk hplaced rfl hcalm⟩

omit hk in
/-- An order that does not become the head stands behind it by rank (R25). -/
theorem State.placed_behind (hnot : ¬ (ho'.state = .assigned
      ∧ ∀ m ∈ head :: rest, ranksBefore ((s.entrusted o slot).rankOf n) ((s.entrusted o slot).rankOf m) = true)) :
    ∃ front back second more, rest = front ++ back ∧ PlacedBetween (s.entrusted o slot).rankOf n front back
      ∧ front ++ n :: back = second :: more ∧ (s.entrusted o slot).placed n k.queue = head :: second :: more := by
  obtain ⟨front, back, hrest, hplace, hbetween⟩ := (s.entrusted o slot).placeIn_split n rest
  have hplaced := State.entrusted_placed (slot := slot) (rest := rest) ho hho hne
  obtain ⟨second, more, hsplit⟩ : ∃ second more, front ++ n :: back = second :: more := by
    cases front with
    | nil => exact ⟨n, back, rfl⟩
    | cons m front => exact ⟨m, front ++ n :: back, rfl⟩
  rw [if_neg hnot, hplace, hsplit, ← hqueue] at hplaced
  exact ⟨front, back, second, more, hrest, hbetween, hsplit, hplaced⟩

omit hqueue in
/-- A head that keeps its place keeps it with nothing offered (R36, R37). -/
theorem State.assign_stays {second : Nat} {more : List Nat} {so : Order} (hso : s.order? second = some so)
    (hplaced : (s.entrusted o slot).placed n k.queue = head :: second :: more)
    (hstay : ¬ (so.priority = .emergency ∧ ho'.priority ≠ .emergency ∧ ho'.Displaceable)) :
    (s.assign o slot).signals = s.signals ∧ ((s.assign o slot).crew? slot).map (·.queue) = some (head :: second :: more) := by
  refine State.assign_of_no_preemption ho hk hplaced (fun heq => hne (Option.some_inj.1 heq)) fun h e hsecond hdispl => hstay ?_
  obtain ⟨rest', hq, hh, he, hurgent, hplain⟩ := State.emergencySecond_eq hsecond
  obtain ⟨hhead, hq⟩ := List.cons.inj hq
  obtain ⟨hbehind, -⟩ := List.cons.inj hq
  rw [← hhead, State.linedUp_order? ho hne, hho] at hh
  cases hh
  refine ⟨?_, hplain, hdispl⟩
  rw [← hbehind] at he
  by_cases hn : second = n
  · subst hn
    cases ho.symm.trans hso
    rw [State.linedUp_order?_same ho] at he
    cases he
    exact hurgent
  · rw [State.linedUp_order? ho hn, hso] at he
    cases he
    exact hurgent

end

theorem State.assignFields_length {s : State} {n : Nat} (h : (s.order? n).isSome) : (s.assignFields n).length = 3 := by
  obtain ⟨o, ho⟩ := Option.isSome_iff_exists.1 h
  rw [State.assignFields, ho]
  rfl

theorem State.assign_order?_isSome {s : State} {o : Order} {n : Nat} (slot : Nat) (ho : s.order? n = some o) :
    ((s.assign o slot).order? n).isSome := by
  have hframe := State.order?_of_frameWatch (State.frameWatch_of_frame (s.assign_frame o slot)) n
  have hafter : (s.modOrder o.number fun o => o.entrusted slot s.assignments).order? n = some (o.entrusted slot s.assignments) := by
    rw [State.number_of_order? ho]
    exact State.order?_modOrder (f := fun o => o.entrusted slot s.assignments) (fun _ => rfl) ho
  have hsome := congrArg Option.isSome (hframe.trans (congrArg (Option.map Order.frame) hafter))
  rwa [Option.isSome_map] at hsome

/-- Settles O21. -/
theorem assignOrderPlaces : Obligations.AssignOrderPlaces := by
  intro x h l b o k s h1 ho hb hk free busy
  have hn : o.number = be16 h l := State.number_of_order? ho
  have hask : askAssignOrder [h, l, b] (s.atRequest x) = _ :=
    (State.onOrder_of_order? (s := s.atRequest x) _ h1 ho).trans (State.onCrew_of_crew? (s := s.atRequest x) _ hb hk)
  have hfree : free ↔ o.state.assignable = true := by
    cases hst : o.state <;> simp [free, hst, OrderState.assignable]
  have hbusy : busy ↔ o.engaged = true := by
    rw [Order.engaged, Bool.or_eq_true, Option.any_eq_true, Option.isSome_iff_ne_none]
    refine or_congr Iff.rfl (exists_congr fun f => and_congr Iff.rfl ?_)
    cases f.2 <;> simp [FollowStatus.isOpen]
  refine ⟨fun hno => refuses_of_refuse rfl (hask.trans (if_pos (by simpa [hfree] using hno))), fun hyes hwork => ?_, fun hyes hidle hfull => ?_,
    fun hyes hidle hroom => ?_⟩
  · refine refuses_of_refuse rfl (hask.trans ?_)
    rw [if_neg (by simp [hfree.1 hyes]), if_pos (hbusy.1 hwork)]
  · refine refuses_of_refuse rfl (hask.trans ?_)
    rw [if_neg (by simp [hfree.1 hyes]), if_neg (by simpa [hbusy] using hidle), if_pos hfull]
  have hidle' : o.engaged = false := by simpa [hbusy] using hidle
  have hwork := askAssignOrder_of (s := s.atRequest x) h1 ho hb hk (hfree.1 hyes) hidle' hroom
  have hframe := (s.atRequest x).assign_frame o b.toNat
  refine ⟨_, rfl, ⟨_, State.console_replied_of_frame (effect := { s with assignments := s.assignments + 1 }) hwork
    ((s.atRequest x).assign_shape o b.toNat) (.inl rfl) rfl rfl rfl, ?_⟩, ?_, fun hnew => ?_⟩
  · exact State.assignFields_length (State.assign_order?_isSome (s := s.atRequest x) b.toNat ho)
  · refine State.console_alike hwork (hframe.trans ?_)
    rw [hn]
    rfl
  · intro n rank placed queued
    have hrank : ((s.atRequest x).entrusted o b.toNat).rankOf = rank := funext fun m => State.entrusted_rankOf (s := s.atRequest x) ho m
    have hlined {q : List Nat} (hcalm : Calm s.priority? q) (hq : ((s.atRequest x).assign o b.toNat).Lined b.toNat q s.priority?) : queued q :=
      ((lined_spared hcalm).console (by rw [hwork]; exact hq)).queue
    refine ⟨fun hempty => ?_, fun head rest ho' hqueue hho => ?_⟩
    · exact hlined (calm_single _ n) (State.assign_lined_of_head (s := s.atRequest x) ho hk (by rw [hempty]; rfl) rfl (calm_single _ n))
    · have hne : head ≠ n := fun heq => hnew (by rw [hqueue]; exact List.mem_cons.2 (.inl heq.symm))
      intro first
      refine ⟨fun hf => ?_, fun hnf => ?_⟩
      · obtain ⟨front, back, hrest, hbetween, hcalm, hassign⟩ := State.assign_first (s := s.atRequest x) (slot := b.toNat) ho hk hqueue hho hne hf.1
          (by rw [hrank]; exact hf.2)
        rw [hrank] at hbetween
        exact ⟨front, back, hrest, hbetween, hlined hcalm hassign⟩
      · obtain ⟨front, back, second, more, hrest, hbetween, hsplit, hplaced⟩ := State.placed_behind (s := s.atRequest x) (slot := b.toNat) ho hqueue hho hne
          (by rw [hrank]; exact hnf)
        rw [hrank] at hbetween
        refine ⟨front, back, second, more, hrest, hbetween, hsplit, fun so hso => ?_⟩
        intro preempts
        refine ⟨fun hno => ?_, fun hyes => ?_⟩
        · obtain ⟨hsignals, hq⟩ := State.assign_stays (s := s.atRequest x) (slot := b.toNat) ho hk hho hne hso hplaced hno
          show ((s.console x (askAssignOrder [h, l, b])).crew? b.toNat).map _ = _
          rw [State.console_of_signals hwork (State.giveSignals_none hsignals), State.settle_crew?, State.respond_crew?]
          exact hq
        · obtain ⟨hurgent, hplain, hdispl⟩ := hyes
          have hp : (s.atRequest x).Preempted o b.toNat n head second more k ho' so := ⟨ho, hk, hplaced, hne, hho, hso, hurgent, hplain, hdispl⟩
          obtain ⟨before, after, hmore, hplace, hbetween⟩ := ((s.atRequest x).entrusted o b.toNat).placeIn_split head more
          have hq := hlined hp.calm hp.lined
          rw [hplace] at hq
          rw [hrank] at hbetween
          refine ⟨⟨before, after, hmore, hbetween, hq⟩, fun hapart => ?_, fun hfresh hreach hroom hold => ?_⟩
          · have hrests := hp.rests hapart
            have hgiven := (rests_spared hp.calm fun heq => hp.ne (Option.some_inj.1 heq)).console (s := s) (x := x)
              (work := askAssignOrder [h, l, b]) (by rw [hwork]; exact hrests)
            exact ⟨hgiven.record, hgiven.waits⟩
          · have hsent := hp.sentFirst hfresh hreach hroom hold
            obtain ⟨⟨so', hso', hstate, hlink, -⟩, -, e, he, ⟨howner, hcls, -⟩, haddr, hwaits⟩ :=
              (sentFirst_spared ..).console (s := s) (x := x) (work := askAssignOrder [h, l, b]) (by rw [hwork]; exact hsent)
            refine ⟨?_, e, he, howner, hcls, haddr, hwaits⟩
            rw [hso', Option.map_some, hstate, hlink]


end Sys2Proof.Machine
end

section
/-!
The end of an attempt (R148, R151): a telegram to be sent again, and a final failure.
-/

namespace Sys2Proof.Machine
/-! ### An attempt that leaves its telegram to be sent again (R148) -/

theorem State.setFollowUp_crews (s : State) (n : Nat) (st : FollowStatus) : (s.setFollowUp n st).crews = s.crews := by
  have hsync (t : State) (slot : Nat) : (t.syncOrderDefer slot).crews = t.crews := by
    obtain ⟨c, l, h⟩ := t.syncOrderDefer_eq slot
    rw [h]
    rfl
  rw [State.setFollowUp]
  split
  · rfl
  · dsimp only
    split
    · exact (hsync _ _).trans rfl
    · rfl

theorem State.setPrompts_crews (s : State) (slot : Nat) (body : Body) (st : PromptStatus) : (s.setPrompts slot body st).crews = s.crews := by
  cases body <;> rfl

theorem State.tellOwner_crews (s : State) (e : Entry) (flying : Bool) : (s.tellOwner e flying).crews = s.crews := by
  rw [State.tellOwner]
  split
  · rfl
  · split
    · rfl
    · exact State.setFollowUp_crews ..
    · exact (State.syncPermitDefer_crews _ _).trans rfl
    · exact State.setPrompts_crews ..
    all_goals rfl

/-- An order is told of its telegram (R150). -/
theorem State.tellOwner_order? {s : State} {e : Entry} {n : Nat} {o : Order} (howner : e.owner = .order n) (ho : s.order? n = some o)
    (flying : Bool) : ∃ o', (s.tellOwner e flying).order? n = some o' ∧ o'.crew = o.crew := by
  rw [State.tellOwner]
  split
  · exact ⟨o, ho, rfl⟩
  · simp only [howner]
    exact ⟨_, State.order?_modOrder (by intro; rfl) ho, rfl⟩

/-- An entry whose attempt has failed, to be sent again (R148). -/
def Entry.again (holdOff : Nat) (e : Entry) : Entry := { e with inFlight := false, holdOff := holdOff }

section
variable {s : State} {c : Chan} {e : Entry} {front back : List Entry}

theorem State.flying_of_queue (hq : (s.chan c).queue = front ++ e :: back) (hfront : ∀ x ∈ front, x.inFlight = false)
    (hfly : e.inFlight = true) : s.flying c = some e := by
  rw [State.flying, hq]
  exact find?_append_cons hfront hfly

theorem State.endAttempt_of_failed (hfly : s.flying c = some e) (horphan : e.orphan = false) (cause : FailCause) :
    s.endAttempt c (.failed cause) = (s.modChan c Channel.unattempted).endFailed c e cause := by
  rw [State.endAttempt, hfly]
  simp only [horphan]
  rfl

theorem State.endFailed_of_again (hlinks : s.links e = true) (hcall : e.kind ≠ .alarmCall) (hlimit : e.attempts < s.params.attemptLimit)
    (cause : FailCause) : s.endFailed c e cause = s.requeue c e := by
  have hnone : e.isCall = false := beq_eq_false_iff_ne.2 hcall
  rw [State.endFailed, hlinks, hnone]
  simp only [Bool.not_true, Bool.false_eq_true, if_false, Bool.false_and, Bool.not_false, and_true, if_pos hlimit]

/-- A telegram to be sent again keeps its place where its crew stands on the channel (R148). -/
theorem State.requeue_stays {slot unit : Nat} {k : Crew} (hsignals : s.signals = []) (hq : (s.chan c).queue = front ++ e :: back)
    (hfront : ∀ x ∈ front, x.inFlight = false) (hfly : e.inFlight = true) (haddr : e.addr = .crew slot unit) (hk : s.crew? slot = some k)
    (hcurrent : k.current = c) (horder : ∀ n, e.owner = .order n → ∃ o, s.order? n = some o ∧ o.crew = some slot ∧ k.queue = [n]) :
    ((s.requeue c e).chan c).queue = front ++ e.again s.params.retryHoldOff :: back ∧ (s.requeue c e).signals = [] := by
  have hsame := State.sameQueues_tellOwner (s := s.modFlying c fun _ => e.again s.params.retryHoldOff) (e.again s.params.retryHoldOff) false
  have hqueue : ((s.modFlying c fun _ => e.again s.params.retryHoldOff).chan c).queue = front ++ e.again s.params.retryHoldOff :: back := by
    rw [State.modFlying, State.modChan_chan_same]
    exact (congrArg _ hq).trans (modFirst_append hfront hfly)
  have hk1 : ((s.modFlying c fun _ => e.again s.params.retryHoldOff).tellOwner (e.again s.params.retryHoldOff) false).crew? slot = some k := by
    rw [State.crew?, State.tellOwner_crews]
    exact hk
  have hslot : e.addr.slot? = some slot := by rw [haddr]; rfl
  have hrequeue : s.requeue c e = ((s.modFlying c fun _ => e.again s.params.retryHoldOff).tellOwner (e.again s.params.retryHoldOff) false)
      ∨ ∃ n, e.owner = .order n ∧ s.requeue c e
        = ((s.modFlying c fun _ => e.again s.params.retryHoldOff).tellOwner (e.again s.params.retryHoldOff) false).checkCrewOf n := by
    have hbind : (e.addr.slot?.bind ((s.modFlying c fun _ => e.again s.params.retryHoldOff).tellOwner
        (e.again s.params.retryHoldOff) false).crew?) = some k := by rw [hslot]; exact hk1
    simp only [Entry.again] at hbind
    simp only [State.requeue, hbind, hcurrent, if_true]
    split
    next n howner => exact .inr ⟨n, howner, rfl⟩
    · exact .inl rfl
  have hkept : ((s.requeue c e).chan c).queue = ((s.modFlying c fun _ => e.again s.params.retryHoldOff).chan c).queue
      ∧ (s.requeue c e).signals = s.signals := by
    rcases hrequeue with h | ⟨n, howner, h⟩
    · rw [h]
      exact ⟨hsame.2 c, hsame.1⟩
    · obtain ⟨o, ho, hcrew, hsingle⟩ := horder n howner
      obtain ⟨o', ho', hcrew'⟩ := State.tellOwner_order? (s := s.modFlying c fun _ => e.again s.params.retryHoldOff)
        (e := e.again s.params.retryHoldOff) howner ho false
      have hcheck : ((s.modFlying c fun _ => e.again s.params.retryHoldOff).tellOwner (e.again s.params.retryHoldOff) false).checkCrewOf n
          = ((s.modFlying c fun _ => e.again s.params.retryHoldOff).tellOwner (e.again s.params.retryHoldOff) false).modCrew slot
            fun k => { k with waitingFor := none } := by
        simp only [State.checkCrewOf, ho', Option.bind_some, hcrew', hcrew]
        exact State.check_of_none hk1 (State.emergencySecond_of_single hsingle)
      rw [h, hcheck]
      exact ⟨hsame.2 c, hsame.1⟩
  exact ⟨hkept.1.trans hqueue, hkept.2.trans hsignals⟩

/-- An attempt that leaves its telegram to be sent again changes only what traffic changes (R148). -/
theorem State.endAttempt_again_frame (hfly : s.flying c = some e) (horphan : e.orphan = false) (hlinks : s.links e = true)
    (hcall : e.kind ≠ .alarmCall) (hlimit : e.attempts < s.params.attemptLimit) (cause : FailCause) :
    (s.endAttempt c (.failed cause)).frame = (s.modChan c Channel.unattempted).frame := by
  rw [State.endAttempt_of_failed hfly horphan, State.endFailed_of_again (s := s.modChan c Channel.unattempted) hlinks hcall hlimit,
    State.requeue_frame]

theorem State.endAttempt_stays {slot unit : Nat} {k : Crew} (hsignals : s.signals = []) (hq : (s.chan c).queue = front ++ e :: back)
    (hfront : ∀ x ∈ front, x.inFlight = false) (hfly : e.inFlight = true) (horphan : e.orphan = false) (hlinks : s.links e = true)
    (hcall : e.kind ≠ .alarmCall) (hlimit : e.attempts < s.params.attemptLimit) (cause : FailCause)
    (haddr : e.addr = .crew slot unit) (hk : s.crew? slot = some k) (hcurrent : k.current = c)
    (horder : ∀ n o, e.owner = .order n → s.order? n = some o → o.crew = some slot ∧ k.queue = [n]) :
    ((s.endAttempt c (.failed cause)).chan c).queue = front ++ e.again s.params.retryHoldOff :: back
      ∧ (s.endAttempt c (.failed cause)).signals = [] := by
  have hq1 : ((s.modChan c Channel.unattempted).chan c).queue = front ++ e :: back := by
    rw [State.modChan_chan_same]
    exact hq
  rw [State.endAttempt_of_failed (State.flying_of_queue hq hfront hfly) horphan,
    State.endFailed_of_again (s := s.modChan c Channel.unattempted) hlinks hcall hlimit]
  refine State.requeue_stays (s := s.modChan c Channel.unattempted) hsignals hq1 hfront hfly haddr hk hcurrent fun n howner => ?_
  rw [State.links, howner] at hlinks
  obtain ⟨o, ho, -⟩ := (Option.any_eq_true _ _).1 hlinks
  exact ⟨o, ho, horder n o howner ho⟩

end

/-! ### How a crew is reached (R13, R14) -/

/-- A crew's failures, reachability and last arrival. -/
def State.reached (s : State) (slot : Nat) : Option (Nat × Reach × Option Word32) :=
  (s.crew? slot).map fun k => (k.failures, k.reach, k.lastHeard)

theorem State.reached_of_crews_frame {s t : State} (h : t.crews.map Crew.frame = s.crews.map Crew.frame) (slot : Nat) :
    t.reached slot = s.reached slot := by
  have hof (u : State) : u.reached slot = ((u.crew? slot).map Crew.frame).map fun k => (k.failures, k.reach, k.lastHeard) := by
    rw [Option.map_map]
    rfl
  rw [hof, hof, State.crew?_of_crews_frame h]

theorem State.reached_of_frame {s t : State} (h : t.frame = s.frame) (slot : Nat) : t.reached slot = s.reached slot :=
  State.reached_of_crews_frame (congrArg State.crews h :) slot

theorem State.reached_of_framePermits {s t : State} (h : t.framePermits = s.framePermits) (slot : Nat) : t.reached slot = s.reached slot :=
  State.reached_of_crews_frame (congrArg State.crews h :) slot

theorem State.reached_modCrew {s : State} {n : Nat} {f : Crew → Crew} (hslot : ∀ k, (f k).slot = k.slot)
    (hf : ∀ k, ((f k).failures, (f k).reach, (f k).lastHeard) = (k.failures, k.reach, k.lastHeard)) (slot : Nat) :
    (s.modCrew n f).reached slot = s.reached slot := by
  by_cases hn : slot = n
  · subst hn
    rw [State.reached, State.crew?, State.modCrew, tFind_tMod_same Crew.slot slot f _ hslot, Option.map_map]
    exact congrArg (Option.map · _) (funext hf)
  · rw [State.reached, State.crew?_modCrew_other hslot hn]
    rfl

section
variable {s : State}

theorem State.leaveQueue_reached (slot n j : Nat) : (s.leaveQueue slot n).reached j = s.reached j :=
  (State.reached_of_frame (State.leaveQueue_frame s slot n) j).trans (State.reached_modCrew (by intro; rfl) (by intro; rfl) j)

theorem State.orderFailed_reached (n : Nat) (cause : OrderCause) (j : Nat) : (s.orderFailed n cause).reached j = s.reached j := by
  rw [State.orderFailed]
  split
  · rfl
  · split
    · split
      · exact (State.leaveQueue_reached _ n j).trans ((State.reached_of_frame (State.post_frame _ _) j).trans rfl)
      · exact (State.reached_of_frame (State.post_frame _ _) j).trans rfl
    · exact State.reached_of_frame (State.unlinkOrder_frame _ _) j

/-- What an owner does as its telegram fails is no matter of its crew's reachability. -/
theorem State.ownerFailed_reached (c : Chan) (e : Entry) (cause : OrderCause) (r : TextOutcome) (j : Nat) :
    (s.ownerFailed c e cause r).reached j = s.reached j := by
  rw [State.ownerFailed]
  split
  · exact State.orderFailed_reached _ _ j
  · split
    · refine State.reached_of_frame ?_ j
      rw [State.followUpFailed]
      split
      · rfl
      · exact (State.post_frame _ _).trans (State.setFollowUp_frame _ _ _)
    · rfl
  · split
    · exact State.reached_of_framePermits (State.permitFailed_framePermits _ _ _) j
    · rfl
  · exact State.reached_of_frame (State.setPrompts_frame _ _ _ _) j
  · exact State.reached_of_frame (State.textResult_frame _ _ _ _) j
  all_goals rfl

theorem State.event_reached (work : State → State) (slot : Nat) : (s.event work).reached slot = (work s.atEvent).reached slot := by
  rw [State.event_eq, State.reached, State.settle_crew?]
  exact State.reached_of_frame (State.giveSignals_frame _) slot

/-- A crew of which an individual telegram has failed finally, with the failures it counted before (R13). -/
def Crew.failed (threshold failures : Nat) (k : Crew) : Crew :=
  { k with failures := min 15 (failures + 1), reach := reachOf (min 15 (failures + 1)) threshold }

/-- A final failure changes the standing of its crew, with a notice where the crew's reachability changes (R13). -/
theorem State.rosterFailure_eq {slot : Nat} {k : Crew} (hk : s.crew? slot = some k) :
    s.rosterFailure slot = s.modCrew slot (Crew.failed s.params.reachThreshold k.failures)
      ∨ ∃ n : Subject, n.isAlarm = false ∧ s.rosterFailure slot = (s.modCrew slot (Crew.failed s.params.reachThreshold k.failures)).post n := by
  have hreach : reachOf (min 15 (k.failures + 1)) s.params.reachThreshold ≠ .reachable := by
    unfold reachOf
    split <;> nofun
  simp only [State.rosterFailure, State.setStanding, hk, Bool.false_eq_true, if_false]
  split
  · exact .inl rfl
  · rw [if_neg fun h => hreach h.2]
    exact .inr ⟨_, rfl, rfl⟩

end
/-! ### The work on permits, where a property does not turn on permits and devices -/

section
variable {may : Owner → Prop} {P : State → Prop} (hP : Spares may P)
  (hrecords : ∀ t permits devices, P t → P { t with permits := permits, devices := devices })
include hP hrecords

theorem Spares.stall {s : State} (hs : P s) (serial : Nat) (phase : Phase) (cause : StallCause) : P (s.stall serial phase cause) := by
  cases hp : s.permit? serial with
  | some p =>
    rw [State.stall_of_permit? phase cause hp]
    exact hP.post (hrecords s _ _ hs) _ rfl
  | none =>
    have hnone : ((s.leaveWaits serial).modPermit serial fun p =>
        { p with stall := some (phase, cause), waiting := false, readback := none, issueOwed := false }).permit? serial = none := by
      rw [State.permit?, State.modPermit, tFind_tMod Permit.serial _ _ _ _ (by intro; rfl)]
      exact congrArg (Option.map _) hp
    rw [State.stall, State.setPermitState, hnone]
    exact hrecords s _ _ hs

theorem Spares.actOnClaim {s : State} (hs : P s) {serial : Nat} (hmay : may (.permit .instruct serial)) (device : Nat) (what : ClaimFor)
    (a : ClaimAnswer) : P (s.actOnClaim serial device what a) := by
  cases a with
  | granted a => exact hP.offerPermit (hrecords s _ s.devices hs) hmay
  | wait => exact hrecords s _ s.devices hs
  | tagLimit => exact hP.stall hrecords hs serial _ _

theorem Spares.claimed {s : State} (hs : P s) {serial : Nat} (hmay : may (.permit .instruct serial)) (device : Nat) (what : ClaimFor) :
    P ((s.claim device serial what).1.actOnClaim serial device what (s.claim device serial what).2) := by
  unfold State.claim
  split
  · exact hP.actOnClaim hrecords hs hmay device what _
  · exact hP.actOnClaim hrecords (hrecords s s.permits _ hs) hmay device what _

variable (hmay : ∀ tg serial, may (.permit tg serial))
include hmay

theorem Spares.handTo {s : State} (hs : P s) (device : Nat) (ws : List Nat) : P (State.handTo device ws s) := by
  induction ws generalizing s with
  | nil => exact hs
  | cons serial more ih =>
    simp only [State.handTo]
    split
    · exact ih hs
    · split
      · exact ih hs
      · split
        · exact ih hs
        next n what _ =>
          have hone := hP.claimed hrecords (s := (s.leaveWaits serial).modPermit serial fun p => { p with waiting := false })
            (hrecords s _ _ hs) (hmay .instruct serial) device what
          split
          · exact ih hone
          · exact hone

theorem Spares.freeDevice {s : State} (hs : P s) (device : Nat) : P (s.freeDevice device) :=
  hP.handTo hrecords hmay (hrecords s s.permits _ hs) device _

theorem Spares.closePermit {s : State} (hs : P s) (serial : Nat) (cause : PermitCause) : P (s.closePermit serial cause) := by
  rw [State.closePermit]
  split
  · exact hs
  next p hp =>
    have hclosed : P (((s.leaveWaits serial).modPermit serial fun p =>
        { p with hold := false, waiting := false, surrender := false, stall := none, readback := none }).setPermitState serial .closed cause) := by
      have hp1 := State.permit?_modPermit (f := fun p => { p with hold := false, waiting := false, surrender := false, stall := none, readback := none })
        (fun _ => rfl) (show (s.leaveWaits serial).permit? serial = some p from hp)
      rw [State.setPermitState_of_inactive _ hp1 rfl]
      exact hP.post (hrecords s _ _ hs) _ rfl
    dsimp only
    split
    · exact hclosed
    · exact hP.offerPermit hclosed (hmay .closing serial)

theorem Spares.beginRestoration {s : State} (hs : P s) (serial : Nat) (cause : PermitCause) : P (s.beginRestoration serial cause) := by
  rw [State.beginRestoration]
  split
  · exact hs
  · split
    · exact hP.closePermit hrecords hmay hs serial cause
    · exact hP.claimNext hrecords hs (hmay .instruct serial)

variable (htaken : ∀ t serial tg, P t → P (t.takeBack serial tg))
include htaken

omit hmay in
theorem Spares.dropInstruction {s : State} (hs : P s) (serial : Nat) : P (s.dropInstruction serial) :=
  hP.syncPermitDefer (hrecords (s.takeBack serial .instruct) _ (s.takeBack serial .instruct).devices (htaken s serial .instruct hs)) serial

theorem Spares.releaseUnreported {s : State} (hs : P s) (serial : Nat) : P (s.releaseUnreported serial) := by
  rw [State.releaseUnreported]
  split
  · exact hs
  next i _ =>
    have hdropped := hP.dropInstruction hrecords htaken (hP.freeDevice hrecords hmay hs i.device) serial
    exact hrecords _ _ ((s.freeDevice i.device).dropInstruction serial).devices hdropped

theorem Spares.permitFailed {s : State} (hs : P s) (tg : PermitTg) (serial : Nat) : P (s.permitFailed tg serial) := by
  have hreleased := hP.releaseUnreported hrecords hmay htaken hs serial
  rw [State.permitFailed]
  split
  · exact hs
  · split
    · split
      · exact hP.beginRestoration hrecords hmay (s := (s.releaseUnreported serial).modPermit serial fun p => { p with cancelWait := false })
          (hrecords _ _ (s.releaseUnreported serial).devices hreleased) serial .restored
      · exact hP.stall hrecords hreleased serial _ _
    · exact hP.stall hrecords (hP.syncPermitDefer (hrecords s _ s.devices hs) serial) serial _ _
    · exact hP.post (hP.setTg hs (hmay .answer serial) _) _ rfl
    · exact hP.post (hP.setTg hs (hmay .closing serial) _) _ rfl

end
/-! ### A channel on which nothing is in flight -/

/-- No entry of a channel is in flight. -/
def State.NoneFlies (c : Chan) (t : State) : Prop := ∀ x ∈ (t.chan c).queue, x.inFlight = false

theorem State.NoneFlies.of_queue {s t : State} {c : Chan} (h : s.NoneFlies c)
    (hq : ∀ x ∈ (t.chan c).queue, ∃ y ∈ (s.chan c).queue, x.inFlight = y.inFlight) : t.NoneFlies c := fun x hx => by
  obtain ⟨y, hy, hsame⟩ := hq x hx
  exact hsame.trans (h y hy)

theorem State.NoneFlies.modChan {s : State} {c d : Chan} {f : Channel → Channel} (h : s.NoneFlies c)
    (hf : ∀ ch : Channel, ∀ x ∈ (f ch).queue, x ∈ ch.queue ∨ x.inFlight = false) : (s.modChan d f).NoneFlies c := fun x hx => by
  rcases State.mem_modChan_queue hx with hold | hnew
  · exact h x hold
  · exact (hf _ x hnew).elim (h x) id

/-- Traffic sends nothing (R142). -/
theorem noneFlies_spared (c : Chan) : Spares (fun _ => True) (State.NoneFlies c) where
  posted := posted_of_notices fun _ _ _ h => h
  quiet := fun _ _ _ _ h => h
  marks := fun s d f hf h => h.modChan fun ch x hx => by rw [hf] at hx; exact .inl hx
  crew := fun _ _ _ _ h => h
  enter := fun s d e hfresh h => h.modChan fun ch x hx => (mem_insertEntry.1 hx).elim (fun heq => .inr (heq ▸ hfresh.waits)) .inl
  leave := fun s d e _ _ _ _ h => h.modChan fun ch x hx => .inl (List.mem_of_mem_erase hx)
  drop := fun s d n _ h => h.modChan fun ch x hx => .inl (List.mem_of_mem_filter hx)
  order := fun _ _ _ _ _ _ _ h => h
  followUp := fun _ _ _ _ h => h
  permit := fun _ _ _ _ _ h => h
  mark := fun _ _ _ h => h
  prompt := fun s n body st _ h => by
    unfold State.setPrompts
    split <;> exact h
  reorder := fun _ _ _ _ _ _ _ _ _ _ h => h
  respond := fun _ _ _ _ h => h
  settle := fun s h x hx => h x (by rwa [State.settle_queue] at hx)
  headDue := fun _ _ _ _ _ _ _ _ _ _ => trivial
  followUpDue := fun _ _ _ _ _ _ _ => trivial
  permitDue := fun _ _ _ _ _ _ _ => trivial
  displaced := fun _ _ _ _ _ _ _ _ _ => trivial
  evicted := fun _ _ _ _ _ _ _ => ⟨fun _ _ => .inl trivial, fun _ _ => trivial, fun _ _ => trivial⟩

/-- An entry of a queue from which a telegram has been taken back was there before, up to its link (R170). -/
theorem State.mem_takeBack {s : State} {serial : Nat} {tg : PermitTg} {c : Chan} {x : Entry} (h : x ∈ ((s.takeBack serial tg).chan c).queue) :
    ∃ y ∈ (s.chan c).queue, x.inFlight = y.inFlight ∧ x.owner = y.owner := by
  rw [State.takeBack] at h
  split at h
  · exact ⟨x, (State.mem_withdraw h).1, rfl, rfl⟩
  · rw [State.unlink, State.modEntries, State.modChans_chan] at h
    obtain ⟨y, hy, rfl⟩ := List.mem_map.1 h
    refine ⟨y, hy, ?_⟩
    split <;> exact ⟨rfl, rfl⟩
  · exact ⟨x, h, rfl, rfl⟩

section
variable {s : State} {c : Chan}

theorem State.NoneFlies.leaveQueue (h : s.NoneFlies c) (slot n : Nat) : (s.leaveQueue slot n).NoneFlies c :=
  (noneFlies_spared c).leaveQueueAfter slot n h h

theorem State.NoneFlies.orderFailed (h : s.NoneFlies c) (n : Nat) (cause : OrderCause) : (s.orderFailed n cause).NoneFlies c := by
  have hmod (f : Order → Order) : (s.modOrder n f).NoneFlies c := h
  rw [State.orderFailed]
  split
  · exact h
  · split
    · split
      · exact State.NoneFlies.leaveQueue ((noneFlies_spared c).post (hmod _) _ rfl) _ n
      · exact (noneFlies_spared c).post (hmod _) _ rfl
    · exact (noneFlies_spared c).checkCrewOf (hmod _) n

/-- What an owner does as its telegram fails sends nothing. -/
theorem State.NoneFlies.ownerFailed (h : s.NoneFlies c) (d : Chan) (e : Entry) (cause : OrderCause) (r : TextOutcome) :
    (s.ownerFailed d e cause r).NoneFlies c := by
  have hP := noneFlies_spared c
  rw [State.ownerFailed]
  split
  · exact h.orderFailed _ _
  · split
    · rw [State.followUpFailed]
      split
      · exact h
      · exact hP.post (hP.setFollowUp h trivial _) _ rfl
    · exact h
  · split
    · exact hP.permitFailed (fun _ _ _ h => h) (fun _ _ => trivial)
        (fun t _ _ h => h.of_queue fun x hx => (State.mem_takeBack hx).imp fun y hy => ⟨hy.1, hy.2.1⟩) h _ _
    · exact h
  · exact hP.prompt _ _ _ _ trivial h
  · exact hP.textResult h _ _ _
  all_goals exact h

end

/-! ### A final failure (R148) -/

section
variable {s : State} {c : Chan} {e : Entry} {front back : List Entry}

theorem State.removeEntry_queue (s : State) (c : Chan) (e : Entry) : ((s.removeEntry c e).chan c).queue = (s.chan c).queue.erase e := by
  have hsignal (t : State) : ((t.signal c).chan c).queue = (t.chan c).queue := by rw [State.signal_chan]
  rw [State.removeEntry, hsignal, State.flowEval_queue, State.modChan_chan_same]

theorem erase_flying (hfront : ∀ x ∈ front, x.inFlight = false) (hfly : e.inFlight = true) : (front ++ e :: back).erase e = front ++ back := by
  have hnot : e ∉ front := fun hmem => absurd hfly (by rw [hfront e hmem]; decide)
  rw [List.erase_append_right _ hnot, List.erase_cons_head]

/-- The entry of an attempt that is over has left its queue (R151). -/
def State.over (s : State) (c : Chan) (e : Entry) : State := (s.modChan c Channel.unattempted).removeEntry c e

theorem State.over_queue (hq : (s.chan c).queue = front ++ e :: back) (hfront : ∀ x ∈ front, x.inFlight = false) (hfly : e.inFlight = true) :
    ((s.over c e).chan c).queue = front ++ back := by
  rw [State.over, State.removeEntry_queue, State.modChan_chan_same]
  exact (congrArg (List.erase · e) hq).trans (erase_flying hfront hfly)

theorem State.over_frame : (s.over c e).frame = (s.modChan c Channel.unattempted).frame := State.removeEntry_frame _ _ _

theorem State.endFailed_of_limit (hlinks : s.links e = true) (hlimit : s.params.attemptLimit ≤ e.attempts) (cause : FailCause) :
    s.endFailed c e cause = ((s.removeEntry c e).ownerFailed c e .failed (.failed cause)).rosterTakes e State.rosterFailure := by
  rw [State.endFailed, hlinks, if_neg (by simp), if_neg fun h => absurd h.1 (Nat.not_lt.2 hlimit)]

theorem State.endAttempt_of_limit {slot unit : Nat} (hfly : s.flying c = some e) (horphan : e.orphan = false) (hlinks : s.links e = true)
    (hlimit : s.params.attemptLimit ≤ e.attempts) (haddr : e.addr = .crew slot unit) (cause : FailCause) :
    s.endAttempt c (.failed cause) = ((s.over c e).ownerFailed c e .failed (.failed cause)).rosterFailure slot := by
  have hslot : e.addr.slot? = some slot := by rw [haddr]; rfl
  rw [State.endAttempt_of_failed hfly horphan, State.endFailed_of_limit (s := s.modChan c Channel.unattempted) hlinks hlimit,
    State.rosterTakes, hslot]
  rfl

/-- What does not turn on the crews is kept by a final failure's part of the Roster Table (R13). -/
theorem Spares.rosterFailure {may : Owner → Prop} {P : State → Prop} (hP : Spares may P)
    (hcrews : ∀ t l, P t → P { t with crews := l }) (hs : P s) (slot : Nat) : P (s.rosterFailure slot) := by
  cases hk : s.crew? slot with
  | none => rw [State.rosterFailure, hk]; exact hs
  | some k =>
    rcases State.rosterFailure_eq hk with h | ⟨n, hn, h⟩
    · rw [h]; exact hcrews s _ hs
    · rw [h]; exact hP.post (hcrews s _ hs) n hn

end
/-! ### An order that no traffic moves -/

/-- An order in a state that no traffic changes, with no link, and, if so stated, a channel without its telegram. -/
structure State.Ended (n : Nat) (st : OrderState) (crew : Option Nat) (gone : Prop) (c : Chan) (t : State) : Prop where
  record : (t.order? n).map (fun o => (o.state, o.link, o.crew)) = some (st, none, crew)
  queue  : gone → ∀ x ∈ (t.chan c).queue, x.owner ≠ .order n

section
variable {s : State} {n : Nat} {st : OrderState} {crew : Option Nat} {gone : Prop} {c : Chan}

theorem State.Ended.state (h : s.Ended n st crew gone c) {o : Order} (ho : s.order? n = some o) : o.state = st :=
  by
  have hrecord := h.record
  rw [ho] at hrecord
  exact (Prod.mk.inj (Option.some_inj.1 hrecord)).1

theorem State.Ended.modOrder (h : s.Ended n st crew gone c) (m : Nat) {f : Order → Order} (hf : ∀ o, (f o).number = o.number)
    (hsame : m = n → ∀ o, ((f o).state, (f o).link, (f o).crew) = (o.state, o.link, o.crew)) :
    (s.modOrder m f).Ended n st crew gone c := by
  refine ⟨?_, h.queue⟩
  obtain ⟨o, ho, heq⟩ := Option.map_eq_some_iff.1 h.record
  by_cases hm : n = m
  · subst hm
    rw [State.order?_modOrder hf ho]
    exact congrArg some ((hsame rfl o).trans heq)
  · rw [State.order?_modOrder_other hf hm]
    exact h.record

theorem State.Ended.modChan (h : s.Ended n st crew gone c) {d : Chan} {f : Channel → Channel}
    (hf : ∀ ch : Channel, ∀ x ∈ (f ch).queue, x ∈ ch.queue ∨ x.owner ≠ .order n) : (s.modChan d f).Ended n st crew gone c :=
  ⟨h.record, fun hg x hx => (State.mem_modChan_queue hx).elim (h.queue hg x) fun hnew => (hf _ x hnew).elim (h.queue hg x) id⟩

end

/-- Traffic moves an order neither to nor from the states that are not movable. -/
theorem ended_spared (n : Nat) {st : OrderState} (hst : st.movable = false) (crew : Option Nat) (gone : Prop) (c : Chan) :
    Spares (· ≠ .order n) (State.Ended n st crew gone c) where
  posted := posted_of_notices fun _ _ _ h => ⟨h.record, h.queue⟩
  quiet := fun _ _ _ _ h => ⟨h.record, h.queue⟩
  marks := fun s d f hf h => h.modChan fun ch x hx => by rw [hf] at hx; exact .inl hx
  crew := fun _ _ _ _ h => ⟨h.record, h.queue⟩
  enter := fun s d e hfresh h => h.modChan fun ch x hx => (mem_insertEntry.1 hx).elim (fun heq => .inr (heq ▸ hfresh.owner)) .inl
  leave := fun s d e _ _ _ _ h => h.modChan fun ch x hx => .inl (List.mem_of_mem_erase hx)
  drop := fun s d n _ h => h.modChan fun ch x hx => .inl (List.mem_of_mem_filter hx)
  order := fun s m st f hmay _ hf h => h.modOrder m
    (fun o => by
      split
      next ho => exact (congrArg Order.number (hf o ho).1 :)
      · rfl)
    fun heq => absurd (congrArg Owner.order heq) hmay
  followUp := fun s m _ _ h => h.modOrder m (fun _ => rfl) fun _ _ => rfl
  permit := fun _ _ _ _ _ h => ⟨h.record, h.queue⟩
  mark := fun _ _ _ h => ⟨h.record, h.queue⟩
  prompt := fun s m body st _ h => by
    unfold State.setPrompts
    split
    · exact ⟨h.record, h.queue⟩
    · exact h
  reorder := fun _ _ _ _ _ _ _ _ _ _ h => ⟨h.record, h.queue⟩
  respond := fun _ _ _ _ h => ⟨h.record, h.queue⟩
  settle := fun s h => ⟨h.record, fun hg x hx => h.queue hg x (by rwa [State.settle_queue] at hx)⟩
  headDue := fun s slot k m o h _ _ ho hassigned heq => by
    cases heq
    rw [← h.state ho, hassigned] at hst
    cases hst
  followUpDue := fun _ _ _ _ _ _ _ => nofun
  permitDue := fun _ _ _ _ _ _ _ => nofun
  displaced := fun s slot k ho eo h _ hsecond hmovable heq => by
    obtain ⟨-, -, ho', -⟩ := State.emergencySecond_eq hsecond
    rw [h.state ((congrArg s.order? (Owner.order.inj heq)).symm.trans ho'), hst] at hmovable
    cases hmovable
  evicted := fun s d e h _ _ _ => ⟨fun m _ => by
    by_cases hm : m = n
    · refine .inr fun t o ht ho hsent => ?_
      rw [← ht.state (hm ▸ ho), hsent] at hst
      cases hst
    · exact .inl fun heq => hm (Owner.order.inj heq), fun _ _ => nofun, fun _ howner => howner n⟩

section
variable {s : State} {n : Nat} {o : Order} (ho : s.order? n = some o) (hst : o.state = .sent)
include ho hst

theorem State.orderFailed_undelivered (cause : OrderCause) {gone : Prop} {c : Chan}
    (hgone : gone → ∀ x ∈ (s.chan c).queue, x.owner ≠ .order n) : (s.orderFailed n cause).Ended n .undelivered o.crew gone c := by
  have hP := ended_spared n (st := .undelivered) rfl o.crew gone c
  have hone : ((s.modOrder n fun o => { o with state := .undelivered, link := none }).post
      (.orderState n o.crew .sent .undelivered (some cause))).Ended n .undelivered o.crew gone c := by
    refine hP.post (s := s.modOrder n fun o => { o with state := .undelivered, link := none }) ⟨?_, hgone⟩ _ (by rfl)
    rw [State.order?_modOrder (by intro; rfl) ho]
    rfl
  simp only [State.orderFailed, ho, hst, if_true]
  split
  · exact hP.leaveQueueAfter _ n ⟨hone.record, hone.queue⟩ hone
  · exact hone

/-- A final failure or a rejection of an ORDER telegram (R32). -/
theorem State.orderFailed_frame (cause : OrderCause) {slot : Nat} (hcrew : o.crew = some slot) : (s.orderFailed n cause).frame
    = ((s.modOrder n fun o => { o with state := .undelivered }).modCrew slot fun k => { k with queue := k.queue.erase n }).frame := by
  simp only [State.orderFailed, ho, hst, hcrew, if_true]
  rw [State.leaveQueue_frame]
  refine State.modCrew_frame_congr ?_ slot fun k => by simp only [Crew.frame, sort_erase_sort]
  rw [State.post_frame]
  exact State.modOrder_frame_ext n fun _ => rfl

end
/-! ### A permit whose telegram has failed (R72, R80) -/

section
variable {s : State} {serial : Nat} {p : Permit} {i : Outstanding} (hp : s.permit? serial = some p)
include hp

/-- An instruction released without a report leaves its permit without it (R58). -/
theorem State.releaseUnreported_record (hout : p.outstanding = some i) : ∃ q, (s.releaseUnreported serial).permit? serial = some q
    ∧ q.outstanding = none ∧ q.lastReleased = some i.index ∧ q.core = ({ p with lastReleased := some i.index } : Permit).core
    ∧ (p.state = .restoring → q.state = .restoring) := by
  have hrelease : s.releaseUnreported serial = ((s.freeDevice i.device).dropInstruction serial).modPermit serial fun p =>
      { p with lastReleased := some i.index } := by
    simp only [State.releaseUnreported, hp, Option.bind_some, hout]
  have hspared := s.freeDevice_spared i.device
  obtain ⟨r, hr, hcore⟩ := Option.map_eq_some_iff.1 ((hspared.core serial).trans (congrArg (Option.map Permit.core) hp))
  obtain ⟨q, hq, hqframe⟩ := State.permit?_of_frameWatch_some
    (State.frameWatch_of_frame ((s.freeDevice i.device).dropInstruction_frame serial))
    (State.permit?_modPermit (f := fun p => { p with outstanding := none }) (fun _ => rfl) hr)
  have hqout : q.outstanding = none := Option.map_eq_none_iff.1 (congrArg Permit.outstanding hqframe :)
  have hqcore : q.core = p.core := ((Permit.core_of_frame hqframe).trans rfl).trans hcore
  rw [hrelease]
  refine ⟨_, State.permit?_modPermit (f := fun p => { p with lastReleased := some i.index }) (fun _ => rfl) hq, hqout, rfl,
    (congrArg (fun f : Permit => { f with lastReleased := some i.index }) hqcore :), fun hst => ?_⟩
  obtain ⟨r', hr', hrestore⟩ := hspared.restore serial p hp hst
  obtain rfl : r' = r := Option.some.inj (hr'.symm.trans hr)
  exact (congrArg Permit.state hqframe :).trans hrestore

theorem State.stall_record (phase : Phase) (cause : StallCause) :
    (s.stall serial phase cause).permit? serial = some (p.stalledBy phase cause) := by
  rw [State.stall_of_permit? phase cause hp, State.permit?, State.post_permits]
  exact State.permit?_modPermit (f := fun p => p.stalledBy phase cause) (fun _ => rfl)
    (show (s.leaveWaits serial).permit? serial = some p from hp)

/-- An instruction that fails finally stalls its permit (R72). -/
theorem State.permitFailed_instruct (hout : p.outstanding = some i) (hwait : p.cancelWait = false) :
    ∃ q, (s.permitFailed .instruct serial).permit? serial = some q
      ∧ (q.state, q.stall, q.outstanding, q.lastReleased)
        = (.stalled, some (p.state.phase, .undelivered), none, some i.index) := by
  obtain ⟨q, hq, hqout, hlast, -⟩ := State.releaseUnreported_record hp hout
  refine ⟨q.stalledBy p.state.phase .undelivered, ?_, ?_⟩
  · simp only [State.permitFailed, hp, hwait]
    exact State.stall_record hq _ _
  · simp only [Permit.stalledBy, hqout, hlast]

/-- An instruction that fails finally after its permit was cancelled begins restoration (R92). -/
theorem State.permitFailed_cancelled (hout : p.outstanding = some i) (hwait : p.cancelWait = true) (hst : p.state = .restoring) :
    ∃ s0 p0 q, (s.permitFailed .instruct serial).permit? serial = some q
      ∧ Permit.Restoring s0 (s.permitFailed .instruct serial) serial p0 q
      ∧ p0.state = .restoring ∧ p0.cancelWait = false ∧ p0.stack = p.stack ∧ p0.lastReleased = some i.index := by
  obtain ⟨q, hq, -, hlast, hcore, hstate⟩ := State.releaseUnreported_record hp hout
  have hq1 := State.permit?_modPermit (f := fun p => { p with cancelWait := false }) (fun _ => rfl) hq
  obtain ⟨q', hq', hrestoring⟩ := State.beginRestoration_restoring rfl hq1 (hstate hst) .restored
  have hwork : s.permitFailed .instruct serial
      = ((s.releaseUnreported serial).modPermit serial fun p => { p with cancelWait := false }).beginRestoration serial .restored := by
    simp only [State.permitFailed, hp, hwait, if_true]
  rw [hwork]
  exact ⟨_, _, q', hq', hrestoring, hstate hst, rfl, (congrArg Permit.stack hcore :), hlast⟩

/-- An issue that fails finally stalls its permit, with no issue on its way (R80). -/
theorem State.permitFailed_issue : (∃ q, (s.permitFailed .issue serial).permit? serial = some q
      ∧ (q.state, q.stall) = (.stalled, some (.issuing, .undelivered)))
    ∧ (s.noneWaits (.permit .issue serial) → (s.permitFailed .issue serial).Untold .issue serial) := by
  have hgone := State.permit?_modPermit (f := fun p => { p with issue := none }) (fun _ => rfl) hp
  obtain ⟨q, hq, -⟩ := State.permit?_of_frameWatch_some (State.frameWatch_of_frame (State.syncPermitDefer_frame _ serial)) hgone
  have hwork : s.permitFailed .issue serial
      = ((s.modPermit serial fun p => { p with issue := none }).syncPermitDefer serial).stall serial .issuing .undelivered := by
    simp only [State.permitFailed, hp]
  rw [hwork]
  refine ⟨⟨_, State.stall_record hq _ _, rfl⟩, fun hwaits => ?_⟩
  have hnone : (s.modPermit serial fun p => { p with issue := none }).Untold .issue serial := by
    refine ⟨fun r hr => ?_, hwaits⟩
    rw [hgone] at hr
    cases hr
    rfl
  have hsynced := (untold_spared .issue serial).syncPermitDefer hnone serial
  rw [State.stall_of_permit? _ _ hq]
  refine (untold_spared .issue serial).post ?_ _ rfl
  exact State.Untold.modPermit (s := ((s.modPermit serial fun p => { p with issue := none }).syncPermitDefer serial).leaveWaits serial)
    (f := fun p => p.stalledBy .issuing .undelivered) ⟨hsynced.record, hsynced.waits⟩ (fun _ => rfl) fun _ _ ht => ht

end
/-! ### The ends of the waits (R144, R154, R155) -/

/-- A channel whose reply window has ended (R144). -/
def Channel.windowOver (ch : Channel) : Channel :=
  { ch with
    state := .idle, attempt := if ch.queue.any (·.inFlight) then none else ch.attempt, txFrame := [], origin := none, afterAnswer := none
    replyWindow := none, repeatWait := none, ranOut := !ch.carrier }

/-- What a channel is as it comes to IDLE by an expiry (R141). -/
def Channel.rested (ch : Channel) : Channel :=
  { ch with
    state := .idle, txFrame := [], origin := none, afterAnswer := none, replyWindow := none, repeatWait := none, ranOut := !ch.carrier }

section
variable {s : State} {c : Chan}

theorem State.idleByExpiry_eq : s.idleByExpiry c = s.modChan c Channel.rested := by
  rw [State.idleByExpiry, State.enterIdle, State.modChan_modChan]
  rfl

theorem State.expireReplyWindow_of_not (h : (s.chan c).state ≠ .awaitReply ∨ (s.chan c).replyWindow = none) : s.expireReplyWindow c = s := by
  refine if_neg fun ⟨hstate, hwindow⟩ => h.elim (absurd hstate) fun hnone => ?_
  rw [hnone] at hwindow
  cases hwindow

theorem State.expireRepeatWait_of_not (h : (s.chan c).state ≠ .awaitRepeat ∨ (s.chan c).repeatWait = none) : s.expireRepeatWait c = s := by
  refine if_neg fun ⟨hstate, hwait⟩ => h.elim (absurd hstate) fun hnone => ?_
  rw [hnone] at hwait
  cases hwait

theorem State.answerGone_of_end (hstate : (s.chan c).state = .answering) (hafter : (s.chan c).afterAnswer ≠ some .await) :
    s.answerGone c = s.enterIdle c := by
  rw [State.answerGone, if_pos hstate]
  split
  next h => exact absurd h hafter
  · rfl

theorem State.answerGone_of_await (hstate : (s.chan c).state = .answering) (hafter : (s.chan c).afterAnswer = some .await) :
    s.answerGone c = s.enterAwaitRepeat c := by
  rw [State.answerGone, if_pos hstate, hafter]

theorem State.expireRepeatWait_of (hstate : (s.chan c).state = .awaitRepeat) (hwait : (s.chan c).repeatWait ≠ none) :
    s.expireRepeatWait c = s.modChan c fun ch => { ch.rested with assembly := none } := by
  rw [State.expireRepeatWait, if_pos ⟨hstate, Option.isSome_iff_ne_none.2 hwait⟩, State.idleByExpiry_eq, State.modChan_modChan]
  rfl

theorem State.modChan_windowOver {e : Entry} (hfly : s.flying c = some e) :
    (s.modChan c Channel.unattempted).modChan c Channel.rested = s.modChan c Channel.windowOver := by
  rw [State.modChan_modChan]
  refine State.modChan_congr ?_
  rw [Channel.windowOver, State.any_inFlight_of_flying hfly]
  rfl

/-- The records after an event are those after its work, up to traffic. -/
theorem State.event_permit?_frame (work : State → State) (n : Nat) :
    ((s.event work).permit? n).map Permit.frame = ((work s.atEvent).permit? n).map Permit.frame := by
  rw [State.event_eq, State.settle_permit?]
  exact State.permit?_of_frameWatch (State.frameWatch_of_frame (State.giveSignals_frame _)) n

theorem State.rosterFailure_permits (slot : Nat) : (s.rosterFailure slot).permits = s.permits := by
  cases hk : s.crew? slot with
  | none => rw [State.rosterFailure, hk]
  | some k =>
    rcases State.rosterFailure_eq hk with h | ⟨n, -, h⟩
    · rw [h]; rfl
    · rw [h, State.post_permits]; rfl

theorem State.rosterFailure_reached {slot : Nat} {k : Crew} (hk : s.crew? slot = some k) : (s.rosterFailure slot).reached slot
    = some (min 15 (k.failures + 1), reachOf (min 15 (k.failures + 1)) s.params.reachThreshold, k.lastHeard) := by
  have hmod : (s.modCrew slot (Crew.failed s.params.reachThreshold k.failures)).reached slot
      = some (min 15 (k.failures + 1), reachOf (min 15 (k.failures + 1)) s.params.reachThreshold, k.lastHeard) := by
    rw [State.reached, State.crew?_modCrew (by intro; rfl) hk]
    rfl
  rcases State.rosterFailure_eq hk with h | ⟨n, -, h⟩
  · rw [h, hmod]
  · rw [h, State.reached_of_frame (State.post_frame _ _), hmod]

theorem State.rosterFailure_frame {slot : Nat} {k : Crew} (hk : s.crew? slot = some k) :
    (s.rosterFailure slot).frame = (s.modCrew slot (Crew.failed s.params.reachThreshold k.failures)).frame := by
  rcases State.rosterFailure_eq hk with h | ⟨n, -, h⟩
  · rw [h]
  · rw [h, State.post_frame]

section
variable (hstate : (s.chan c).state = .awaitReply) (hwindow : (s.chan c).replyWindow ≠ none)
include hstate hwindow

theorem State.expireReplyWindow_of : s.expireReplyWindow c = (s.endAttempt c (.failed .noReply)).modChan c Channel.rested := by
  rw [State.expireReplyWindow, if_pos ⟨hstate, Option.isSome_iff_ne_none.2 hwindow⟩, State.idleByExpiry_eq]

theorem State.expireReplyWindow_shape : (s.expireReplyWindow c).shape = s.shape := by
  rw [State.expireReplyWindow_of hstate hwindow, State.modChan_shape, State.endAttempt_shape]

theorem State.expireReplyWindow_air : ((s.expireReplyWindow c).chan c).air = ((s.chan c).windowOver).air := by
  rw [State.expireReplyWindow_of hstate hwindow, State.modChan_chan_same]
  cases hf : s.flying c with
  | none =>
    rw [State.endAttempt_of_idle hf, Channel.windowOver, State.any_inFlight_of_none hf]
    rfl
  | some e =>
    have hair := State.air_of_airs (State.endAttempt_airs (r := .failed .noReply) hf) c
    rw [State.modChan_chan_same] at hair
    rw [Channel.windowOver, State.any_inFlight_of_flying hf]
    exact (congrArg (fun ch : Channel => ch.rested) hair :)

end
end


end Sys2Proof.Machine
end

section
/-!
Final failures (R148), and how the waits of a channel end (R144, R154, R155): O58.
-/

namespace Sys2Proof.Machine
theorem State.modCrew_modCrew (s : State) (n : Nat) {f : Crew → Crew} (g : Crew → Crew) (hf : ∀ k, (f k).slot = k.slot) :
    (s.modCrew n f).modCrew n g = s.modCrew n fun k => g (f k) := by
  have htwo : ∀ k : Crew, (if (if k.slot = n then f k else k).slot = n then g (if k.slot = n then f k else k)
      else if k.slot = n then f k else k) = if k.slot = n then g (f k) else k := fun k => by
    by_cases hk : k.slot = n <;> simp [hk, hf]
  simp only [State.modCrew, tMod, List.map_map, Function.comp_def, htwo]

section
variable {s : State} {c : Chan} {e : Entry}

theorem State.rosterFailure_chan (slot : Nat) (d : Chan) : (s.rosterFailure slot).chan d = s.chan d := by
  cases hk : s.crew? slot with
  | none => rw [State.rosterFailure, hk]
  | some k =>
    rcases State.rosterFailure_eq hk with h | ⟨n, -, h⟩
    · rw [h]; rfl
    · rw [h, State.post_chan]; rfl

theorem State.rosterFailure_signals (slot : Nat) : (s.rosterFailure slot).signals = s.signals := by
  cases hk : s.crew? slot with
  | none => rw [State.rosterFailure, hk]
  | some k =>
    rcases State.rosterFailure_eq hk with h | ⟨n, -, h⟩
    · rw [h]; rfl
    · rw [h, State.post_signals]; rfl

theorem State.over_onlyChans (s : State) (c : Chan) (e : Entry) : OnlyChans s (s.over c e) :=
  ((s.modChan_onlyChans c _).trans ((State.modChan_onlyChans _ c _).trans (State.flowEval_onlyChans _ c))).trans (State.signal_onlyChans _ c)

theorem State.over_order? (n : Nat) : (s.over c e).order? n = s.order? n :=
  congrArg (tFind Order.number n) (s.over_onlyChans c e).orders

theorem State.over_permit? (n : Nat) : (s.over c e).permit? n = s.permit? n :=
  congrArg (tFind Permit.serial n) (s.over_onlyChans c e).permits

theorem State.over_crew? (n : Nat) : (s.over c e).crew? n = s.crew? n :=
  congrArg (tFind Crew.slot n) (s.over_onlyChans c e).crews

theorem State.over_noneWaits {o : Owner} (h : s.noneWaits o) : (s.over c e).noneWaits o := by
  refine State.noneWaits_of_queues (fun d x hx _ => ?_) h
  rw [State.over, State.removeEntry, State.signal_chan, State.flowEval_queue] at hx
  rcases State.mem_modChan_queue hx with hold | hnew
  · rcases State.mem_modChan_queue hold with hold | hnew
    · exact hold
    · exact hnew
  · rcases State.mem_modChan_queue (List.mem_of_mem_erase hnew) with hold | hnew
    · exact hold
    · exact hnew

/-- What an owner does as its telegram fails leaves its crew's standing for the Roster Table. -/
theorem State.ownerFailed_crew {slot : Nat} {k : Crew} (hk : s.crew? slot = some k) (cause : OrderCause) (r : TextOutcome) :
    ∃ k1, ((s.over c e).ownerFailed c e cause r).crew? slot = some k1 ∧ k1.failures = k.failures ∧ k1.lastHeard = k.lastHeard
      ∧ ((s.over c e).ownerFailed c e cause r).params = s.params := by
  have hreached : ((s.over c e).ownerFailed c e cause r).reached slot = some (k.failures, k.reach, k.lastHeard) := by
    rw [State.ownerFailed_reached, State.reached, State.over_crew?, hk]
    rfl
  obtain ⟨k1, hk1, heq⟩ := Option.map_eq_some_iff.1 hreached
  simp only [Prod.mk.injEq] at heq
  have hshape : ((s.over c e).ownerFailed c e cause r).shape = (s.over c e).shape := State.ownerFailed_shape ..
  exact ⟨k1, hk1, heq.1, heq.2.2, (congrArg Shape.params hshape :).trans (s.over_onlyChans c e ▸ rfl)⟩

/-- A telegram that has failed finally: its entry removed, its owner told, and its crew's failures counted (R151). -/
def State.lostTo (s : State) (c : Chan) (e : Entry) (slot : Nat) (cause : FailCause) : State :=
  ((s.over c e).ownerFailed c e .failed (.failed cause)).rosterFailure slot

theorem State.lostTo_reached {slot : Nat} {k : Crew} (hk : s.crew? slot = some k) (cause : FailCause) :
    (s.lostTo c e slot cause).reached slot
      = some (min 15 (k.failures + 1), reachOf (min 15 (k.failures + 1)) s.params.reachThreshold, k.lastHeard) := by
  obtain ⟨k1, hk1, hfailures, hheard, hparams⟩ := State.ownerFailed_crew (c := c) (e := e) hk .failed (.failed cause)
  rw [State.lostTo, State.rosterFailure_reached hk1, hparams, hfailures, hheard]

/-- The frame of a telegram's final failure, from what its owner does. -/
theorem State.lostTo_frame {slot : Nat} {k : Crew} {t : State} (hk : s.crew? slot = some k) (cause : FailCause)
    (h : ((s.over c e).ownerFailed c e .failed (.failed cause)).frame = t.frame) :
    (s.lostTo c e slot cause).frame = (t.modCrew slot (Crew.failed s.params.reachThreshold k.failures)).frame := by
  obtain ⟨k1, hk1, hfailures, -, hparams⟩ := State.ownerFailed_crew (c := c) (e := e) hk .failed (.failed cause)
  rw [State.lostTo, State.rosterFailure_frame hk1, hparams, hfailures]
  exact State.modCrew_frame_congr h slot fun k => by simp only [Crew.frame, Crew.failed, sort_sort]

theorem State.lostTo_noneFlies {front back : List Entry} (hq : (s.chan c).queue = front ++ e :: back)
    (hfront : ∀ x ∈ front, x.inFlight = false) (hback : ∀ x ∈ back, x.inFlight = false) (hfly : e.inFlight = true) (slot : Nat)
    (cause : FailCause) : (s.lostTo c e slot cause).NoneFlies c := by
  have hover : (s.over c e).NoneFlies c := fun x hx => by
    rw [State.over_queue hq hfront hfly] at hx
    exact (List.mem_append.1 hx).elim (hfront x) (hback x)
  exact (noneFlies_spared c).rosterFailure (fun _ _ h => h) (hover.ownerFailed c e _ _) slot

end

/-! What a final failure's owner does, by its kind. -/

section
variable {s : State} {c : Chan} {e : Entry} {n slot unit : Nat}

theorem State.ownerFailed_of_text (howner : e.owner = .text n) (haddr : e.addr = .crew slot unit) (cause : OrderCause) (r : TextOutcome) :
    s.ownerFailed c e cause r = s.post (.textResult n (.crew slot) r) := by
  simp only [State.ownerFailed, State.textResult, howner, haddr]

theorem State.ownerFailed_of_order (howner : e.owner = .order n) (cause : OrderCause) (r : TextOutcome) :
    s.ownerFailed c e cause r = s.orderFailed n cause := by
  simp only [State.ownerFailed, howner]

theorem State.ownerFailed_of_permit {tg : PermitTg} {serial : Nat} (howner : e.owner = .permit tg serial) (hlinked : e.linked = true)
    (cause : OrderCause) (r : TextOutcome) : s.ownerFailed c e cause r = s.permitFailed tg serial := by
  simp only [State.ownerFailed, howner, hlinked, if_true]

/-- An order whose telegram has failed is UNDELIVERED and out of its crew's queue (R32). -/
theorem State.ownerFailed_order_frame {o : Order} (howner : e.owner = .order n) (ho : s.order? n = some o) (hst : o.state = .sent)
    (hcrew : o.crew = some slot) (cause : OrderCause) (r : TextOutcome) : ((s.over c e).ownerFailed c e cause r).frame
      = (((s.modChan c Channel.unattempted).modOrder n fun o => { o with state := .undelivered }).modCrew slot
        fun k => { k with queue := k.queue.erase n }).frame := by
  rw [State.ownerFailed_of_order howner, State.orderFailed_frame ((State.over_order? n).trans ho) hst cause hcrew]
  refine State.modCrew_frame_congr ?_ slot fun k => by simp only [Crew.frame, sort_erase_sort]
  exact State.modOrder_frame_of_orders State.over_frame (s.over_onlyChans c e).orders n _

end

theorem State.over_deferrals {s : State} {c : Chan} {e : Entry} (hsignals : s.signals = []) :
    ((s.over c e).chan c).permitDefer = (s.chan c).permitDefer ∧ ((s.over c e).chan c).orderDefer = (s.chan c).orderDefer := by
  rw [State.over, State.removeEntry_of_no_signals (s := s.modChan c Channel.unattempted) hsignals, State.withSignals_chan,
    State.modChan_chan_same, State.modChan_chan_same]
  exact ⟨rfl, rfl⟩

/-- A text whose telegram has failed leaves its queue, and nothing more where nothing is deferred on its channel (R171, R173). -/
theorem State.lostTo_text {s : State} {c : Chan} {e : Entry} {n slot unit : Nat} (howner : e.owner = .text n)
    (haddr : e.addr = .crew slot unit) (hsignals : s.signals = []) (cause : FailCause) :
    (s.lostTo c e slot cause).signals = [c] ∧ ∀ d, (s.lostTo c e slot cause).chan d = (s.over c e).chan d := by
  rw [State.lostTo, State.rosterFailure_signals, State.ownerFailed_of_text howner haddr]
  refine ⟨?_, fun d => ?_⟩
  · rw [State.post_signals, State.over, State.removeEntry_of_no_signals (s := s.modChan c Channel.unattempted) hsignals]
    rfl
  · rw [State.rosterFailure_chan, State.post_chan]

theorem State.ownerFailed_undelivered {s : State} {c : Chan} {e : Entry} {n : Nat} {o : Order} {gone : Prop} (howner : e.owner = .order n)
    (ho : s.order? n = some o) (hst : o.state = .sent) (hgone : gone → ∀ x ∈ ((s.over c e).chan c).queue, x.owner ≠ .order n)
    (cause : OrderCause) (r : TextOutcome) : ((s.over c e).ownerFailed c e cause r).Ended n .undelivered o.crew gone c := by
  rw [State.ownerFailed_of_order howner]
  exact State.orderFailed_undelivered ((State.over_order? n).trans ho) hst _ hgone

/-- What is told of a permit whose telegram has failed does not turn on where its telegrams stand. -/
theorem Permit.failure_of_frame {p q : Permit} {state : PermitState} {stall : Option (Phase × StallCause)} {last : Option Nat}
    (h : p.frame = q.frame) (hq : (q.state, q.stall, q.outstanding, q.lastReleased) = (state, stall, none, last)) :
    (p.state, p.stall, p.outstanding, p.lastReleased) = (state, stall, none, last) := by
  simp only [Prod.mk.injEq] at hq
  obtain ⟨rfl, rfl, hout, rfl⟩ := hq
  have hnone : p.outstanding = none := by
    have hmap : p.outstanding.map (fun i => { i with status := .queued }) = q.outstanding.map (fun i => { i with status := .queued }) :=
      (congrArg Permit.outstanding h :)
    rw [hout] at hmap
    exact Option.map_eq_none_iff.1 hmap
  simp only [Prod.mk.injEq]
  exact ⟨(congrArg Permit.state h :), (congrArg Permit.stall h :), hnone, (congrArg Permit.lastReleased h :)⟩

theorem Phase.phase_state (phase : Phase) : phase.state.phase = phase := by
  cases phase <;> rfl

theorem State.Untold.modChan {s : State} {tg : PermitTg} {serial : Nat} (h : s.Untold tg serial) {c : Chan} {f : Channel → Channel}
    (hf : ∀ ch, (f ch).queue = ch.queue) : (s.modChan c f).Untold tg serial := by
  refine ⟨h.record, State.noneWaits_of_queues (fun d x hx _ => ?_) h.waits⟩
  exact (State.mem_modChan_queue hx).elim id fun hnew => by rwa [hf] at hnew

/-- Settles O58. -/
theorem waitsEnd : Obligations.WaitsEnd := by
  intro c s idled ended
  refine ⟨fun hstate hwindow => ?_, ?_, fun hno => ?_, fun hstate hwait => ?_, fun hno => ?_, fun hno => ?_, fun hstate hafter => ?_,
    fun hstate hafter => ?_⟩
  · have hstate' : (s.atEvent.chan c).state = .awaitReply := hstate
    refine ⟨_, rfl, s.event_quiet_of_shape _ (State.expireReplyWindow_shape hstate' hwindow),
      (State.event_air _ c).trans (State.expireReplyWindow_air hstate' hwindow), fun e hfly horphan hlinks hcall hlimit => ⟨?_, ?_⟩⟩
    · refine State.event_alike ?_
      rw [State.expireReplyWindow_of hstate' hwindow]
      refine (State.modChan_frame_congr (State.endAttempt_again_frame (s := s.atEvent) hfly horphan hlinks hcall hlimit .noReply) c
        fun _ => rfl).trans ?_
      rw [State.modChan_windowOver (s := s.atEvent) hfly]
      rfl
    · intro front back slot unit k hq hfront haddr hk hcurrent horder
      have hfly' : e.inFlight = true := List.find?_some hfly
      obtain ⟨hqueue, hsignals⟩ := State.endAttempt_stays (s := s.atEvent) rfl hq hfront hfly' horphan hlinks hcall hlimit .noReply haddr hk
        hcurrent horder
      have hwork := State.expireReplyWindow_of hstate' hwindow
      rw [State.event_eq, State.settle_queue, State.giveSignals_none (by rw [hwork]; exact hsignals), hwork, State.modChan_chan_same]
      exact hqueue
  · intro front e back slot unit k hstate hwindow hq hnone hfly haddr horphan hlinks hlimit hk failures reach
    have hfront : ∀ x ∈ front, x.inFlight = false := fun x hx => hnone x (List.mem_append_left back hx)
    have hback : ∀ x ∈ back, x.inFlight = false := fun x hx => hnone x (List.mem_append_right front hx)
    have hstate' : (s.atEvent.chan c).state = .awaitReply := hstate
    have hflying : s.atEvent.flying c = some e := State.flying_of_queue hq hfront hfly
    have hwork : s.atEvent.expireReplyWindow c = (s.atEvent.lostTo c e slot .noReply).modChan c Channel.rested := by
      rw [State.expireReplyWindow_of hstate' hwindow, State.endAttempt_of_limit hflying horphan hlinks hlimit haddr]
      rfl
    have hframe {t : State} (h : ((s.atEvent.over c e).ownerFailed c e .failed (.failed .noReply)).frame = t.frame) :
        (s.atEvent.expireReplyWindow c).frame
          = ((t.modCrew slot (Crew.failed s.params.reachThreshold k.failures)).modChan c Channel.rested).frame := by
      rw [hwork]
      exact State.modChan_frame_congr (State.lostTo_frame (s := s.atEvent) hk .noReply h) c fun _ => rfl
    have hquiet : ∀ x ∈ ((s.event fun t => t.expireReplyWindow c).chan c).queue, x.inFlight = false := by
      refine (noneFlies_spared c).event ?_
      rw [hwork]
      exact (State.lostTo_noneFlies (s := s.atEvent) hq hfront hback hfly slot .noReply).modChan fun _ _ hx => .inl hx
    have hpermit {serial : Nat} {q : Permit} (hfailed : ((s.atEvent.over c e).ownerFailed c e .failed (.failed .noReply)).permit? serial = some q) :
        ∃ p', (s.event fun t => t.expireReplyWindow c).permit? serial = some p' ∧ p'.frame = q.frame := by
      refine Option.map_eq_some_iff.1 ((State.event_permit?_frame _ _).trans ?_)
      rw [hwork]
      refine congrArg (Option.map Permit.frame) (Eq.trans ?_ hfailed)
      exact congrArg (tFind Permit.serial serial) (State.rosterFailure_permits slot)
    have hundelivered {n : Nat} {o : Order} {gone : Prop} (howner : e.owner = .order n) (ho : s.order? n = some o)
        (hgone : gone → ∀ x ∈ front ++ back, x.owner ≠ .order n) :
        (s.event fun t => t.expireReplyWindow c).Ended n .undelivered o.crew gone c := by
      have hst : o.state = .sent := by simpa [State.links, howner, ho] using hlinks
      have hP := ended_spared n (st := .undelivered) rfl o.crew gone c
      refine hP.event ?_
      rw [hwork]
      refine (hP.rosterFailure (fun _ _ h => ⟨h.record, h.queue⟩) ?_ slot).modChan fun _ _ hx => .inl hx
      refine State.ownerFailed_undelivered (s := s.atEvent) howner ho hst (fun hg x hx => hgone hg x ?_) _ _
      rwa [State.over_queue (s := s.atEvent) hq hfront hfly] at hx
    refine ⟨_, rfl, s.event_quiet_of_shape _ (State.expireReplyWindow_shape hstate' hwindow),
      (State.event_air _ c).trans (State.expireReplyWindow_air hstate' hwindow), ?_, hquiet, fun n howner hpermits horders => ⟨?_, ?_⟩,
      fun n o howner ho => ⟨?_, fun hothers => ?_, fun hcrew => ?_⟩, fun serial p i phase howner hp hout hwait hphase => ?_,
      fun serial p howner hp hwaits => ?_⟩
    · have hreached := (s.event_reached _ slot).trans ((congrArg (State.reached · slot) hwork).trans
        (State.lostTo_reached (s := s.atEvent) (c := c) (e := e) hk .noReply :))
      obtain ⟨k', hk', heq⟩ := Option.map_eq_some_iff.1 hreached
      simp only [Prod.mk.injEq] at heq
      exact (congrArg (Option.map _) hk').trans (congrArg some (Prod.ext heq.1 heq.2.1))
    · obtain ⟨hsignals, hchan⟩ := State.lostTo_text (s := s.atEvent) (c := c) (e := e) howner haddr rfl .noReply
      have hnothing : (s.atEvent.expireReplyWindow c).giveSignals
          = { s.atEvent.expireReplyWindow c with signals := [], choices := (s.atEvent.expireReplyWindow c).choices + ([c].length - 1) } := by
        rw [hwork]
        refine (State.giveSignals_of_nothing fun d hd => ?_).trans (by rw [State.modChan_signals, hsignals])
        rw [State.modChan_signals, hsignals, List.mem_singleton] at hd
        subst hd
        obtain ⟨hpermit', horder'⟩ := State.over_deferrals (s := s.atEvent) (c := d) (e := e) rfl
        rw [State.modChan_chan_same, hchan]
        exact ⟨hpermit'.trans hpermits, horder'.trans horders⟩
      rw [State.event_eq, State.settle_queue, hnothing]
      refine Eq.trans (b := ((s.atEvent.expireReplyWindow c).chan c).queue) rfl ?_
      rw [hwork, State.modChan_chan_same, hchan]
      exact State.over_queue (s := s.atEvent) hq hfront hfly
    · refine State.event_alike ((hframe (t := s.atEvent.modChan c Channel.unattempted) ?_).trans ?_)
      · rw [State.ownerFailed_of_text howner haddr, State.post_frame]
        exact State.over_frame
      · exact (congrArg (fun t : State => (t.modCrew slot (Crew.failed s.params.reachThreshold k.failures)).frame)
          (State.modChan_windowOver hflying)).trans rfl
    · exact (hundelivered (gone := False) howner ho nofun).record
    · exact (hundelivered (gone := True) howner ho fun _ => hothers).queue trivial
    · have hst : o.state = .sent := by simpa [State.links, howner, ho] using hlinks
      refine State.event_alike ((hframe (State.ownerFailed_order_frame (s := s.atEvent) howner ho hst hcrew _ _)).trans ?_)
      refine (congrArg (fun t : State => (((t.modOrder n fun o => { o with state := .undelivered }).modCrew slot
        fun k => { k with queue := k.queue.erase n }).modCrew slot (Crew.failed s.params.reachThreshold k.failures)).frame)
        (State.modChan_windowOver hflying)).trans ?_
      refine (congrArg State.frame (State.modCrew_modCrew _ slot _ (by intro; rfl))).trans ?_
      rfl
    · have hlinked : e.linked = true := by simpa [State.links, howner] using hlinks
      obtain ⟨q, hq', hrecord⟩ := State.permitFailed_instruct (s := s.atEvent.over c e) ((State.over_permit? serial).trans hp) hout hwait
      obtain ⟨p', hp', hpframe⟩ := hpermit (by rw [State.ownerFailed_of_permit howner hlinked]; exact hq')
      refine (congrArg (Option.map _) hp').trans (congrArg some ?_)
      refine (Permit.failure_of_frame hpframe hrecord).trans ?_
      rw [hphase, Phase.phase_state]
    · have hlinked : e.linked = true := by simpa [State.links, howner] using hlinks
      have hP := untold_spared .issue serial
      obtain ⟨⟨q, hq', hrecord⟩, huntold⟩ := State.permitFailed_issue (s := s.atEvent.over c e) ((State.over_permit? serial).trans hp)
      obtain ⟨p', hp', hpframe⟩ := hpermit (by rw [State.ownerFailed_of_permit howner hlinked]; exact hq')
      have hafter : (s.event fun t => t.expireReplyWindow c).Untold .issue serial := by
        refine hP.event ?_
        rw [hwork]
        refine (hP.rosterFailure (fun _ _ h => ⟨h.record, h.waits⟩) ?_ slot).modChan fun _ => rfl
        rw [State.ownerFailed_of_permit howner hlinked]
        exact huntold (State.over_noneWaits (s := s.atEvent) hwaits)
      refine (congrArg (Option.map _) hp').trans (congrArg some ?_)
      simp only [Prod.mk.injEq] at hrecord ⊢
      exact ⟨(congrArg Permit.state hpframe :).trans hrecord.1, (congrArg Permit.stall hpframe :).trans hrecord.2, hafter.record p' hp'⟩
  · exact runs_event_effect rfl (State.expireReplyWindow_of_not (s := s.atEvent) hno) rfl rfl rfl rfl
  · exact runs_event_effect rfl (State.expireRepeatWait_of (s := s.atEvent) hstate hwait) rfl rfl rfl rfl
  · exact runs_event_effect rfl (State.expireRepeatWait_of_not (s := s.atEvent) hno) rfl rfl rfl rfl
  · exact runs_event_effect rfl (if_neg hno) rfl rfl rfl rfl
  · exact runs_event_effect rfl (State.answerGone_of_end (s := s.atEvent) hstate hafter) rfl rfl rfl rfl
  · exact runs_event_effect rfl (State.answerGone_of_await (s := s.atEvent) hstate hafter) rfl rfl rfl rfl

end Sys2Proof.Machine
end

section
/-!
What traffic leaves of a head that no preemption displaces, of follow-ups, prompts and notices.
-/

namespace Sys2Proof.Machine
/-! ### A head that stands (R36) -/

/-- What traffic changes of an order, and the time of its delivery: its state, link, acceptance countdown, delivery, unanswered mark and
deferral cause. -/
abbrev Order.Told : Type := OrderState × Option Link × Option Nat × Option Word32 × Bool × Option Deferral

def Order.told (o : Order) : Order.Told := (o.state, o.link, o.acceptance, o.deliveredAt, o.unanswered, o.deferral)

/-- A crew's queue with an order at its head that stands in no other queue, and what is told of that order. -/
structure State.HeadStands (slot n : Nat) (q : List Nat) (prio : Nat → Option Priority)
    (r : Order.Told) (t : State) : Prop where
  lined  : t.Lined slot q prio
  apart  : ∀ k ∈ t.crews, k.slot ≠ slot → n ∉ k.queue
  record : (t.order? n).map Order.told = some r

section
variable {s : State} {slot n : Nat} {q : List Nat} {prio : Nat → Option Priority}
  {r : Order.Told}

theorem State.HeadStands.told (h : s.HeadStands slot n q prio r) {o : Order} (ho : s.order? n = some o) : o.told = r := by
  have hrecord := h.record
  rw [ho] at hrecord
  exact Option.some_inj.1 hrecord

theorem State.HeadStands.modCrew (h : s.HeadStands slot n q prio r) (m : Nat) {f : Crew → Crew}
    (hf : ∀ k, (f k).slot = k.slot ∧ (m = slot → (f k).queue = k.queue) ∧ (n ∉ k.queue → n ∉ (f k).queue)) :
    (s.modCrew m f).HeadStands slot n q prio r := by
  refine ⟨h.lined.modCrew m fun k => ⟨(hf k).1, (hf k).2.1⟩, fun k hk hslot => ?_, h.record⟩
  obtain ⟨k0, hk0, rfl⟩ := List.mem_map.1 hk
  split at hslot
  next heq =>
    rw [if_pos heq]
    exact (hf k0).2.2 (h.apart k0 hk0 (by rwa [(hf k0).1] at hslot))
  next heq =>
    rw [if_neg heq]
    exact h.apart k0 hk0 hslot

theorem State.HeadStands.modOrder (h : s.HeadStands slot n q prio r) (m : Nat) {f : Order → Order}
    (hf : ∀ o, (f o).number = o.number ∧ (f o).priority = o.priority) (hsame : m = n → ∀ o, (f o).told = o.told) :
    (s.modOrder m f).HeadStands slot n q prio r := by
  refine ⟨h.lined.modOrder m hf, h.apart, ?_⟩
  obtain ⟨o, ho, heq⟩ := Option.map_eq_some_iff.1 h.record
  by_cases hm : n = m
  · subst hm
    rw [State.order?_modOrder (fun o => (hf o).1) ho]
    exact congrArg some ((hsame rfl o).trans heq)
  · rw [State.order?_modOrder_other (fun o => (hf o).1) hm]
    exact h.record

/-- A crew behind whose head an EMERGENCY order stands is not the one with the calm queue. -/
theorem State.HeadStands.slot_ne (h : s.HeadStands slot n q prio r) (hcalm : Calm prio q) {m : Nat} {k : Crew} (hk : s.crew? m = some k)
    (hsecond : (s.emergencySecond k).isSome) : m ≠ slot := by
  rintro rfl
  rw [h.lined.still hcalm hk] at hsecond
  cases hsecond

end

/-- Traffic moves no head that no preemption displaces and that is not to be sent. -/
theorem headStands_spared {slot n : Nat} {q : List Nat} {prio : Nat → Option Priority}
    {r : Order.Told} (hcalm : Calm prio q) (hassigned : r.1 ≠ .assigned)
    (hsent : r.1 ≠ .sent) : Spares (· ≠ .order n) (State.HeadStands slot n q prio r) where
  posted := posted_of_notices fun _ _ _ h => ⟨⟨h.lined.queue, h.lined.prios⟩, h.apart, h.record⟩
  quiet := fun _ _ _ _ h => ⟨⟨h.lined.queue, h.lined.prios⟩, h.apart, h.record⟩
  marks := fun _ _ _ _ h => ⟨⟨h.lined.queue, h.lined.prios⟩, h.apart, h.record⟩
  crew := fun s m f hf h => h.modCrew m fun k => by rw [hf]; exact ⟨rfl, fun _ => rfl, id⟩
  enter := fun _ _ _ _ h => ⟨⟨h.lined.queue, h.lined.prios⟩, h.apart, h.record⟩
  leave := fun _ _ _ _ _ _ _ h => ⟨⟨h.lined.queue, h.lined.prios⟩, h.apart, h.record⟩
  drop := fun _ _ _ _ h => ⟨⟨h.lined.queue, h.lined.prios⟩, h.apart, h.record⟩
  order := fun s m st f hmay _ hf h => h.modOrder m
    (fun o => by
      split
      next hs => rw [(hf o hs).1]; exact ⟨rfl, rfl⟩
      · exact ⟨rfl, rfl⟩)
    fun heq => absurd (congrArg Owner.order heq) hmay
  followUp := fun s m _ _ h => h.modOrder m (fun _ => ⟨rfl, rfl⟩) fun _ _ => rfl
  permit := fun _ _ _ _ _ h => ⟨⟨h.lined.queue, h.lined.prios⟩, h.apart, h.record⟩
  mark := fun _ _ _ h => ⟨⟨h.lined.queue, h.lined.prios⟩, h.apart, h.record⟩
  prompt := fun s m body st _ h => by
    unfold State.setPrompts
    split
    · exact ⟨⟨h.lined.queue, h.lined.prios⟩, h.apart, h.record⟩
    · exact h
  reorder := fun s m k _ f hk _ hsecond _ hf h => h.modCrew m fun k => by
    obtain ⟨hsame, hperm⟩ := hf k
    exact ⟨by rw [hsame], fun hm => absurd hm (h.slot_ne hcalm hk hsecond), fun hno hin => hno (hperm.mem_iff.1 hin)⟩
  respond := fun _ _ _ _ h => ⟨⟨h.lined.queue, h.lined.prios⟩, h.apart, h.record⟩
  settle := fun _ h => ⟨⟨h.lined.queue, h.lined.prios⟩, h.apart, h.record⟩
  headDue := fun s m k n' o h _ _ ho hst heq => by
    cases heq
    exact hassigned (by rw [← h.told ho]; exact hst)
  followUpDue := fun _ _ _ _ _ _ _ => nofun
  permitDue := fun _ _ _ _ _ _ _ => nofun
  displaced := fun s m k ho eo h hk hsecond _ heq => by
    obtain ⟨rest, hqueue, -⟩ := State.emergencySecond_eq hsecond
    have hne := h.slot_ne hcalm hk (by rw [hsecond]; rfl)
    obtain ⟨hslot, hmem⟩ := tFind_some Crew.slot hk
    exact h.apart k hmem (by rw [hslot]; exact hne) (by rw [hqueue, Owner.order.inj heq]; exact List.mem_cons_self)
  evicted := fun s d e h _ _ _ => ⟨fun m _ => by
    by_cases hm : m = n
    · exact .inr fun t o ht ho hst => hsent (by rw [← ht.told (hm ▸ ho)]; exact hst)
    · exact .inl fun heq => hm (Owner.order.inj heq), fun _ _ => nofun, fun _ howner => howner n⟩

/-- The priorities of a crew's queue call for no preemption where no EMERGENCY order stands second (R36). -/
theorem calm_of_none {s : State} {k : Crew} (h : s.emergencySecond k = none) : Calm s.priority? k.queue := by
  rintro ⟨m, e, rest, ph, pe, hqueue, hph, hpe, hprio⟩
  have hsome := State.emergencySecond_isSome_iff.2 ⟨m, e, rest, ph, pe, hqueue, hph, hpe, hprio⟩
  rw [h] at hsome
  cases hsome

/-! ### A follow-up whose status stands -/

/-- An order's follow-up with its status, and no entry of it waiting under the order's link that traffic can take from its queue. -/
structure State.Followed (n : Nat) (kind : FollowKind) (st : FollowStatus) (t : State) : Prop where
  record : (t.order? n).map (·.followUp) = some (some (kind, st))
  firm   : ∀ c, ∀ e ∈ (t.chan c).queue, e.owner = .followUp n → e.inFlight = false → e.linked = true → e.Firm

section
variable {s : State} {n : Nat} {kind : FollowKind} {st : FollowStatus}

theorem State.Followed.modOrder (h : s.Followed n kind st) (m : Nat) {f : Order → Order} (hf : ∀ o, (f o).number = o.number)
    (hsame : m = n → ∀ o, (f o).followUp = o.followUp) : (s.modOrder m f).Followed n kind st := by
  refine ⟨?_, h.firm⟩
  obtain ⟨o, ho, heq⟩ := Option.map_eq_some_iff.1 h.record
  by_cases hm : n = m
  · subst hm
    rw [State.order?_modOrder hf ho]
    exact congrArg some ((hsame rfl o).trans heq)
  · rw [State.order?_modOrder_other hf hm]
    exact h.record

theorem State.Followed.modChan (h : s.Followed n kind st) {d : Chan} {f : Channel → Channel}
    (hf : ∀ ch : Channel, ∀ x ∈ (f ch).queue, x ∈ ch.queue ∨ x.owner ≠ .followUp n) : (s.modChan d f).Followed n kind st := by
  refine ⟨h.record, fun c x hx howner => ?_⟩
  exact (State.mem_modChan_queue hx).elim (fun hold => h.firm c x hold howner) fun hnew =>
    (hf _ x hnew).elim (fun hold => h.firm c x hold howner) fun hne => absurd howner hne

end

/-- Traffic leaves a follow-up that is not owed and that waits nowhere. -/
theorem followed_spared (n : Nat) (kind : FollowKind) {st : FollowStatus} (hst : st ≠ .owed) :
    Spares (· ≠ .followUp n) (State.Followed n kind st) where
  posted := posted_of_notices fun _ _ _ h => ⟨h.record, h.firm⟩
  quiet := fun _ _ _ _ h => ⟨h.record, h.firm⟩
  marks := fun s d f hf h => h.modChan fun ch x hx => by rw [hf] at hx; exact .inl hx
  crew := fun _ _ _ _ h => ⟨h.record, h.firm⟩
  enter := fun s d e hfresh h => h.modChan fun ch x hx => (mem_insertEntry.1 hx).elim (fun heq => .inr (heq ▸ hfresh.owner)) .inl
  leave := fun s d e _ _ _ _ h => h.modChan fun ch x hx => .inl (List.mem_of_mem_erase hx)
  drop := fun s d n _ h => h.modChan fun ch x hx => .inl (List.mem_of_mem_filter hx)
  order := fun s m st f _ _ hf h => h.modOrder m
    (fun o => by
      split
      next ho => exact (congrArg Order.number (hf o ho).1 :)
      · rfl)
    fun _ o => by
      split
      next ho => exact (congrArg Order.followUp (hf o ho).1 :)
      · rfl
  followUp := fun s m _ hmay h => h.modOrder m (fun _ => rfl) fun heq => absurd (congrArg Owner.followUp heq) hmay
  permit := fun _ _ _ _ _ h => ⟨h.record, h.firm⟩
  mark := fun _ _ _ h => ⟨h.record, h.firm⟩
  prompt := fun s m body st _ h => by
    unfold State.setPrompts
    split
    · exact ⟨h.record, h.firm⟩
    · exact h
  reorder := fun _ _ _ _ _ _ _ _ _ _ h => ⟨h.record, h.firm⟩
  respond := fun _ _ _ _ h => ⟨h.record, h.firm⟩
  settle := fun s h => ⟨h.record, fun c x hx => h.firm c x (by rwa [State.settle_queue] at hx)⟩
  headDue := fun _ _ _ _ _ _ _ _ _ _ => nofun
  followUpDue := fun s m o kind' h ho hdue heq => by
    cases heq
    have hrecord := h.record
    rw [ho] at hrecord
    have hsame := Option.some_inj.1 ((Option.some_inj.1 hrecord).symm.trans hdue)
    exact hst (Prod.mk.inj hsame).2
  permitDue := fun _ _ _ _ _ _ _ => nofun
  displaced := fun _ _ _ _ _ _ _ _ _ => nofun
  evicted := fun s d e h he hwait hweak => ⟨fun _ _ => .inl nofun, fun _ _ => nofun, fun hlinked _ howner => by
    obtain ⟨htext, horder, hprompt, -⟩ := h.firm d e he howner hwait hlinked
    exact hweak.elim htext fun hrest => hrest.elim horder hprompt⟩

/-! ### A prompt whose outcome stands -/

/-- A member of a crew whose prompt has a status, and no CHECK_PROMPT of the crew waiting. -/
structure State.Prompted (who badge : Nat) (st : PromptStatus) (t : State) : Prop where
  record : (t.worker? badge).map (fun w => (w.crew, w.prompt)) = some (who, some st)
  waits  : ∀ c, ∀ x ∈ (t.chan c).queue, x.owner = .prompt who → x.inFlight = true

section
variable {s : State} {who badge : Nat} {st : PromptStatus}

theorem State.Prompted.modChan (h : s.Prompted who badge st) {d : Chan} {f : Channel → Channel}
    (hf : ∀ ch : Channel, ∀ x ∈ (f ch).queue, x ∈ ch.queue ∨ x.owner ≠ .prompt who) : (s.modChan d f).Prompted who badge st := by
  refine ⟨h.record, fun c x hx howner => ?_⟩
  exact (State.mem_modChan_queue hx).elim (fun hold => h.waits c x hold howner) fun hnew =>
    (hf _ x hnew).elim (fun hold => h.waits c x hold howner) fun hne => absurd howner hne

/-- The prompt of a worker after the prompts of a crew have taken a status (R113). -/
theorem State.setPrompts_worker? {slot : Nat} {overdue : Bool} {badges : List Nat} {st : PromptStatus} {w : Worker}
    (hw : s.worker? badge = some w) : (s.setPrompts slot (.prompt overdue badges) st).worker? badge
      = some (if w.crew = slot ∧ badges.contains w.badge then { w with prompt := some st } else w) := by
  simp only [State.setPrompts, State.worker?]
  refine (tFind_map_of Worker.badge badge (fun w => if w.crew = slot ∧ badges.contains w.badge then { w with prompt := some st } else w)
    s.workers fun w => ?_).trans (congrArg (Option.map _) hw)
  split <;> rfl

end

/-- Traffic leaves the outcome of a prompt that waits nowhere. -/
theorem prompted_spared (who badge : Nat) (st : PromptStatus) : Spares (· ≠ .prompt who) (State.Prompted who badge st) where
  posted := posted_of_notices fun _ _ _ h => ⟨h.record, h.waits⟩
  quiet := fun _ _ _ _ h => ⟨h.record, h.waits⟩
  marks := fun s d f hf h => h.modChan fun ch x hx => by rw [hf] at hx; exact .inl hx
  crew := fun _ _ _ _ h => ⟨h.record, h.waits⟩
  enter := fun s d e hfresh h => h.modChan fun ch x hx => (mem_insertEntry.1 hx).elim (fun heq => .inr (heq ▸ hfresh.owner)) .inl
  leave := fun s d e _ _ _ _ h => h.modChan fun ch x hx => .inl (List.mem_of_mem_erase hx)
  drop := fun s d n _ h => h.modChan fun ch x hx => .inl (List.mem_of_mem_filter hx)
  order := fun _ _ _ _ _ _ _ h => ⟨h.record, h.waits⟩
  followUp := fun _ _ _ _ h => ⟨h.record, h.waits⟩
  permit := fun _ _ _ _ _ h => ⟨h.record, h.waits⟩
  mark := fun _ _ _ h => ⟨h.record, h.waits⟩
  prompt := fun s m body st' hmay h => by
    cases body with
    | prompt overdue badges =>
      obtain ⟨w, hw, heq⟩ := Option.map_eq_some_iff.1 h.record
      refine ⟨?_, h.waits⟩
      rw [State.setPrompts_worker? hw, if_neg fun hin => ?_]
      · exact congrArg some heq
      · exact hmay (congrArg Owner.prompt (hin.1.symm.trans (Prod.mk.inj heq).1))
    | bytes b => exact h
    | atSend => exact h
  reorder := fun _ _ _ _ _ _ _ _ _ _ h => ⟨h.record, h.waits⟩
  respond := fun _ _ _ _ h => ⟨h.record, h.waits⟩
  settle := fun s h => ⟨h.record, fun c x hx => h.waits c x (by rwa [State.settle_queue] at hx)⟩
  headDue := fun _ _ _ _ _ _ _ _ _ _ => nofun
  followUpDue := fun _ _ _ _ _ _ _ => nofun
  permitDue := fun _ _ _ _ _ _ _ => nofun
  displaced := fun _ _ _ _ _ _ _ _ _ => nofun
  evicted := fun s d e h he hwait _ => by
    have hnot : e.owner ≠ .prompt who := fun howner => by
      rw [h.waits d e he howner] at hwait
      cases hwait
    exact ⟨fun _ _ => .inl nofun, fun _ howner heq => hnot (howner.trans heq), fun _ _ => hnot⟩

/-! ### A notice that stays -/

theorem State.mem_post {s : State} {n : Subject} {x : Notice} (hn : n.isAlarm = false) (hx : x ∈ s.notices) : x ∈ (s.post n).notices := by
  unfold State.post
  split
  · exact List.mem_append_left _ hx
  · rw [hn]
    exact hx

/-- A notice leaves the queue only for one of alarm class (R202), which traffic does not post. -/
theorem noticed_spared (x : Notice) : Spares (fun _ => True) fun t => x ∈ t.notices where
  posted := fun _ _ hn h => State.mem_post hn h
  quiet := fun _ _ _ _ h => h
  marks := fun _ _ _ _ h => h
  crew := fun _ _ _ _ h => h
  enter := fun _ _ _ _ h => h
  leave := fun _ _ _ _ _ _ _ h => h
  drop := fun _ _ _ _ h => h
  order := fun _ _ _ _ _ _ _ h => h
  followUp := fun _ _ _ _ h => h
  permit := fun _ _ _ _ _ h => h
  mark := fun _ _ _ h => h
  prompt := fun s m body st _ h => by
    unfold State.setPrompts
    split <;> exact h
  reorder := fun _ _ _ _ _ _ _ _ _ _ h => h
  respond := fun _ _ _ _ h => h
  settle := fun _ h => h
  headDue := fun _ _ _ _ _ _ _ _ _ _ => trivial
  followUpDue := fun _ _ _ _ _ _ _ => trivial
  permitDue := fun _ _ _ _ _ _ _ => trivial
  displaced := fun _ _ _ _ _ _ _ _ _ => trivial
  evicted := fun _ _ _ _ _ _ _ => ⟨fun _ _ => .inl trivial, fun _ _ => trivial, fun _ _ => trivial⟩

end Sys2Proof.Machine
end

section
/-!
The answer to a telegram, and the judging of a received one (R145, R179 to R187).
-/

namespace Sys2Proof.Machine
/-! ### What a frame received in AWAIT_REPLY does to its attempt (R145, R147) -/

/-- A channel whose attempt a frame has decided: IDLE, with the frame's carrier spent (R141, R145). -/
def Channel.decided (ch : Channel) : Channel :=
  { ch with
    carrierSpent := ch.carrier, state := .idle, attempt := none, txFrame := [], origin := none, afterAnswer := none
    replyWindow := none, repeatWait := none }

/-- A channel at the end of a reception (R141). -/
def Channel.received (ch : Channel) : Channel := { ch with carrierSpent := ch.carrier, origin := none }

/-- A channel put to IDLE. -/
def Channel.atRest (ch : Channel) : Channel :=
  { ch with state := .idle, txFrame := [], origin := none, afterAnswer := none, replyWindow := none, repeatWait := none }

/-- An attempt that a received frame decides with a result, the channel IDLE after it (R145). -/
def State.conclude (s : State) (c : Chan) (r : Result) : State := ((s.endReception c).endAttempt c r).enterIdle c

section
variable {s : State} {c : Chan} {bytes : List Byte} {e : Entry} {a : Attempt}

theorem State.modChan_decided : ((s.endReception c).modChan c Channel.unattempted).modChan c Channel.atRest = s.modChan c Channel.decided := by
  rw [State.endReception, State.modChan_modChan, State.modChan_modChan]
  rfl

theorem State.replyReceived_of_not (h : ¬ ((s.chan c).state = .awaitReply ∧ (s.chan c).replyWindow = none
      ∧ receptionOver (s.chan c).carrier bytes = true) ∨ (∀ e ∈ (s.chan c).queue, e.inFlight = false) ∨ (s.chan c).attempt = none) :
    s.replyReceived c bytes = s := by
  rw [State.replyReceived]
  split
  next e a hfly hattempt =>
    refine if_neg fun hready => ?_
    rcases h with h | h | h
    · exact h hready
    · rw [State.flying_eq_none_iff.2 h] at hfly
      cases hfly
    · rw [h] at hattempt
      cases hattempt
  · rfl

section
variable (hready : (s.chan c).state = .awaitReply ∧ (s.chan c).replyWindow = none ∧ receptionOver (s.chan c).carrier bytes = true)
  (hfly : s.flying c = some e) (hattempt : (s.chan c).attempt = some a)
include hready hfly hattempt

theorem State.replyReceived_of_malformed (hframe : readFrame bytes = none) :
    s.replyReceived c bytes = s.conclude c (.failed .collision) := by
  simp only [State.replyReceived, hfly, hattempt, if_pos hready, hframe]
  rfl

variable {f : Frame} (hframe : readFrame bytes = some f) {slot unit : Nat} (haddr : e.addr = .crew slot unit)
include hframe haddr

theorem State.replyReceived_of_answer {code m : Nat} (hanswer : f.answerTo? unit a.seq = some (code, m)) :
    s.replyReceived c bytes = (s.endReception c).answered c e a code m := by
  simp only [State.replyReceived, hfly, hattempt, if_pos hready, hframe, Frame.answers, haddr, hanswer]

theorem State.replyReceived_of_other (hanswer : f.answerTo? unit a.seq = none) :
    s.replyReceived c bytes = ((s.endReception c).endAttempt c (.failed .collision)).receive c f .idle := by
  simp only [State.replyReceived, hfly, hattempt, if_pos hready, hframe, Frame.answers, haddr, hanswer]

end

theorem State.receive_of_not_telegram {f : Frame} (h : f.header.toBase = false ∨ f.header.kind = 1) :
    s.receive c f .idle = s.enterIdle c := by
  have hignored : (!f.header.toBase || f.header.kind == kindAnswer) = true := by
    rcases h with h | h <;> simp [h, kindAnswer]
  simp only [State.receive, State.takeFrame, hignored, if_true, State.follow]

/-! What an answer decides (R145, R146). -/

theorem State.answered_of_rejection {code m : Nat} (hack : code ≠ 1) (hbusy : code ≠ 2) :
    (s.endReception c).answered c e a code m = s.conclude c (.rejected code) := by
  rw [State.answered, if_neg (show code ≠ ackCode from hack), if_neg (show code ≠ nakBusyCode from hbusy)]
  rfl

theorem State.answered_of_busy {m : Nat} : (s.endReception c).answered c e a 2 m = s.conclude c (.failed .busy) := by
  rw [State.answered, if_neg (by decide), if_pos (show 2 = nakBusyCode from rfl)]
  rfl

theorem State.answered_of_all {m : Nat} (hall : missingBlocks (blockCount a.body.length) m = []) :
    (s.endReception c).answered c e a 1 m = s.conclude c .delivered := by
  rw [State.answered, if_pos (show 1 = ackCode from rfl), State.acked]
  simp only [hall, List.isEmpty_nil, if_true]
  rfl

section
variable {m : Nat} (hmissing : missingBlocks (blockCount a.body.length) m ≠ [])
include hmissing

theorem State.answered_of_spent (hfits : ¬ e.blocksSent + (missingBlocks (blockCount a.body.length) m).length
      ≤ blockCount a.body.length + s.params.blockAllowance) :
    (s.endReception c).answered c e a 1 m = s.conclude c (.failed .blocksExhausted) := by
  have hsome : (missingBlocks (blockCount a.body.length) m).isEmpty = false := by
    rw [Bool.eq_false_iff]
    exact fun h => hmissing (List.isEmpty_iff.1 h)
  rw [State.answered, if_pos (show 1 = ackCode from rfl), State.acked]
  simp only [hsome, Bool.false_eq_true, if_false]
  exact if_neg hfits

theorem State.answered_of_repeat (hfits : e.blocksSent + (missingBlocks (blockCount a.body.length) m).length
      ≤ blockCount a.body.length + s.params.blockAllowance) :
    (s.endReception c).answered c e a 1 m
      = (s.endReception c).sendRepeat c e a (missingBlocks (blockCount a.body.length) m) := by
  have hsome : (missingBlocks (blockCount a.body.length) m).isEmpty = false := by
    rw [Bool.eq_false_iff]
    exact fun h => hmissing (List.isEmpty_iff.1 h)
  rw [State.answered, if_pos (show 1 = ackCode from rfl), State.acked]
  simp only [hsome, Bool.false_eq_true, if_false]
  exact if_pos hfits

end

/-- A repeat frame carries the blocks reported missing (R146). -/
theorem State.sendRepeat_eq {front back : List Entry} (hq : (s.chan c).queue = front ++ e :: back)
    (hfront : ∀ x ∈ front, x.inFlight = false) (hfly : e.inFlight = true) (missing : List Nat) :
    (s.endReception c).sendRepeat c e a missing = s.modChan c fun ch =>
      { ch with
        carrierSpent := ch.carrier, origin := none, state := .sending, replyWindow := none
        attempt := some { a with rpt := true, missing := missing }
        txFrame := telegramFrame e.kind e.addr a.seq a.body true missing
        queue := front ++ { e with blocksSent := e.blocksSent + missing.length } :: back } := by
  have hqueue : modFirst (·.inFlight) (fun x => { x with blocksSent := x.blocksSent + missing.length }) (s.chan c).queue
      = front ++ { e with blocksSent := e.blocksSent + missing.length } :: back := by
    rw [hq, modFirst_append hfront hfly]
  rw [State.sendRepeat, State.modFlying, State.endReception, State.modChan_modChan, State.modChan_modChan]
  refine State.modChan_congr ?_
  simp only [hqueue]

/-! What a decided attempt leaves. -/

theorem State.conclude_shape (r : Result) : (s.conclude c r).shape = s.shape := by
  rw [State.conclude, State.enterIdle, State.modChan_shape, State.endAttempt_shape, State.endReception_shape]

theorem State.endReception_queue : ((s.endReception c).chan c).queue = (s.chan c).queue := by
  rw [State.endReception, State.modChan_chan_same]

theorem State.endReception_flying : (s.endReception c).flying c = s.flying c := by
  rw [State.flying, State.endReception_queue]
  rfl

theorem State.conclude_air (hfly : s.flying c = some e) (r : Result) : ((s.conclude c r).chan c).air = ((s.chan c).decided).air := by
  have hair := State.air_of_airs (State.endAttempt_airs (r := r) (State.endReception_flying.trans hfly)) c
  rw [State.modChan_chan_same, State.endReception, State.modChan_chan_same] at hair
  rw [State.conclude, State.enterIdle, State.modChan_chan_same]
  exact (congrArg (fun ch : Channel => ch.atRest) hair :)

theorem State.conclude_again_frame (hfly : s.flying c = some e) (horphan : e.orphan = false) (hlinks : s.links e = true)
    (hcall : e.kind ≠ .alarmCall) (hlimit : e.attempts < s.params.attemptLimit) (cause : FailCause) :
    (s.conclude c (.failed cause)).frame = (s.modChan c Channel.decided).frame := by
  refine (State.modChan_frame_congr (State.endAttempt_again_frame (s := s.endReception c) (State.endReception_flying.trans hfly) horphan
    hlinks hcall hlimit cause) c fun _ => rfl).trans ?_
  exact congrArg State.frame State.modChan_decided

end
/-! ### What the routing of a telegram leaves (R187) -/

/-- The attempts of the channels, and of each crew its slot, its unit, its last inbound sequence and how it is reached. -/
def State.signs (s : State) : Four (Option Attempt) × List (Nat × Nat × Option Seq × Nat × Reach × Option Word32) :=
  (s.chans.map (·.attempt), s.crews.map fun k => (k.slot, k.unit, k.inSeq, k.failures, k.reach, k.lastHeard))

section
variable {s t : State}

theorem State.signs_of_framePermits (h : t.framePermits = s.framePermits) : t.signs = s.signs := by
  have hchans : t.chans.map Channel.frame = s.chans.map Channel.frame := (congrArg State.chans h :)
  have hcrews : t.crews.map Crew.frame = s.crews.map Crew.frame := (congrArg State.crews h :)
  have hof (u : State) : u.signs = ((u.chans.map Channel.frame).map (·.attempt),
      (u.crews.map Crew.frame).map fun k => (k.slot, k.unit, k.inSeq, k.failures, k.reach, k.lastHeard)) := by
    rw [Four.map_map, List.map_map]
    rfl
  rw [hof, hof, hchans, hcrews]

theorem State.signs_of_frame (h : t.frame = s.frame) : t.signs = s.signs := State.signs_of_framePermits (State.framePermits_of_frame h)

theorem State.signs_modCrew (slot : Nat) {f : Crew → Crew} (hf : ∀ k, ((f k).slot, (f k).unit, (f k).inSeq, (f k).failures, (f k).reach, (f k).lastHeard)
    = (k.slot, k.unit, k.inSeq, k.failures, k.reach, k.lastHeard)) : (s.modCrew slot f).signs = s.signs := by
  refine Prod.ext rfl ?_
  simp only [State.signs, State.modCrew, tMod, List.map_map]
  refine List.map_congr_left fun k _ => ?_
  simp only [Function.comp_apply]
  split
  · exact hf k
  · rfl

theorem State.signs_modChan (c : Chan) {f : Channel → Channel} (hf : ∀ ch, (f ch).attempt = ch.attempt) : (s.modChan c f).signs = s.signs := by
  refine Prod.ext ?_ rfl
  simp only [State.signs, State.modChan, Four.map_set, hf]
  fin_cases c <;> rfl

@[simp] theorem State.post_signs (n : Subject) : (s.post n).signs = s.signs := State.signs_of_frame (State.post_frame _ _)

theorem State.check_signs (slot : Nat) : (s.check slot).signs = s.signs := State.signs_of_frame (State.check_frame _ _)

theorem State.leaveQueue_signs (slot n : Nat) : (s.leaveQueue slot n).signs = s.signs :=
  (State.signs_of_frame (State.leaveQueue_frame s slot n)).trans (State.signs_modCrew slot (by intro; rfl))

/-! The Order Table's part (R38 to R41). -/

theorem State.withdrawOrder_signs (n : Nat) : (s.withdrawOrder n).signs = s.signs :=
  Eq.trans (b := (s.withdraw fun e => e.owner == .order n).signs) rfl (State.signs_of_frame (State.withdraw_frame _ _))

theorem State.orderMoved_signs (n : Nat) (f : Order → Order) (x : Subject) (slot : Nat) :
    (((s.modOrder n f).post x).check slot).signs = s.signs := (State.check_signs slot).trans (State.post_signs (s := s.modOrder n f) x)

theorem State.orderLeft_signs (n : Nat) (f : Order → Order) (x : Subject) (slot m : Nat) :
    (((s.modOrder n f).post x).leaveQueue slot m).signs = s.signs :=
  (State.leaveQueue_signs slot m).trans (State.post_signs (s := s.modOrder n f) x)

theorem State.replyAccept_signs (slot : Nat) (o : Order) : (s.replyAccept slot o).signs = s.signs :=
  (State.orderMoved_signs _ _ _ slot).trans (State.withdrawOrder_signs _)

theorem State.replyDecline_signs (slot : Nat) (o : Order) : (s.replyDecline slot o).signs = s.signs :=
  (State.orderLeft_signs _ _ _ slot _).trans (State.withdrawOrder_signs _)

theorem State.replyOnSite_signs (slot : Nat) (o : Order) : (s.replyOnSite slot o).signs = s.signs := State.orderMoved_signs _ _ _ slot

theorem State.replyComplete_signs (slot : Nat) (o : Order) : (s.replyComplete slot o).signs = s.signs := State.orderLeft_signs _ _ _ slot _

theorem State.replyUnable_signs (slot : Nat) (o : Order) : (s.replyUnable slot o).signs = s.signs := State.orderLeft_signs _ _ _ slot _

theorem State.orderReply_signs (slot n code : Nat) : (s.orderReply slot n code).signs = s.signs := by
  rw [State.orderReply]
  split
  · exact State.post_signs _
  · split
    · split
      · exact State.replyAccept_signs _ _
      · exact State.replyAccept_signs _ _
      · exact State.replyDecline_signs _ _
      · exact State.replyDecline_signs _ _
      · exact State.replyOnSite_signs _ _
      · exact State.replyComplete_signs _ _
      · exact State.replyUnable_signs _ _
      · exact State.replyUnable_signs _ _
      · exact State.replyUnable_signs _ _
      · exact State.post_signs _
    · exact State.post_signs _

theorem State.tellInForce_signs (serial holder : Nat) : (s.tellInForce serial holder).signs = s.signs := by
  have hone (t : State) (n : Nat) : (t.clearBlocked n holder).signs = t.signs :=
    (State.check_signs holder).trans ((State.signs_of_frame (State.offerFollowUp_frame _ _)).trans ((State.post_signs _).trans rfl))
  refine List.foldlRecOn (motive := fun t : State => t.signs = s.signs) _ _ rfl fun t ht (o : Order) _ => ?_
  exact (hone t o.number).trans ht

theorem State.readback_signs (slot serial digest : Nat) : (s.readback slot serial digest).signs = s.signs := by
  rw [State.readback]
  dsimp only
  split
  · exact State.post_signs _
  next p _ =>
    split
    · exact State.post_signs _
    · split
      · exact State.post_signs _
      · have hdropped : ((s.modPermit serial fun p => { p with readback := none }).dropIssue serial).signs = s.signs :=
          State.signs_of_framePermits (State.dropIssue_framePermits (s := s.modPermit serial fun p => { p with readback := none }) serial)
        split
        · refine (State.tellInForce_signs _ _).trans ((State.signs_of_framePermits (State.setPermitState_framePermits _ _ _ _)).trans ?_)
          exact hdropped
        · split
          · exact (State.signs_of_framePermits (State.callIssue_framePermits _ _)).trans hdropped
          · exact (State.signs_of_framePermits (State.stall_framePermits _ _ _ _)).trans hdropped

/-! The Watch Unit's part (R108 to R111, R114). -/

theorem State.checkedIn_signs (w : Worker) : (s.checkedIn w).signs = s.signs := by
  rw [State.checkedIn]
  split
  · exact State.signs_of_framePermits (State.restart_framePermits _ _)
  · exact (State.post_signs _).trans ((State.signs_of_framePermits (State.restart_framePermits _ _)).trans rfl)

theorem State.checkIn_signs (badge : Nat) : (s.checkIn badge).signs = s.signs := by
  rw [State.checkIn]
  split
  · rfl
  · split
    · rfl
    · rfl
    · exact State.checkedIn_signs _
    · exact State.checkedIn_signs _
    · exact State.post_signs _
    · exact State.post_signs _

theorem State.resume_signs (badge : Nat) : (s.resume badge).signs = s.signs := by
  rw [State.resume]
  split
  · rfl
  · split
    · rfl
    · exact State.checkedIn_signs _
    · exact State.checkedIn_signs _
    · exact State.checkedIn_signs _
    · exact State.post_signs _
    · exact State.post_signs _

theorem State.rest_signs (badge : Nat) : (s.rest badge).1.signs = s.signs := by
  have hrested (w : Worker) (f : Worker → Worker) (n : Subject) : (((s.modWorker badge f).strike w.crew badge).post n).signs = s.signs :=
    (State.post_signs _).trans ((State.signs_of_frame (State.strike_frame _ _ _)).trans rfl)
  rw [State.rest]
  split
  · rfl
  · split
    · exact State.post_signs _
    · exact State.post_signs _
    · rfl
    · rfl
    · split
      · rfl
      · exact hrested _ _ _
    · split
      · rfl
      · exact hrested _ _ _

theorem State.enterSets_signs (a : AlarmRef) (current : Chan) : (s.enterSets a current).signs = s.signs := by
  have hattempt (ch : Channel) (c : Chan) : (ch.entered a current c).attempt = ch.attempt := by
    rw [Channel.entered]
    split <;> rfl
  refine (State.signs_of_frame (State.enterSets_frame s a current)).trans (Prod.ext ?_ rfl)
  simp only [State.signs, State.enteredSets, Four.map, hattempt]
  rfl

theorem State.armAll_signs (cs : List Chan) : (s.inOpenOrder cs State.arm).signs = s.signs :=
  State.signs_of_frame (State.armAll_frame _ _)

theorem State.workerAlarm_signs (badge : Nat) (cause : AlarmCause) : (s.workerAlarm badge cause).signs = s.signs := by
  have hstruck (f : Worker → Worker) (slot : Nat) : ((s.modWorker badge f).strike slot badge).signs = s.signs :=
    (State.signs_of_frame (State.strike_frame _ _ _)).trans rfl
  rw [State.workerAlarm]
  split
  · rfl
  · split
    · rfl
    · split
      · exact (State.armAll_signs _).trans ((State.post_signs _).trans rfl)
      · refine (State.signs_of_framePermits (State.reportCondition_framePermits _ _ _)).trans ((State.enterSets_signs _ _).trans ?_)
        exact (State.post_signs _).trans (hstruck _ _)

theorem State.crewAlarm_signs (slot : Nat) (cause : AlarmCause) : (s.crewAlarm slot cause).signs = s.signs := by
  rw [State.crewAlarm]
  split
  · rfl
  · split
    · exact (State.armAll_signs _).trans ((State.post_signs _).trans (State.signs_modCrew slot (by intro; rfl)))
    · refine (State.signs_of_framePermits (State.reportCondition_framePermits _ _ _)).trans ((State.enterSets_signs _ _).trans ?_)
      exact (State.post_signs _).trans (State.signs_modCrew slot (by intro; rfl))

theorem State.routeWatch_signs (slot kind badge : Nat) : (s.routeWatch slot kind badge).1.signs = s.signs := by
  rw [State.routeWatch]
  split
  · split
    · exact State.checkIn_signs badge
    · split
      · exact State.resume_signs badge
      · exact State.rest_signs badge
  · rfl

theorem State.emergency_signs (slot badge : Nat) (cause : AlarmCause) : (s.emergency slot badge cause).signs = s.signs := by
  rw [State.emergency]
  split
  · exact State.workerAlarm_signs _ _
  · exact State.crewAlarm_signs _ _

/-- The routing of a telegram is no matter of the attempts under way, nor of how crews are reached. -/
theorem State.route_signs (c : Chan) (k : Crew) (a : Assembly) : (s.route c k a).1.signs = s.signs := by
  rw [State.route]
  split
  · rfl
  · split
    · split
      · rfl
      · exact (State.post_signs _).trans (State.signs_modChan c (by intro; rfl))
    · split
      · split
        · exact State.signs_of_framePermits (State.surrenderAsked_framePermits _ _ _)
        · exact State.routeWatch_signs _ _ _
      · split
        · exact State.orderReply_signs _ _ _
        · exact State.emergency_signs _ _ _
      · split
        · exact State.signs_of_framePermits (State.stepReport_framePermits _ _ _ _ _)
        · exact State.readback_signs _ _ _
      · rfl

end
/-! ### The units and sequences of the crews, through the end of an attempt -/

/-- Of each crew its slot, its unit and its last inbound sequence. -/
def State.roll (s : State) : List (Nat × Nat × Option Seq) := s.crews.map fun k => (k.slot, k.unit, k.inSeq)

section
variable {s t : State}

theorem State.roll_of_signs (h : t.signs = s.signs) : t.roll = s.roll := by
  have hof (u : State) : u.roll = u.signs.2.map fun r => (r.1, r.2.1, r.2.2.1) := by
    simp only [State.roll, State.signs, List.map_map, Function.comp_def]
  rw [hof, hof, h]

theorem State.reached_of_signs (h : t.signs = s.signs) (slot : Nat) : t.reached slot = s.reached slot := by
  have hof (u : State) : u.reached slot
      = (u.signs.2.find? fun r => r.1 == slot).map fun r => (r.2.2.2.1, r.2.2.2.2.1, r.2.2.2.2.2) := by
    rw [State.signs, List.find?_map, Option.map_map]
    rfl
  rw [hof, hof, h]

theorem State.attempt_of_signs (h : t.signs = s.signs) (c : Chan) : (t.chan c).attempt = (s.chan c).attempt := by
  have hof (u : State) : (u.chan c).attempt = u.signs.1.get c := (Four.get_map _ _ _).symm
  rw [hof, hof, h]

/-- The crew of a unit, as the rolls tell it. -/
theorem State.crewOfUnit?_of_roll (h : t.roll = s.roll) (unit : Nat) :
    (t.crewOfUnit? unit).map (fun k => (k.slot, k.unit, k.inSeq)) = (s.crewOfUnit? unit).map fun k => (k.slot, k.unit, k.inSeq) := by
  have hof (u : State) : (u.crewOfUnit? unit).map (fun k => (k.slot, k.unit, k.inSeq)) = u.roll.find? fun r => r.2.1 == unit := by
    rw [State.roll, List.find?_map]
    rfl
  rw [hof, hof, h]

theorem State.modCrew_roll (slot : Nat) {f : Crew → Crew} (hf : ∀ k, ((f k).slot, (f k).unit, (f k).inSeq) = (k.slot, k.unit, k.inSeq)) :
    (s.modCrew slot f).roll = s.roll := by
  simp only [State.roll, State.modCrew, tMod, List.map_map]
  refine List.map_congr_left fun k _ => ?_
  simp only [Function.comp_apply]
  split
  · exact hf k
  · rfl

theorem State.orderFailed_signs (n : Nat) (cause : OrderCause) : (s.orderFailed n cause).signs = s.signs := by
  rw [State.orderFailed]
  split
  · rfl
  · split
    · split
      · exact (State.leaveQueue_signs _ n).trans (State.post_signs (s := s.modOrder n _) _)
      · exact State.post_signs (s := s.modOrder n _) _
    · exact State.signs_of_frame (State.unlinkOrder_frame _ _)

theorem State.ownerFailed_signs (c : Chan) (e : Entry) (cause : OrderCause) (r : TextOutcome) : (s.ownerFailed c e cause r).signs = s.signs := by
  rw [State.ownerFailed]
  split
  · exact State.orderFailed_signs _ _
  · split
    · rw [State.followUpFailed]
      split
      · rfl
      · exact (State.post_signs _).trans (State.signs_of_frame (State.setFollowUp_frame _ _ _))
    · rfl
  · split
    · exact State.signs_of_framePermits (State.permitFailed_framePermits _ _ _)
    · rfl
  · exact State.signs_of_frame (State.setPrompts_frame _ _ _ _)
  · exact State.signs_of_frame (State.textResult_frame _ _ _ _)
  all_goals rfl

theorem State.rosterFailure_roll (slot : Nat) : (s.rosterFailure slot).roll = s.roll := by
  cases hk : s.crew? slot with
  | none => rw [State.rosterFailure, hk]
  | some k =>
    rcases State.rosterFailure_eq hk with h | ⟨n, -, h⟩
    · rw [h]; exact State.modCrew_roll slot (by intro; rfl)
    · rw [h, State.roll_of_signs (State.post_signs _)]; exact State.modCrew_roll slot (by intro; rfl)

/-- A failed attempt leaves the crews' units and sequences. -/
theorem State.endAttempt_roll (c : Chan) (cause : FailCause) : (s.endAttempt c (.failed cause)).roll = s.roll := by
  have hof {u : State} (h : u.frame = (s.modChan c Channel.unattempted).frame) : u.roll = s.roll :=
    (State.roll_of_signs (State.signs_of_frame h)).trans rfl
  cases hfly : s.flying c with
  | none => rw [State.endAttempt_of_idle hfly]
  | some e =>
    cases horphan : e.orphan with
    | true =>
      have hend : s.endAttempt c (.failed cause) = (s.modChan c Channel.unattempted).endOrphan c e (.failed cause) := by
        simp only [State.endAttempt, hfly, horphan, if_true]
        rfl
      rw [hend]
      exact hof (State.endOrphan_frame _ _ _ _)
    | false =>
      rw [State.endAttempt_of_failed hfly horphan, State.endFailed]
      split
      · exact hof ((State.endUnlinked_frame _ _).trans (State.removeEntry_frame _ _ _))
      · split
        · exact hof (State.requeue_frame _ _ _)
        · have hremoved := hof (State.removeEntry_frame (s.modChan c Channel.unattempted) c e)
          have howner := (State.roll_of_signs (State.ownerFailed_signs (s := (s.modChan c Channel.unattempted).removeEntry c e) c e
            .failed (.failed cause))).trans hremoved
          rw [State.rosterTakes]
          split
          · exact (State.rosterFailure_roll _).trans howner
          · exact howner

/-! ### A complete telegram judged (R182 to R186) -/

theorem State.rosterHeard_frame {slot : Nat} {k : Crew} (hk : s.crew? slot = some k) : (s.rosterHeard slot).frame
    = (s.modCrew slot fun k => { k with failures := 0, reach := .reachable, lastHeard := some s.clock }).frame :=
  State.setStanding_frame s slot 0 .reachable true hk

theorem State.rosterHeard_reached {slot : Nat} (hk : (s.crew? slot).isSome) :
    (s.rosterHeard slot).reached slot = some (0, .reachable, some s.clock) := by
  obtain ⟨k, hk⟩ := Option.isSome_iff_exists.1 hk
  rw [State.reached_of_frame (State.rosterHeard_frame hk), State.reached, State.crew?_modCrew (by intro; rfl) hk]
  rfl

theorem State.acceptFrom_eq (c : Chan) (k : Crew) (a : Assembly) : s.acceptFrom c k a = s.rosterHeard k.slot
    ∨ s.acceptFrom c k a = (s.rosterHeard k.slot).modCrew k.slot fun k => { k with inSeq := some a.seq } := by
  rw [State.acceptFrom]
  split
  · exact .inl rfl
  · exact .inr rfl

theorem State.acceptFrom_reached (c : Chan) (k : Crew) (a : Assembly) (hk : (s.crew? k.slot).isSome) :
    (s.acceptFrom c k a).reached k.slot = some (0, .reachable, some s.clock) := by
  rcases State.acceptFrom_eq c k a with h | h
  · rw [h]; exact State.rosterHeard_reached hk
  · rw [h, State.reached_modCrew (by intro; rfl) (by intro; rfl)]; exact State.rosterHeard_reached hk

theorem State.acceptFrom_attempt (c : Chan) (k : Crew) (a : Assembly) (d : Chan) :
    ((s.acceptFrom c k a).chan d).attempt = (s.chan d).attempt := by
  have hair : ((s.rosterHeard k.slot).chan d).attempt = (s.chan d).attempt :=
    (congrArg Channel.attempt (State.air_of_airs (State.rosterHeard_airs (s := s) k.slot) d) :)
  rcases State.acceptFrom_eq c k a with h | h
  · rw [h]; exact hair
  · rw [h]; exact hair

theorem State.fromStranger_eq (c : Chan) (a : Assembly) : ∃ n, (s.fromStranger c a).1 = s.post n := by
  rw [State.fromStranger]
  split
  · split
    · exact ⟨_, rfl⟩
    · exact ⟨_, rfl⟩
  · exact ⟨_, rfl⟩

theorem State.fromStranger_code (c : Chan) (a : Assembly) :
    (s.fromStranger c a).2 = if a.kind = kindEmergency then ackCode else nakUnknownCode := by
  rw [State.fromStranger]
  split
  · split <;> rfl
  · rfl

/-- An accepted telegram is answered ACK, NAK_BUSY or NAK_REJECTED (R186, R188). -/
theorem State.route_code (c : Chan) (k : Crew) (a : Assembly) :
    (s.route c k a).2 = 1 ∨ (s.route c k a).2 = 2 ∨ (s.route c k a).2 = 3 := by
  have hrest (badge : Nat) : (s.rest badge).2 = 1 ∨ (s.rest badge).2 = 3 := by
    rw [State.rest]
    split
    · exact .inr rfl
    · split
      · exact .inr rfl
      · exact .inr rfl
      · exact .inr rfl
      · exact .inr rfl
      · split
        · exact .inr rfl
        · exact .inl rfl
      · split
        · exact .inr rfl
        · exact .inl rfl
  rw [State.route]
  split
  · exact .inr (.inr rfl)
  · split
    · split
      · exact .inr (.inl rfl)
      · exact .inl rfl
    · split
      · split
        · exact .inl rfl
        · rw [State.routeWatch]
          split
          · split
            · exact .inl rfl
            · split
              · exact .inl rfl
              · exact (hrest _).imp id .inr
          · exact .inr (.inr rfl)
      · split
        · exact .inl rfl
        · exact .inl rfl
      · split
        · exact .inl rfl
        · exact .inl rfl
      · exact .inr (.inr rfl)

theorem State.judge_attempt (c : Chan) (a : Assembly) (d : Chan) : ((s.judge c a).1.chan d).attempt = (s.chan d).attempt := by
  rw [State.judge]
  split
  · obtain ⟨n, hn⟩ := State.fromStranger_eq (s := s) c a
    rw [hn, State.post_chan]
  · split
    · rfl
    · exact (State.attempt_of_signs (State.route_signs _ _ _) d).trans (State.acceptFrom_attempt _ _ _ d)

theorem State.judge_of_stranger {c : Chan} {a : Assembly} (h : s.crewOfUnit? a.src = none) : s.judge c a = s.fromStranger c a := by
  rw [State.judge, h]

theorem State.judge_of_repeated {c : Chan} {a : Assembly} {k : Crew} (h : s.crewOfUnit? a.src = some k) (hseq : k.inSeq = some a.seq) :
    s.judge c a = (s, ackCode) := by
  simp only [State.judge, h]
  exact if_pos hseq

theorem State.judge_of_new {c : Chan} {a : Assembly} {k : Crew} (h : s.crewOfUnit? a.src = some k) (hseq : k.inSeq ≠ some a.seq) :
    s.judge c a = (s.acceptFrom c k a).route c k a := by
  simp only [State.judge, h]
  exact if_neg hseq

end

end Sys2Proof.Machine
end

section
/-!
A telegram assembled (R180, R181), and what deliveries and failures bring to the records (R31 to R35, R44, R67, R113).
-/

namespace Sys2Proof.Machine
/-! ### A frame assembled (R180, R181) -/

/-- The assembly that a frame goes into: the one held where the frame continues it, or one started from its header. -/
def Channel.holding (ch : Channel) (h : Header) : Assembly :=
  match ch.assembly with
  | some a => if a.continues h then a else Assembly.start h
  | none => Assembly.start h

/-- The assembly of a channel after a frame. -/
def Channel.assembling (ch : Channel) (f : Frame) : Assembly := (ch.holding f.header).take f

theorem Channel.assembling_header (ch : Channel) (f : Frame) : (ch.assembling f).src = f.header.src ∧ (ch.assembling f).seq = f.header.seq
    ∧ (ch.assembling f).kind = f.header.kind ∧ (ch.assembling f).len = f.header.len := by
  have hheld : (ch.holding f.header).src = f.header.src ∧ (ch.holding f.header).seq = f.header.seq
      ∧ (ch.holding f.header).kind = f.header.kind ∧ (ch.holding f.header).len = f.header.len := by
    rw [Channel.holding]
    split
    next a _ =>
      split
      next hcontinues =>
        simp only [Assembly.continues, Bool.and_eq_true, beq_iff_eq] at hcontinues
        obtain ⟨⟨⟨hsrc, hseq⟩, hkind⟩, hlen⟩ := hcontinues
        exact ⟨hsrc.symm, hseq.symm, hkind.symm, hlen.symm⟩
      · exact ⟨rfl, rfl, rfl, rfl⟩
    · exact ⟨rfl, rfl, rfl, rfl⟩
  exact hheld

theorem Channel.assembling_congr {ch ch' : Channel} (h : ch'.assembly = ch.assembly) (f : Frame) : ch'.assembling f = ch.assembling f := by
  rw [Channel.assembling, Channel.assembling, Channel.holding, Channel.holding, h]

/-- A channel that answers a telegram (R153). -/
def Channel.answering (f : Frame) (after : AfterAnswer) (code map : Nat) (kept : Option Assembly) (ch : Channel) : Channel :=
  { ch with
    state := .answering, origin := none, afterAnswer := some after, assembly := kept
    txFrame := answerFrame f.header.src f.header.seq code map }

section
variable {s : State} {c : Chan} {f : Frame} (hbase : f.header.toBase = true) (hkind : f.header.kind ≠ 1)
include hbase hkind

theorem State.receive_of_telegram (origin : Origin) : s.receive c f origin =
    (s.assembled c ((s.chan c).assembling f)).1.follow c (s.assembled c ((s.chan c).assembling f)).2 := by
  have htelegram : (!f.header.toBase || f.header.kind == kindAnswer) = false := by
    rw [hbase, beq_eq_false_iff_ne.2 (show f.header.kind ≠ kindAnswer from hkind)]
    rfl
  simp only [State.receive, State.takeFrame, htelegram]
  rfl

/-- A telegram with blocks missing is kept, and answered with the map of those held (R181). -/
theorem State.receive_of_part (origin : Origin) (hpart : ((s.chan c).assembling f).complete = false) : s.receive c f origin =
    s.modChan c (Channel.answering f .await 1 ((s.chan c).assembling f).map (some ((s.chan c).assembling f))) := by
  obtain ⟨hsrc, hseq, -, -⟩ := (s.chan c).assembling_header f
  rw [State.receive_of_telegram hbase hkind]
  simp only [State.assembled, hpart, Bool.false_eq_true, if_false, State.follow]
  rw [State.modChan_modChan, hsrc, hseq]
  rfl

/-- The state in which a complete telegram is judged. -/
def State.judged (s : State) (c : Chan) (f : Frame) : State × Nat :=
  (s.modChan c fun ch => { ch with assembly := some (ch.assembling f) }).judge c ((s.chan c).assembling f)

/-- A complete telegram is judged and answered (R181). -/
theorem State.receive_of_whole (origin : Origin) (hwhole : ((s.chan c).assembling f).complete = true) : s.receive c f origin =
    (s.judged c f).1.modChan c (Channel.answering f .finish (s.judged c f).2 (fullMap (blockCount f.header.len)) none) := by
  obtain ⟨hsrc, hseq, -, hlen⟩ := (s.chan c).assembling_header f
  have hjudged : (s.modChan c fun ch => { ch with assembly := some ((s.chan c).assembling f) }).judge c ((s.chan c).assembling f)
      = s.judged c f := by
    rw [State.judged]
    exact congrArg (fun t : State => t.judge c ((s.chan c).assembling f)) (State.modChan_congr rfl)
  rw [State.receive_of_telegram hbase hkind]
  simp only [State.assembled, hwhole, if_true, State.follow, hjudged]
  rw [State.modChan_modChan, hsrc, hseq, hlen]
  rfl

end

section
variable {s : State} {c : Chan} {f : Frame}

/-- What is known of the code that answers a whole telegram, and of its crew (R182 to R186). -/
theorem State.judged_code :
    (s.crewOfUnit? f.header.src = none → (s.judged c f).2 = if f.header.kind = kindEmergency then ackCode else nakUnknownCode)
      ∧ ∀ k, s.crewOfUnit? f.header.src = some k → (k.inSeq = some f.header.seq → (s.judged c f).2 = ackCode)
        ∧ (k.inSeq ≠ some f.header.seq → ((s.judged c f).2 = 1 ∨ (s.judged c f).2 = 2 ∨ (s.judged c f).2 = 3)
          ∧ (s.judged c f).1.reached k.slot = some (0, .reachable, some s.clock)) := by
  obtain ⟨hsrc, hseq, hkind, -⟩ := (s.chan c).assembling_header f
  refine ⟨fun hnone => ?_, fun k hk => ⟨fun hold => ?_, fun hnew => ?_⟩⟩
  · rw [State.judged, State.judge_of_stranger (by rw [hsrc]; exact hnone), State.fromStranger_code, hkind]
  · rw [State.judged, State.judge_of_repeated (by rw [hsrc]; exact hk) (by rw [hseq]; exact hold)]
  · rw [State.judged, State.judge_of_new (k := k) (by rw [hsrc]; exact hk) (by rw [hseq]; exact hnew)]
    refine ⟨State.route_code _ _ _, (State.reached_of_signs (State.route_signs _ _ _) _).trans ?_⟩
    have hmem : k ∈ s.crews := List.mem_of_find?_eq_some hk
    refine State.acceptFrom_reached (s := s.modChan c fun ch => { ch with assembly := some (ch.assembling f) }) c k _ ?_
    exact (List.find?_isSome (p := fun x => x.slot == k.slot)).2 ⟨k, hmem, by simp⟩

theorem State.judged_attempt (d : Chan) : ((s.judged c f).1.chan d).attempt = (s.chan d).attempt := by
  rw [State.judged, State.judge_attempt, State.modChan_chan]
  split
  · rfl
  · rfl

end
/-! ### A delivery and its crew (R14) -/

section
variable {s : State} {c : Chan} {e : Entry}

/-- What does not turn on how crews are reached is kept as a crew's standing changes (R13 to R16). -/
theorem Spares.rosterHeard {may : Owner → Prop} {P : State → Prop} (hP : Spares may P)
    (hstanding : ∀ (t : State) (n : Nat) (f : Crew → Crew),
      (∀ k, f k = { k with failures := (f k).failures, reach := (f k).reach, lastHeard := (f k).lastHeard }) → P t → P (t.modCrew n f))
    (hs : P s) (slot : Nat) : P (s.rosterHeard slot) := by
  rw [State.rosterHeard, State.setStanding]
  split
  · exact hs
  · have hone := hstanding s slot (fun k =>
      { k with failures := 0, reach := .reachable, lastHeard := if true then some s.clock else k.lastHeard }) (fun _ => rfl) hs
    dsimp only
    split
    · exact hone
    · split
      · exact hP.offerOwedAndHead (hP.post hone _ rfl) slot
      · exact hP.post hone _ rfl

/-- A telegram that is delivered: its entry removed, its owner told, and its crew heard (R151). -/
def State.deliveredTo (s : State) (c : Chan) (e : Entry) (slot : Nat) : State := ((s.over c e).ownerDelivered c e).rosterHeard slot

theorem State.endAttempt_of_delivered {slot unit : Nat} (hfly : s.flying c = some e) (horphan : e.orphan = false)
    (haddr : e.addr = .crew slot unit) : s.endAttempt c .delivered = s.deliveredTo c e slot := by
  have hslot : e.addr.slot? = some slot := by rw [haddr]; rfl
  simp only [State.endAttempt, hfly, horphan, Bool.false_eq_true, if_false, State.rosterTakes, hslot]
  rfl

theorem State.endAttempt_of_rejected (hfly : s.flying c = some e) (horphan : e.orphan = false) (code : Nat) :
    s.endAttempt c (.rejected code) = (s.over c e).ownerFailed c e .rejected (.rejected code) := by
  simp only [State.endAttempt, hfly, horphan, Bool.false_eq_true, if_false]
  rfl

theorem State.over_clock : (s.over c e).clock = s.clock := by rw [s.over_onlyChans c e]

theorem State.over_reached (slot : Nat) : (s.over c e).reached slot = s.reached slot := by
  rw [State.reached, State.over_crew?]
  rfl

theorem State.crew?_isSome_of_shape {s t : State} (h : t.shape = s.shape) (slot : Nat) : (t.crew? slot).isSome = (s.crew? slot).isSome := by
  have hslots : t.crews.map (·.slot) = s.crews.map (·.slot) := congrArg Shape.slots h
  have hof (u : State) : (u.crew? slot).isSome = (u.crews.map (·.slot)).any (· == slot) := by
    rw [Bool.eq_iff_iff, State.crew?, tFind, List.find?_isSome, List.any_map, List.any_eq_true]
    rfl
  rw [hof, hof, hslots]

section
variable {slot : Nat} (hk : (s.crew? slot).isSome)
include hk

theorem State.ownerDelivered_crew : ((s.over c e).ownerDelivered c e).clock = s.clock
    ∧ (((s.over c e).ownerDelivered c e).crew? slot).isSome := by
  have hshape : ((s.over c e).ownerDelivered c e).shape = (s.over c e).shape := State.ownerDelivered_shape ..
  refine ⟨(congrArg Shape.clock hshape :).trans State.over_clock, ?_⟩
  rw [State.crew?_isSome_of_shape hshape, State.over_crew?]
  exact hk

theorem State.deliveredTo_reached : (s.deliveredTo c e slot).reached slot = some (0, .reachable, some s.clock) := by
  obtain ⟨hclock, hsome⟩ := State.ownerDelivered_crew (c := c) (e := e) hk
  rw [State.deliveredTo, State.rosterHeard_reached hsome, hclock]

/-- A crew that has been heard (R14, R15). -/
def Crew.heard (clock : Word32) (k : Crew) : Crew := { k with failures := 0, reach := .reachable, lastHeard := some clock }

/-- The frame of a delivery, from what the telegram's owner does. -/
theorem State.deliveredTo_frame {t : State} (h : ((s.over c e).ownerDelivered c e).frame = t.frame) :
    (s.deliveredTo c e slot).frame = (t.modCrew slot (Crew.heard s.clock)).frame := by
  obtain ⟨hclock, hsome⟩ := State.ownerDelivered_crew (c := c) (e := e) hk
  obtain ⟨k, hk'⟩ := Option.isSome_iff_exists.1 hsome
  rw [State.deliveredTo, State.rosterHeard_frame hk', hclock]
  exact State.modCrew_frame_congr h slot fun k => by simp only [Crew.frame, sort_sort]

end
end

/-! ### What a delivery brings to an order (R31, R35) -/

theorem State.modOrder_frame_at {s : State} {n : Nat} {o : Order} {f g : Order → Order} (hrising : rising (s.orders.map (·.number)))
    (ho : s.order? n = some o) (h : (f o).frame = (g o).frame) : (s.modOrder n f).frame = (s.modOrder n g).frame := by
  have hone : ∀ x ∈ s.orders, (if x.number = n then f x else x).frame = (if x.number = n then g x else x).frame := by
    intro x hx
    split
    next hnumber =>
      have hsame : x = o := List.inj_on_of_nodup_map (hrising.imp fun hlt => Nat.ne_of_lt hlt) hx (tFind_some Order.number ho).2
        (hnumber.trans (State.number_of_order? ho).symm)
      rw [hsame]
      exact h
    · rfl
  show ({ s.frame with orders := (tMod Order.number n f s.orders).map Order.frame } : State)
    = { s.frame with orders := (tMod Order.number n g s.orders).map Order.frame }
  simp only [tMod, List.map_map]
  exact congrArg (fun l => ({ s.frame with orders := l } : State)) (List.map_congr_left hone)

section
variable {s : State} {n : Nat} {o : Order} (ho : s.order? n = some o)
include ho

/-- An order delivered, before the preemption check (R31). -/
def Order.delivered (clock : Word32) (timeout : Nat) (o : Order) : Order :=
  { o with state := .delivered, link := none, deliveredAt := some clock, acceptance := some timeout }

theorem State.orderDelivered_of_sent (hst : o.state = .sent) : s.orderDelivered n =
    ((s.modOrder n (Order.delivered s.clock s.params.acceptanceTimeout)).post (.orderState n o.crew .sent .delivered none)).checkCrewOf n := by
  simp only [State.orderDelivered, ho, hst, if_true]
  rfl

theorem State.orderDelivered_frame (hst : o.state = .sent) : (s.orderDelivered n).frame
    = (s.modOrder n (Order.delivered s.clock s.params.acceptanceTimeout)).frame := by
  rw [State.orderDelivered_of_sent ho hst, State.checkCrewOf_frame, State.post_frame]

/-- A head that is delivered stands as such (R31). -/
theorem State.orderDelivered_stands (hst : o.state = .sent) {k : Crew} {slot : Nat} (hk : s.crew? slot = some k)
    (hhead : s.settledHead k n) : (s.orderDelivered n).HeadStands slot n k.queue s.priority?
      (.delivered, none, some s.params.acceptanceTimeout, some s.clock, o.unanswered, o.deferral) := by
  obtain ⟨-, hsecond, hapart⟩ := hhead
  have hP := headStands_spared (slot := slot) (n := n) (q := k.queue) (prio := s.priority?)
    (r := (.delivered, none, some s.params.acceptanceTimeout, some s.clock, o.unanswered, o.deferral)) (calm_of_none hsecond) nofun nofun
  rw [State.orderDelivered_of_sent ho hst]
  refine hP.checkCrewOf (hP.post (s := s.modOrder n (Order.delivered s.clock s.params.acceptanceTimeout)) ⟨?_, ?_, ?_⟩ _ (by rfl)) n
  · exact State.Lined.modOrder (s := s) ⟨congrArg (Option.map _) hk, rfl⟩ n (by intro; exact ⟨rfl, rfl⟩)
  · intro k' hk' hslot
    exact hapart k' hk' (by rw [State.slot_of_crew? hk]; exact hslot)
  · rw [State.order?_modOrder (by intro; rfl) ho]
    rfl

/-- An order that has left SENT, as its own telegram is over (R35). -/
theorem State.unlinkOrder_stands {k : Crew} {slot : Nat} (hk : s.crew? slot = some k) (hhead : s.settledHead k n)
    (hassigned : o.state ≠ .assigned) (hsent : o.state ≠ .sent) :
    (s.unlinkOrder n).HeadStands slot n k.queue s.priority? (o.state, none, o.acceptance, o.deliveredAt, o.unanswered, o.deferral) := by
  obtain ⟨-, hsecond, hapart⟩ := hhead
  have hP := headStands_spared (slot := slot) (n := n) (q := k.queue) (prio := s.priority?)
    (r := (o.state, none, o.acceptance, o.deliveredAt, o.unanswered, o.deferral)) (calm_of_none hsecond) hassigned hsent
  refine hP.checkCrewOf ⟨State.Lined.modOrder (s := s) ⟨congrArg (Option.map _) hk, rfl⟩ n (by intro; exact ⟨rfl, rfl⟩), ?_, ?_⟩ n
  · intro k' hk' hslot
    exact hapart k' hk' (by rw [State.slot_of_crew? hk]; exact hslot)
  · rw [State.order?_modOrder (by intro; rfl) ho]
    rfl

theorem State.modOrder_unlinked (c : Chan) : (s.modOrder n fun o => { o with link := none }).Ended n o.state o.crew False c := by
  refine ⟨?_, nofun⟩
  rw [State.order?_modOrder (by intro; rfl) ho]
  rfl

theorem State.unlinkOrder_ended (hst : o.state.movable = false) (c : Chan) : (s.unlinkOrder n).Ended n o.state o.crew False c :=
  (ended_spared n hst o.crew False c).checkCrewOf (State.modOrder_unlinked ho c) n

/-- The delivery of an order's telegram after the order has left SENT (R35). -/
theorem State.orderDelivered_of_left (hst : o.state ≠ .sent) :
    (s.orderDelivered n = s.unlinkOrder n ∧ ¬ (o.state = .cancelled ∧ (o.followUp.all fun f => f.1 != .cancel) = true))
    ∨ o.state = .cancelled ∧ (o.followUp.all fun f => f.1 != .cancel) = true
      ∧ s.orderDelivered n = ((s.modOrder n fun o => { o with link := none }).followWithCancel n).checkCrewOf n := by
  simp only [State.orderDelivered, ho, if_neg hst]
  split
  next h => exact .inr ⟨h.1, h.2, rfl⟩
  next h => exact .inl ⟨rfl, h⟩

theorem State.orderFailed_of_left (hst : o.state ≠ .sent) (cause : OrderCause) : s.orderFailed n cause = s.unlinkOrder n := by
  simp only [State.orderFailed, ho, if_neg hst]

end

/-- What does not turn on follow-ups is kept as ORDER_CANCEL becomes one (R43). -/
theorem State.Ended.followWithCancel {s : State} {n : Nat} {st : OrderState} {crew : Option Nat} {c : Chan}
    (hst : st.movable = false) (h : s.Ended n st crew False c) (m : Nat) : (s.followWithCancel m).Ended n st crew False c := by
  have hP := ended_spared n hst crew False c
  have hcleared (t : State) (ht : t.Ended n st crew False c) :
      (((t.withOwed (t.owed.erase m)).modOrder m fun o => { o with followUp := some (.cancel, .owed) }).offerFollowUp m).Ended n st crew False c :=
    hP.offerFollowUp ((hP.withOwed ht _).modOrder m (f := fun o => { o with followUp := some (.cancel, .owed) }) (fun _ => rfl) fun _ _ => rfl)
      nofun
  rw [State.followWithCancel]
  refine hcleared _ ?_
  split
  · exact ⟨(congrArg (fun l => (tFind Order.number n l).map fun o => (o.state, o.link, o.crew)) (s.withdraw_onlyChans _).orders).trans h.record,
      nofun⟩
  · exact ⟨h.record, nofun⟩
  · exact h

theorem State.orderDelivered_ended {s : State} {n : Nat} {o : Order} (ho : s.order? n = some o) (hst : o.state.movable = false) (c : Chan) :
    (s.orderDelivered n).Ended n o.state o.crew False c := by
  have hsent : o.state ≠ .sent := fun h => by rw [h] at hst; cases hst
  rcases State.orderDelivered_of_left ho hsent with ⟨h, -⟩ | ⟨-, -, h⟩
  · rw [h]; exact State.unlinkOrder_ended ho hst c
  · rw [h]
    exact (ended_spared n hst o.crew False c).checkCrewOf ((State.modOrder_unlinked ho c).followWithCancel hst n) n

/-- Which follow-up an order has is no matter of traffic. -/
theorem State.followKind_of_order? {s t : State} {n : Nat} (h : (t.order? n).map Order.frame = (s.order? n).map Order.frame) :
    (t.order? n).map (fun o => o.followUp.map (·.1)) = (s.order? n).map fun o => o.followUp.map (·.1) := by
  have hof (u : State) : (u.order? n).map (fun o => o.followUp.map (·.1)) = ((u.order? n).map Order.frame).map fun o => o.followUp.map (·.1) := by
    rw [Option.map_map]
    refine congrArg (Option.map · _) (funext fun o => ?_)
    simp only [Order.frame, Function.comp_apply, Option.map_map]
    rfl
  rw [hof, hof, h]

/-- A cancelled order whose telegram is delivered has ORDER_CANCEL for its follow-up (R35, R43). -/
theorem State.orderDelivered_cancelled {s : State} {n : Nat} {o : Order} (ho : s.order? n = some o) (hst : o.state = .cancelled) :
    ((s.orderDelivered n).order? n).map (fun o => o.followUp.map (·.1)) = some (some .cancel) := by
  have hsent : o.state ≠ .sent := by rw [hst]; nofun
  have hframe {t u : State} (h : t.frame = u.frame) := State.followKind_of_order? (State.order?_of_frameWatch (State.frameWatch_of_frame h) n)
  rcases State.orderDelivered_of_left ho hsent with ⟨h, hno⟩ | ⟨-, -, h⟩
  · rw [h, State.unlinkOrder, hframe (State.checkCrewOf_frame _ _), State.order?_modOrder (by intro; rfl) ho]
    cases hf : o.followUp with
    | none => exact absurd ⟨hst, by rw [hf]; rfl⟩ hno
    | some f =>
      rw [hf] at hno
      have hcancel : f.1 = .cancel := by
        by_contra hne
        exact hno ⟨hst, by simpa using hne⟩
      exact congrArg some (congrArg some hcancel)
  · rw [h, hframe (State.checkCrewOf_frame _ _), hframe (State.followWithCancel_frame _ _),
      State.order?_modOrder (by intro; rfl) (State.order?_modOrder (by intro; rfl) ho)]
    rfl
/-! ### What an outcome brings to follow-ups, prompts and permits' telegrams (R44, R67, R113) -/

section
variable {s : State}

theorem State.firm_of_noneWaits {o : Owner} (h : s.noneWaits o) (c : Chan) (e : Entry) (he : e ∈ (s.chan c).queue) (howner : e.owner = o)
    (hwait : e.inFlight = false) (hlinked : e.linked = true) : e.Firm := by
  rw [h c e he howner hwait] at hlinked
  cases hlinked

theorem State.setFollowUp_followed {n : Nat} {o : Order} {kind : FollowKind} {old st : FollowStatus} (ho : s.order? n = some o)
    (hf : o.followUp = some (kind, old))
    (hfirm : ∀ c, ∀ e ∈ (s.chan c).queue, e.owner = .followUp n → e.inFlight = false → e.linked = true → e.Firm) (hst : st ≠ .owed) :
    (s.setFollowUp n st).Followed n kind st := by
  have hP := followed_spared n kind hst
  have hone : (s.modOrder n fun o => { o with followUp := o.followUp.map fun f => (f.1, st) }).Followed n kind st := by
    refine ⟨?_, hfirm⟩
    rw [State.order?_modOrder (by intro; rfl) ho]
    simp only [Option.map_some, hf]
  simp only [State.setFollowUp, ho]
  split
  · exact hP.syncOrderDefer (hP.withOwed hone _) _
  · exact hP.withOwed hone _

theorem State.setPrompts_prompted {who badge : Nat} {overdue : Bool} {badges : List Nat} {w : Worker} {st : PromptStatus}
    (hw : s.worker? badge = some w) (hcrew : w.crew = who) (hin : badge ∈ badges)
    (hwaits : ∀ c, ∀ x ∈ (s.chan c).queue, x.owner = .prompt who → x.inFlight = true) :
    (s.setPrompts who (.prompt overdue badges) st).Prompted who badge st := by
  refine ⟨?_, hwaits⟩
  rw [State.setPrompts_worker? hw, if_pos ⟨hcrew, by rw [State.badge_of_worker? hw]; simpa using hin⟩]
  exact congrArg some (Prod.ext hcrew rfl)

theorem Permit.setTg_tg? {p : Permit} {tg : PermitTg} (h : p.tg? tg ≠ none) (st : TgStatus) : (p.setTg tg st).tg? tg = some st := by
  cases tg with
  | instruct =>
    cases hout : p.outstanding with
    | none => simp [Permit.tg?, hout] at h
    | some i => simp [Permit.setTg, Permit.tg?, hout]
  | issue => rfl
  | answer =>
    cases hanswer : p.answer with
    | none => simp [Permit.tg?, hanswer] at h
    | some a => simp [Permit.setTg, Permit.tg?, hanswer]
  | closing => rfl

/-- A telegram's status that only its own kind of telegram changes. -/
theorem Permit.ofTg_status (tg : PermitTg) {st : TgStatus} (hst : st ≠ .deferred) : Permit.OfTg tg fun p => p.tg? tg = some st := by
  refine ⟨fun p hp hdue => hst (Option.some_inj.1 (hp.symm.trans hdue)), fun p tg' st' hne hp => ?_, fun p d hp => ?_⟩
  · exact (Permit.setTg_tg?_other (Ne.symm hne) st').trans hp
  · cases tg <;> exact hp

/-- One of a permit's telegrams that waits nowhere keeps the status that its outcome gives it. -/
theorem State.setTg_fixed {serial : Nat} {p : Permit} {tg : PermitTg} {st : TgStatus} (hp : s.permit? serial = some p)
    (htg : p.tg? tg ≠ none) (hwaits : s.noneWaits (.permit tg serial)) (hst : st ≠ .deferred) :
    (s.setTg serial tg st).TgFixed tg serial fun p => p.tg? tg = some st := by
  have hbefore : s.TgFixed tg serial (· = p) := by
    refine ⟨fun q hq => Option.some_inj.1 (hq.symm.trans hp), fun c e he ho hw hl => ?_⟩
    rw [hwaits c e he ho hw] at hl
    cases hl
  exact (tgFixed_spared (Permit.ofTg_status tg hst)).syncPermitDefer (hbefore.modPermit_same (f := fun p => p.setTg tg st)
    (fun p => by cases tg <;> rfl) fun q hq => by rw [hq]; exact Permit.setTg_tg? htg st) serial

theorem State.permitDelivered_fixed {serial : Nat} {p : Permit} {tg : PermitTg} (hp : s.permit? serial = some p) (htg : p.tg? tg ≠ none)
    (hwaits : s.noneWaits (.permit tg serial)) : (s.permitDelivered tg serial).TgFixed tg serial fun p => p.tg? tg = some .delivered := by
  have hset := State.setTg_fixed (st := .delivered) hp htg hwaits nofun
  cases tg with
  | issue => exact hset.modPermit (f := fun p => { p with readback := some s.params.readbackWait }) (fun _ => rfl) fun _ _ h => h
  | instruct => exact hset
  | answer => exact hset
  | closing => exact hset

theorem State.permitDelivered_frame (tg : PermitTg) (serial : Nat) : (s.permitDelivered tg serial).frame
    = (s.modPermit serial fun p => if tg = .issue then { p with readback := some s.params.readbackWait } else p).frame := by
  have hsame : s.frame = (s.modPermit serial fun p => p).frame := (State.modPermit_frame _ _ _ fun _ => rfl).symm
  cases tg with
  | issue => exact State.modPermit_frame_congr (State.setTg_frame _ _ _ _) serial fun _ => by simp [Permit.frame, Function.comp_def]
  | instruct => exact (State.setTg_frame _ _ _ _).trans hsame
  | answer => exact (State.setTg_frame _ _ _ _).trans hsame
  | closing => exact (State.setTg_frame _ _ _ _).trans hsame

/-- An answer or a closing telegram that fails (R67). -/
theorem State.permitFailed_reply {serial : Nat} {p : Permit} {tg : PermitTg} (hp : s.permit? serial = some p)
    (htg : tg = .answer ∨ tg = .closing) : (s.permitFailed tg serial).frame = s.frame
      ∧ (p.tg? tg ≠ none → s.noneWaits (.permit tg serial) →
        (s.permitFailed tg serial).TgFixed tg serial fun p => p.tg? tg = some .failed) := by
  have hP := tgFixed_spared (serial := serial) (Permit.ofTg_status tg (st := .failed) nofun)
  have hof (n : Subject) (hn : n.isAlarm = false) (h : s.permitFailed tg serial = (s.setTg serial tg .failed).post n) :
      (s.permitFailed tg serial).frame = s.frame
      ∧ (p.tg? tg ≠ none → s.noneWaits (.permit tg serial) →
        (s.permitFailed tg serial).TgFixed tg serial fun p => p.tg? tg = some .failed) := by
    rw [h]
    exact ⟨(State.post_frame _ _).trans (State.setTg_frame _ _ _ _), fun hsome hwaits => hP.post (State.setTg_fixed hp hsome hwaits nofun) n hn⟩
  rcases htg with rfl | rfl
  · exact hof (.permitState serial p.holder p.state p.state .answerFailed) rfl (by simp only [State.permitFailed, hp])
  · exact hof (.permitState serial p.holder p.state p.state .closeFailed) rfl (by simp only [State.permitFailed, hp])

end

end Sys2Proof.Machine
end

section
/-!
What a delivery and a rejection bring by the end of their event (R31 to R35, R44, R67, R72, R80, R92, R113, R145, R151, R173).
-/

namespace Sys2Proof.Machine
/-! ### A state after an event whose attempt was delivered or rejected -/

theorem State.mem_over {s : State} {c d : Chan} {e x : Entry} (hx : x ∈ ((s.over c e).chan d).queue) : x ∈ (s.chan d).queue := by
  rw [State.over, State.removeEntry, State.signal_chan, State.flowEval_queue] at hx
  rcases State.mem_modChan_queue hx with hold | hnew
  · exact (State.mem_modChan_queue hold).elim id id
  · exact (State.mem_modChan_queue (List.mem_of_mem_erase hnew)).elim id id

theorem State.mem_endReception {s : State} {c d : Chan} {x : Entry} (hx : x ∈ ((s.endReception c).chan d).queue) : x ∈ (s.chan d).queue :=
  (State.mem_modChan_queue hx).elim id id

/-- The records after an event are those after its work, up to traffic. -/
theorem State.event_order?_frame (s : State) (work : State → State) (n : Nat) :
    ((s.event work).order? n).map Order.frame = ((work s.atEvent).order? n).map Order.frame := by
  rw [State.event_eq, State.settle_order?]
  exact State.order?_of_frameWatch (State.frameWatch_of_frame (State.giveSignals_frame _)) n

/-- The state before the owner of a telegram is told of its outcome, in an event that a received frame makes. -/
def State.told (s : State) (c : Chan) (e : Entry) : State := (s.atEvent.endReception c).over c e

section
variable {s : State} {c : Chan} {e : Entry}

theorem State.mem_told {d : Chan} {x : Entry} (hx : x ∈ ((s.told c e).chan d).queue) : x ∈ (s.chan d).queue :=
  State.mem_endReception (s := s.atEvent) (State.mem_over hx)

theorem State.told_noneWaits {o : Owner} (h : s.noneWaits o) : (s.told c e).noneWaits o :=
  State.noneWaits_of_queues (fun _ _ hx _ => State.mem_told hx) h

theorem State.told_order? (n : Nat) : (s.told c e).order? n = s.order? n := State.over_order? n
theorem State.told_permit? (n : Nat) : (s.told c e).permit? n = s.permit? n := State.over_permit? n
theorem State.told_crew? (n : Nat) : (s.told c e).crew? n = s.crew? n := State.over_crew? n

theorem State.told_worker? (n : Nat) : (s.told c e).worker? n = s.worker? n :=
  congrArg (tFind Worker.badge n) ((s.atEvent.endReception c).over_onlyChans c e).workers

theorem State.told_records : (s.told c e).crews = s.crews ∧ (s.told c e).orders = s.orders ∧ (s.told c e).clock = s.clock
    ∧ (s.told c e).params = s.params ∧ (s.told c e).notices = s.notices := by
  have hover := (s.atEvent.endReception c).over_onlyChans c e
  exact ⟨hover.crews, hover.orders, by rw [State.told, hover]; rfl, by rw [State.told, hover]; rfl, by rw [State.told, hover]; rfl⟩

theorem State.told_frame : (s.told c e).frame = ((s.atEvent.endReception c).modChan c Channel.unattempted).frame := State.over_frame

/-- What an outcome makes of a settled head is the same in the state in which its owner is told. -/
theorem State.told_settledHead {k : Crew} {n : Nat} (h : s.settledHead k n) : (s.told c e).settledHead k n := by
  obtain ⟨hhead, hsecond, hapart⟩ := h
  obtain ⟨hcrews, horders, -⟩ := s.told_records (c := c) (e := e)
  refine ⟨hhead, ?_, by rw [hcrews]; exact hapart⟩
  have hsome : ((s.told c e).emergencySecond k).isSome = (s.emergencySecond k).isSome :=
    State.emergencySecond_isSome_congr fun m => by rw [State.told_order?]
  rw [hsecond] at hsome
  exact Option.isNone_iff_eq_none.1 (by rw [← Option.not_isSome, hsome]; rfl)

end
/-! ### What is kept from an outcome to the end of its event -/

section
variable {s : State} {c : Chan} {e : Entry} {work : State → State} {may : Owner → Prop} {P : State → Prop} (hP : Spares may P)
  (hrest : ∀ t, P t → P (t.modChan c Channel.atRest))
include hP hrest

theorem Spares.after_delivery {slot : Nat}
    (hwork : work s.atEvent = (((s.told c e).ownerDelivered c e).rosterHeard slot).modChan c Channel.atRest)
    (hstanding : ∀ (t : State) (n : Nat) (f : Crew → Crew),
      (∀ k, f k = { k with failures := (f k).failures, reach := (f k).reach, lastHeard := (f k).lastHeard }) → P t → P (t.modCrew n f))
    (h : P ((s.told c e).ownerDelivered c e)) : P (s.event work) :=
  hP.event (by rw [hwork]; exact hrest _ (hP.rosterHeard hstanding h slot))

theorem Spares.after_rejection {code : Nat}
    (hwork : work s.atEvent = ((s.told c e).ownerFailed c e .rejected (.rejected code)).modChan c Channel.atRest)
    (h : P ((s.told c e).ownerFailed c e .rejected (.rejected code))) : P (s.event work) :=
  hP.event (by rw [hwork]; exact hrest _ h)

end

section
variable {s : State} {c : Chan} {n : Nat}

theorem State.Ended.atRest {st : OrderState} {crew : Option Nat} {gone : Prop} {d : Chan} (h : s.Ended n st crew gone d) :
    (s.modChan c Channel.atRest).Ended n st crew gone d := h.modChan fun _ _ hx => .inl hx

theorem State.Followed.atRest {kind : FollowKind} {st : FollowStatus} (h : s.Followed n kind st) :
    (s.modChan c Channel.atRest).Followed n kind st := h.modChan fun _ _ hx => .inl hx

theorem State.Prompted.atRest {who : Nat} {st : PromptStatus} (h : s.Prompted who n st) :
    (s.modChan c Channel.atRest).Prompted who n st := h.modChan fun _ _ hx => .inl hx

theorem State.TgFixed.atRest {tg : PermitTg} {R : Permit → Prop} (h : s.TgFixed tg n R) : (s.modChan c Channel.atRest).TgFixed tg n R :=
  h.of_queues rfl fun _ _ hx _ _ _ => .inr ((State.mem_modChan_queue hx).elim id id)

theorem State.HeadStands.atRest {slot : Nat} {q : List Nat} {prio : Nat → Option Priority}
    {r : Order.Told} (h : s.HeadStands slot n q prio r) :
    (s.modChan c Channel.atRest).HeadStands slot n q prio r := ⟨⟨h.lined.queue, h.lined.prios⟩, h.apart, h.record⟩

theorem State.HeadStands.standing {slot m : Nat} {q : List Nat} {prio : Nat → Option Priority}
    {r : Order.Told} (h : s.HeadStands slot n q prio r) {f : Crew → Crew}
    (hf : ∀ k, f k = { k with failures := (f k).failures, reach := (f k).reach, lastHeard := (f k).lastHeard }) :
    (s.modCrew m f).HeadStands slot n q prio r := h.modCrew m fun k => by
  rw [hf]
  exact ⟨rfl, fun _ => rfl, id⟩

theorem State.Ended.unlinked {st : OrderState} {crew : Option Nat} {gone : Prop} (h : s.Ended n st crew gone c) :
    (s.order? n).map (fun o => (o.state, o.link)) = some (st, none) := by
  obtain ⟨o, ho, heq⟩ := Option.map_eq_some_iff.1 h.record
  simp only [Prod.mk.injEq] at heq
  exact (congrArg (Option.map _) ho).trans (congrArg some (Prod.ext heq.1 heq.2.1))

theorem State.HeadStands.unlinked {slot : Nat} {q : List Nat} {prio : Nat → Option Priority} {st : OrderState}
    {r : Option Nat × Option Word32 × Bool × Option Deferral} (h : s.HeadStands slot n q prio (st, none, r)) :
    (s.order? n).map (fun o => (o.state, o.link)) = some (st, none) := by
  obtain ⟨o, ho, heq⟩ := Option.map_eq_some_iff.1 h.record
  simp only [Order.told, Prod.mk.injEq] at heq
  exact (congrArg (Option.map _) ho).trans (congrArg some (Prod.ext heq.1 heq.2.1))

end

/-! ### A telegram delivered (R145, R151) -/

section
variable {s : State} {c : Chan} {e : Entry} {slot n : Nat} {o : Order} {work : State → State}
  (hwork : work s.atEvent = (((s.told c e).ownerDelivered c e).rosterHeard slot).modChan c Channel.atRest) (hk : (s.crew? slot).isSome)
include hwork hk

theorem State.delivered_reached : (s.event work).reached slot = some (0, .reachable, some s.clock) := by
  rw [State.event_reached, hwork]
  exact State.deliveredTo_reached (s := s.atEvent.endReception c) (c := c) (e := e) hk

/-- The frame after a delivery's event, from what the telegram's owner does. -/
theorem State.delivered_frame {f : State → State} (hf : ∀ t : State, ((f t).modCrew slot (Crew.heard s.clock)).modChan c Channel.atRest
      = f ((t.modCrew slot (Crew.heard s.clock)).modChan c Channel.atRest))
    (h : ((s.told c e).ownerDelivered c e).frame = (f ((s.atEvent.endReception c).modChan c Channel.unattempted)).frame) :
    (work s.atEvent).frame = (f ((s.atEvent.modChan c Channel.decided).modCrew slot (Crew.heard s.clock))).frame := by
  have hframe := State.deliveredTo_frame (s := s.atEvent.endReception c) (c := c) (e := e) (slot := slot) hk h
  rw [hwork]
  refine (State.modChan_frame_congr hframe c fun _ => rfl).trans (congrArg State.frame ((hf _).trans (congrArg f ?_)))
  exact congrArg (fun t : State => t.modCrew slot (Crew.heard s.clock)) (State.modChan_decided (s := s.atEvent) (c := c))

variable (howner : e.owner = .order n) (ho : s.order? n = some o)
include howner ho

omit hwork hk ho in
theorem State.ownerDelivered_of_order : (s.told c e).ownerDelivered c e = (s.told c e).orderDelivered n := by
  simp only [State.ownerDelivered, howner]

theorem State.delivered_order_frame (hst : o.state = .sent) : (work s.atEvent).frame = (((s.atEvent.modChan c Channel.decided).modCrew slot
    (Crew.heard s.clock)).modOrder n (Order.delivered s.clock s.params.acceptanceTimeout)).frame := by
  refine State.delivered_frame (f := fun t => t.modOrder n (Order.delivered s.clock s.params.acceptanceTimeout)) hwork hk (fun _ => rfl) ?_
  obtain ⟨-, horders, hclock, hparams, -⟩ := s.told_records (c := c) (e := e)
  rw [State.ownerDelivered_of_order howner, State.orderDelivered_frame ((State.told_order? n).trans ho) hst, hclock, hparams]
  exact State.modOrder_frame_of_orders State.told_frame horders n _

theorem State.delivered_at (hst : o.state = .sent) : ((s.event work).order? n).map (·.deliveredAt) = some (some s.clock) := by
  have hof (t : State) : (t.order? n).map (·.deliveredAt) = ((t.order? n).map Order.frame).map (·.deliveredAt) := by
    rw [Option.map_map]
    rfl
  rw [hof, State.event_order?_frame,
    State.order?_of_frameWatch (State.frameWatch_of_frame (State.delivered_order_frame hwork hk howner ho hst)), ← hof]
  exact congrArg (Option.map _) (State.order?_modOrder (s := (s.atEvent.modChan c Channel.decided).modCrew slot (Crew.heard s.clock))
    (by intro; rfl) ho)

/-- An order in SENT that is delivered, up to traffic (R31). -/
theorem State.delivered_alike (hst : o.state = .sent) (hrising : rising (s.orders.map (·.number))) :
    Alike (s.event work) (((s.modChan c Channel.decided).modCrew slot (Crew.heard s.clock)).modOrder n fun o =>
      { o with deliveredAt := some s.clock }) := by
  refine State.event_alike ((State.delivered_order_frame hwork hk howner ho hst).trans ?_)
  refine (State.modOrder_frame_at (s := (s.atEvent.modChan c Channel.decided).modCrew slot (Crew.heard s.clock)) hrising ho ?_).trans rfl
  simp only [Order.frame, Order.delivered, hst, OrderState.movable, if_true]

omit hk in
/-- A settled head that is delivered (R31). -/
theorem State.delivered_settled (hst : o.state = .sent) {k : Crew} (hk : s.crew? slot = some k) (hhead : s.settledHead k n) :
    ((s.event work).order? n).map (fun o => (o.state, o.link, o.acceptance, o.deliveredAt))
      = some (.delivered, none, some s.params.acceptanceTimeout, some s.clock) := by
  obtain ⟨-, -, hclock, hparams, -⟩ := s.told_records (c := c) (e := e)
  have hstands := State.orderDelivered_stands ((State.told_order? (c := c) (e := e) n).trans ho) hst ((State.told_crew? slot).trans hk)
    (State.told_settledHead hhead)
  rw [← State.ownerDelivered_of_order howner, hclock, hparams] at hstands
  have hafter := (headStands_spared (calm_of_none (State.told_settledHead (c := c) (e := e) hhead).2.1) (by nofun) (by nofun)).after_delivery
    (fun _ h => h.atRest) hwork (fun _ _ _ hf h => h.standing hf) hstands
  obtain ⟨o', ho', heq⟩ := Option.map_eq_some_iff.1 hafter.record
  simp only [Order.told, Prod.mk.injEq] at heq
  obtain ⟨hstate, hlink, hacceptance, hdelivered, -⟩ := heq
  refine (congrArg (Option.map _) ho').trans (congrArg some ?_)
  simp only [hstate, hlink, hacceptance, hdelivered]

omit hk in
/-- An order that has left SENT loses the link to its telegram, and keeps its state where no traffic moves it (R35). -/
theorem State.delivered_unlinked (hsent : o.state ≠ .sent)
    (hstays : o.state.movable = false ∨ (o.state ≠ .assigned ∧ ∃ k, s.crew? slot = some k ∧ s.settledHead k n)) :
    ((s.event work).order? n).map (fun o => (o.state, o.link)) = some (o.state, none) := by
  have ho' := (State.told_order? (s := s) (c := c) (e := e) n).trans ho
  cases hmovable : o.state.movable with
  | false =>
    have hended := State.orderDelivered_ended ho' hmovable c
    rw [← State.ownerDelivered_of_order howner] at hended
    have hafter := (ended_spared n hmovable o.crew False c).after_delivery (fun _ h => h.atRest) hwork
      (fun _ _ _ _ h => ⟨h.record, h.queue⟩) hended
    exact hafter.unlinked
  | true =>
    obtain ⟨hassigned, k, hk, hhead⟩ := hstays.resolve_left (by rw [hmovable]; decide)
    have hunlinked : (s.told c e).orderDelivered n = (s.told c e).unlinkOrder n := by
      rcases State.orderDelivered_of_left ho' hsent with ⟨h, -⟩ | ⟨hcancelled, -⟩
      · exact h
      · rw [hcancelled] at hmovable
        cases hmovable
    have hstands := State.unlinkOrder_stands ho' ((State.told_crew? slot).trans hk) (State.told_settledHead hhead) hassigned hsent
    rw [← hunlinked, ← State.ownerDelivered_of_order howner] at hstands
    have hafter := (headStands_spared (calm_of_none (State.told_settledHead (c := c) (e := e) hhead).2.1) hassigned hsent).after_delivery
      (fun _ h => h.atRest) hwork (fun _ _ _ hf h => h.standing hf) hstands
    exact hafter.unlinked

theorem State.delivered_cancelled (hst : o.state = .cancelled) :
    ((s.event work).order? n).map (fun o => o.followUp.map (·.1)) = some (some .cancel) := by
  have hframe := State.deliveredTo_frame (s := s.atEvent.endReception c) (c := c) (e := e) (slot := slot) hk rfl
  have hcancel := State.orderDelivered_cancelled ((State.told_order? (c := c) (e := e) n).trans ho) hst
  rw [← State.ownerDelivered_of_order howner] at hcancel
  refine (State.followKind_of_order? (s.event_order?_frame work n)).trans ?_
  rw [hwork]
  exact (State.followKind_of_order? (State.order?_of_frameWatch (State.frameWatch_of_frame
    (State.modChan_frame_congr hframe c fun _ => rfl)) n)).trans hcancel

end

/-- Two states alike hold the same permits, up to where their telegrams stand. -/
theorem State.permit?_of_alike {s t : State} (h : Alike t s) (serial : Nat) :
    (t.permit? serial).map Permit.frame = (s.permit? serial).map Permit.frame := by
  have hone (u : State) : (u.permit? serial).map Permit.frame = tFind Permit.serial serial (u.permits.map Permit.frame) :=
    (tFind_map_of Permit.serial serial Permit.frame u.permits Permit.frame_serial).symm
  have hpermits : t.permits.map Permit.frame = s.permits.map Permit.frame := (congrArg State.permits h :)
  rw [hone, hone, hpermits]

theorem State.TgFixed.tg? {s : State} {serial : Nat} {tg : PermitTg} {st : Option TgStatus} {p : Permit}
    (h : s.TgFixed tg serial fun p => p.tg? tg = st) (hp : (s.permit? serial).map Permit.frame = some p) :
    (s.permit? serial).map (·.tg? tg) = some st := by
  obtain ⟨q, hq, -⟩ := Option.map_eq_some_iff.1 hp
  exact (congrArg (Option.map _) hq).trans (congrArg some (h.record q hq))

/-! What a delivery brings to a follow-up, a prompt and a permit's telegram (R44, R67, R113). -/

section
variable {s : State} {c : Chan} {e : Entry} {slot : Nat} {work : State → State}
  (hwork : work s.atEvent = (((s.told c e).ownerDelivered c e).rosterHeard slot).modChan c Channel.atRest)
include hwork

theorem State.delivered_followed {n : Nat} {o : Order} {kind : FollowKind} {old : FollowStatus} (howner : e.owner = .followUp n)
    (hlinked : e.linked = true) (ho : s.order? n = some o) (hf : o.followUp = some (kind, old)) (hwaits : s.noneWaits (.followUp n)) :
    ((s.event work).order? n).map (·.followUp) = some (some (kind, .delivered)) := by
  have hset := State.setFollowUp_followed (st := .delivered) ((State.told_order? (c := c) (e := e) n).trans ho) hf
    (State.firm_of_noneWaits (State.told_noneWaits hwaits)) nofun
  have hafter := (followed_spared n kind (st := .delivered) nofun).after_delivery (fun _ h => h.atRest) hwork
    (fun _ _ _ _ h => ⟨h.record, h.firm⟩) (by simp only [State.ownerDelivered, howner, hlinked, if_true]; exact hset)
  exact hafter.record

theorem State.delivered_prompted {who badge : Nat} {overdue : Bool} {badges : List Nat} {w : Worker} (howner : e.owner = .prompt who)
    (hbody : e.body = .prompt overdue badges) (hin : badge ∈ badges) (hw : s.worker? badge = some w) (hcrew : w.crew = who)
    (hwaits : ∀ c, ∀ x ∈ (s.chan c).queue, x.owner = .prompt who → x.inFlight = true) :
    ((s.event work).worker? badge).map (·.prompt) = some (some .delivered) := by
  have hset := State.setPrompts_prompted (overdue := overdue) (st := .delivered) ((State.told_worker? (c := c) (e := e) badge).trans hw)
    hcrew hin fun d x hx => hwaits d x (State.mem_told hx)
  have hafter := (prompted_spared who badge .delivered).after_delivery (fun _ h => h.atRest) hwork
    (fun _ _ _ _ h => ⟨h.record, h.waits⟩) (by simp only [State.ownerDelivered, howner, hbody]; exact hset)
  obtain ⟨w', hw', heq⟩ := Option.map_eq_some_iff.1 hafter.record
  exact (congrArg (Option.map _) hw').trans (congrArg some (Prod.mk.inj heq).2)

variable {tg : PermitTg} {serial : Nat} {p : Permit} (howner : e.owner = .permit tg serial) (hlinked : e.linked = true)
include howner hlinked

omit hwork in
theorem State.ownerDelivered_of_permit : (s.told c e).ownerDelivered c e = (s.told c e).permitDelivered tg serial := by
  simp only [State.ownerDelivered, howner, hlinked, if_true]

theorem State.delivered_permit_alike (hk : (s.crew? slot).isSome) :
    Alike (s.event work) (((s.modChan c Channel.decided).modCrew slot (Crew.heard s.clock)).modPermit serial fun p =>
      if tg = .issue then { p with readback := some s.params.readbackWait } else p) := by
  have hparams : (s.told c e).params = s.params := s.told_records.2.2.2.1
  refine State.event_alike (State.delivered_frame (slot := slot) hwork hk (f := fun t => t.modPermit serial fun p =>
    if tg = .issue then { p with readback := some s.params.readbackWait } else p) (fun _ => rfl) ?_)
  rw [State.ownerDelivered_of_permit howner hlinked, State.permitDelivered_frame, hparams]
  refine State.modPermit_frame_congr State.told_frame serial fun p => ?_
  split <;> simp [Permit.frame, Function.comp_def]

theorem State.delivered_permit_told (hp : s.permit? serial = some p) (htg : p.tg? tg ≠ none) (hwaits : s.noneWaits (.permit tg serial))
    (hk : (s.crew? slot).isSome) : ((s.event work).permit? serial).map (·.tg? tg) = some (some .delivered) := by
  have hset := State.permitDelivered_fixed ((State.told_permit? (c := c) (e := e) serial).trans hp) htg (State.told_noneWaits hwaits)
  rw [← State.ownerDelivered_of_permit howner hlinked] at hset
  have hafter := (tgFixed_spared (Permit.ofTg_status tg (st := .delivered) nofun)).after_delivery (fun _ h => h.atRest) hwork
    (fun _ _ _ _ h => ⟨h.record, h.firm⟩) hset
  exact hafter.tg? ((State.permit?_of_alike (State.delivered_permit_alike hwork howner hlinked hk) serial).trans
    (congrArg (Option.map Permit.frame) (State.permit?_modPermit (s := (s.modChan c Channel.decided).modCrew slot (Crew.heard s.clock))
      (f := fun p => if tg = .issue then { p with readback := some s.params.readbackWait } else p) (by intro p; split <;> rfl) hp)))

end

/-! ### A telegram rejected (R145, R147) -/

section
variable {s : State} {c : Chan} {e : Entry} {slot unit n code : Nat} {o : Order} {work : State → State}
  (hwork : work s.atEvent = ((s.told c e).ownerFailed c e .rejected (.rejected code)).modChan c Channel.atRest)
include hwork

theorem State.rejected_reached (slot : Nat) : (s.event work).reached slot = s.reached slot := by
  rw [State.event_reached, hwork]
  refine (State.ownerFailed_reached (s := s.told c e) c e .rejected (.rejected code) slot).trans ?_
  exact congrArg (Option.map _) (State.told_crew? slot)

/-- The frame after a rejection's event, from what the telegram's owner does. -/
theorem State.rejected_alike {f : State → State}
    (hf : ∀ t : State, (f t).modChan c Channel.atRest = f (t.modChan c Channel.atRest))
    (h : ((s.told c e).ownerFailed c e .rejected (.rejected code)).frame
      = (f ((s.atEvent.endReception c).modChan c Channel.unattempted)).frame) :
    Alike (s.event work) (f (s.atEvent.modChan c Channel.decided)) := by
  refine State.event_alike ?_
  rw [hwork]
  refine (State.modChan_frame_congr h c fun _ => rfl).trans (congrArg State.frame ((hf _).trans (congrArg f ?_)))
  exact State.modChan_decided (s := s.atEvent)

/-! Of an order (R32, R35). -/

section
variable (howner : e.owner = .order n) (ho : s.order? n = some o)
include howner ho

theorem State.rejected_undelivered (hst : o.state = .sent) :
    ((s.event work).order? n).map (fun o => (o.state, o.link, o.crew)) = some (.undelivered, none, o.crew) := by
  have hended := State.ownerFailed_undelivered (s := s.atEvent.endReception c) (c := c) (gone := False) howner ho hst nofun .rejected (.rejected code)
  exact ((ended_spared n rfl o.crew False c).after_rejection (fun _ h => h.atRest) hwork hended).record

theorem State.rejected_order_alike (hst : o.state = .sent) (hcrew : o.crew = some slot) :
    Alike (s.event work) (((s.modChan c Channel.decided).modOrder n fun o => { o with state := .undelivered }).modCrew slot fun k =>
      { k with queue := k.queue.erase n }) := by
  exact State.rejected_alike hwork (f := fun t => (t.modOrder n fun o => { o with state := .undelivered }).modCrew slot fun k =>
    { k with queue := k.queue.erase n }) (fun _ => rfl)
    (State.ownerFailed_order_frame (s := s.atEvent.endReception c) howner ho hst hcrew .rejected (.rejected code))

theorem State.rejected_unlinked (hsent : o.state ≠ .sent)
    (hstays : o.state.movable = false ∨ (o.state ≠ .assigned ∧ ∃ k, s.crew? slot = some k ∧ s.settledHead k n)) :
    ((s.event work).order? n).map (fun o => (o.state, o.link)) = some (o.state, none) := by
  have ho' := (State.told_order? (s := s) (c := c) (e := e) n).trans ho
  have hfailed : (s.told c e).ownerFailed c e .rejected (.rejected code) = (s.told c e).unlinkOrder n := by
    rw [State.ownerFailed_of_order howner, State.orderFailed_of_left ho' hsent]
  cases hmovable : o.state.movable with
  | false =>
    have hended := State.unlinkOrder_ended ho' hmovable c
    rw [← hfailed] at hended
    exact ((ended_spared n hmovable o.crew False c).after_rejection (fun _ h => h.atRest) hwork hended).unlinked
  | true =>
    obtain ⟨hassigned, k, hk, hhead⟩ := hstays.resolve_left (by rw [hmovable]; decide)
    have hstands := State.unlinkOrder_stands ho' ((State.told_crew? slot).trans hk) (State.told_settledHead hhead) hassigned hsent
    rw [← hfailed] at hstands
    exact ((headStands_spared (calm_of_none (State.told_settledHead (c := c) (e := e) hhead).2.1) hassigned hsent).after_rejection
      (fun _ h => h.atRest) hwork hstands).unlinked

end

/-! Of a follow-up, a prompt and a text (R44, R113, R173). -/

theorem State.rejected_followed {kind : FollowKind} {old : FollowStatus} (howner : e.owner = .followUp n)
    (hlinked : e.linked = true) (ho : s.order? n = some o) (hf : o.followUp = some (kind, old)) (hwaits : s.noneWaits (.followUp n)) :
    ((s.event work).order? n).map (·.followUp) = some (some (kind, .failed)) := by
  have ho' := (State.told_order? (c := c) (e := e) n).trans ho
  have hset := State.setFollowUp_followed (st := .failed) ho' hf (State.firm_of_noneWaits (State.told_noneWaits hwaits)) nofun
  have hP := followed_spared n kind (st := .failed) nofun
  have hfailed : (s.told c e).ownerFailed c e .rejected (.rejected code)
      = ((s.told c e).setFollowUp n .failed).post (.orderState n o.crew o.state o.state (some .failed)) := by
    simp only [State.ownerFailed, howner, hlinked, if_true, State.followUpFailed, ho']
  exact (hP.after_rejection (fun _ h => h.atRest) hwork (by rw [hfailed]; exact hP.post hset _ rfl)).record

theorem State.rejected_prompted {who badge : Nat} {overdue : Bool} {badges : List Nat} {w : Worker} (howner : e.owner = .prompt who)
    (hbody : e.body = .prompt overdue badges) (hin : badge ∈ badges) (hw : s.worker? badge = some w) (hcrew : w.crew = who)
    (hwaits : ∀ c, ∀ x ∈ (s.chan c).queue, x.owner = .prompt who → x.inFlight = true) :
    ((s.event work).worker? badge).map (·.prompt) = some (some .failed) := by
  have hset := State.setPrompts_prompted (overdue := overdue) (st := .failed) ((State.told_worker? (c := c) (e := e) badge).trans hw)
    hcrew hin fun d x hx => hwaits d x (State.mem_told hx)
  have hafter := (prompted_spared who badge .failed).after_rejection (fun _ h => h.atRest) hwork
    (by simp only [State.ownerFailed, howner, hbody]; exact hset)
  obtain ⟨w', hw', heq⟩ := Option.map_eq_some_iff.1 hafter.record
  exact (congrArg (Option.map _) hw').trans (congrArg some (Prod.mk.inj heq).2)

section
variable (howner : e.owner = .text n) (haddr : e.addr = .crew slot unit)
include howner haddr

theorem State.rejected_text_alike : Alike (s.event work) (s.modChan c Channel.decided) := by
  refine State.rejected_alike hwork (f := id) (fun _ => rfl) ?_
  rw [State.ownerFailed_of_text howner haddr, State.post_frame]
  exact State.told_frame

theorem State.rejected_text_noticed (hroom : s.notices.length < 64) :
    (⟨s.clock, .textResult n (.crew slot) (.rejected code)⟩ : Notice) ∈ (s.event work).notices := by
  refine (noticed_spared _).after_rejection (fun _ h => h) hwork ?_
  obtain ⟨-, -, hclock, -, hnotices⟩ := s.told_records (c := c) (e := e)
  rw [State.ownerFailed_of_text howner haddr, State.post, if_pos (by rw [hnotices]; exact hroom), hclock]
  exact List.mem_append_right _ (List.mem_singleton_self _)

end

/-! Of a permit's telegram (R67, R72, R80, R92). -/

section
variable {tg : PermitTg} {serial : Nat} {p : Permit} (howner : e.owner = .permit tg serial) (hlinked : e.linked = true)
include howner hlinked

theorem State.rejected_permit {q : Permit} (hq : ((s.told c e).permitFailed tg serial).permit? serial = some q) :
    ∃ p', (s.event work).permit? serial = some p' ∧ p'.frame = q.frame := by
  refine Option.map_eq_some_iff.1 ((State.event_permit?_frame _ _).trans ?_)
  rw [hwork]
  refine congrArg (Option.map Permit.frame) (Eq.trans ?_ hq)
  rw [State.ownerFailed_of_permit howner hlinked]
  rfl

theorem State.rejected_spared {may : Owner → Prop} {P : State → Prop} (hP : Spares may P)
    (hrest : ∀ t, P t → P (t.modChan c Channel.atRest)) (h : P ((s.told c e).permitFailed tg serial)) : P (s.event work) :=
  hP.after_rejection hrest hwork (by rw [State.ownerFailed_of_permit howner hlinked]; exact h)

variable (hp : s.permit? serial = some p)
include hp

theorem State.rejected_instruct {i : Outstanding} {phase : Phase} (htg : tg = .instruct) (hout : p.outstanding = some i)
    (hwait : p.cancelWait = false) (hphase : p.state = phase.state) :
    ((s.event work).permit? serial).map (fun p => (p.state, p.stall, p.outstanding, p.lastReleased))
      = some (.stalled, some (phase, .undelivered), none, some i.index) := by
  subst htg
  obtain ⟨q, hq, hrecord⟩ := State.permitFailed_instruct ((State.told_permit? (c := c) (e := e) serial).trans hp) hout hwait
  obtain ⟨p', hp', hframe⟩ := State.rejected_permit hwork howner hlinked hq
  refine (congrArg (Option.map _) hp').trans (congrArg some ((Permit.failure_of_frame hframe hrecord).trans ?_))
  rw [hphase, Phase.phase_state]

theorem State.rejected_cancelled {i : Outstanding} (htg : tg = .instruct) (hout : p.outstanding = some i) (hwait : p.cancelWait = true)
    (hst : p.state = .restoring) : ((s.event work).permit? serial).map (fun p => (p.state, p.cancelWait, p.lastReleased))
      = some (if p.stack = [] then .closed else .restoring, false, some i.index) := by
  subst htg
  obtain ⟨s0, p0, q, hq, hrestoring, hst0, hwait0, hstack0, hlast0⟩ :=
    State.permitFailed_cancelled ((State.told_permit? (c := c) (e := e) serial).trans hp) hout hwait hst
  obtain ⟨p', hp', hframe⟩ := State.rejected_permit hwork howner hlinked hq
  refine (congrArg (Option.map _) hp').trans (congrArg some ?_)
  obtain ⟨-, hkept, hlast, -⟩ := hrestoring.kept
  have hstate := hrestoring.state hst0
  rw [hstack0] at hstate
  exact Prod.ext ((congrArg Permit.state hframe :).trans hstate) (Prod.ext ((congrArg Permit.cancelWait hframe :).trans (hkept.trans hwait0))
    ((congrArg Permit.lastReleased hframe :).trans (hlast.trans hlast0)))

theorem State.rejected_issue (htg : tg = .issue) (hwaits : s.noneWaits (.permit .issue serial)) :
    ((s.event work).permit? serial).map (fun p => (p.state, p.stall, p.issue)) = some (.stalled, some (.issuing, .undelivered), none) := by
  subst htg
  obtain ⟨⟨q, hq, hrecord⟩, huntold⟩ := State.permitFailed_issue ((State.told_permit? (c := c) (e := e) serial).trans hp)
  obtain ⟨p', hp', hframe⟩ := State.rejected_permit hwork howner hlinked hq
  have hafter := State.rejected_spared hwork howner hlinked (untold_spared .issue serial) (fun _ h => h.modChan fun _ => rfl)
    (huntold (State.told_noneWaits hwaits))
  refine (congrArg (Option.map _) hp').trans (congrArg some ?_)
  simp only [Prod.mk.injEq] at hrecord ⊢
  exact ⟨(congrArg Permit.state hframe :).trans hrecord.1, (congrArg Permit.stall hframe :).trans hrecord.2, hafter.record p' hp'⟩

theorem State.rejected_reply (htg : tg = .answer ∨ tg = .closing) : Alike (s.event work) (s.modChan c Channel.decided)
    ∧ (p.tg? tg ≠ none → s.noneWaits (.permit tg serial) →
      ((s.event work).permit? serial).map (·.tg? tg) = some (some .failed)) := by
  obtain ⟨hframe, hfixed⟩ := State.permitFailed_reply ((State.told_permit? (c := c) (e := e) serial).trans hp) htg
  have halike : Alike (s.event work) (s.modChan c Channel.decided) := by
    refine State.rejected_alike hwork (f := id) (fun _ => rfl) ?_
    rw [State.ownerFailed_of_permit howner hlinked]
    exact hframe.trans State.told_frame
  refine ⟨halike, fun hsome hwaits => ?_⟩
  have hafter := State.rejected_spared hwork howner hlinked (tgFixed_spared (Permit.ofTg_status tg (st := .failed) nofun))
    (fun _ h => h.atRest) (hfixed hsome (State.told_noneWaits hwaits))
  exact hafter.tg? ((State.permit?_of_alike halike serial).trans
    (congrArg (Option.map Permit.frame) (show (s.modChan c Channel.decided).permit? serial = some p from hp)))

end
end

end Sys2Proof.Machine
end

section
/-!
A frame received in AWAIT_REPLY (R145 to R147): O60.
-/

namespace Sys2Proof.Machine
/-! ### The telegram to be sent again after a received frame (R147, R148) -/

section
variable {s : State} {c : Chan} {e : Entry} {front back : List Entry} {slot unit : Nat} {work : State → State} {cause : FailCause}
  {f : Channel → Channel} (hwork : work s.atEvent = ((s.atEvent.endReception c).endAttempt c (.failed cause)).modChan c f)
  (hq : (s.chan c).queue = front ++ e :: back) (hfront : ∀ x ∈ front, x.inFlight = false) (hfly : e.inFlight = true)
  (hagain : e.orphan = false ∧ s.links e = true ∧ e.kind ≠ .alarmCall ∧ e.attempts < s.params.attemptLimit)
include hwork hq hfront hfly hagain

theorem State.again_alike (hf : ∀ ch : Channel, (f ch).frame = (f ch.frame).frame) :
    Alike (s.event work) (s.modChan c fun ch => f ch.received.unattempted) := by
  obtain ⟨horphan, hlinks, hcall, hlimit⟩ := hagain
  have hframe := State.endAttempt_again_frame (s := s.atEvent.endReception c) (State.endReception_flying.trans
    (State.flying_of_queue (s := s.atEvent) hq hfront hfly)) horphan hlinks hcall hlimit cause
  refine State.event_alike ?_
  rw [hwork]
  refine (State.modChan_frame_congr hframe c hf).trans ?_
  rw [State.endReception, State.modChan_modChan, State.modChan_modChan]
  rfl

theorem State.again_stays (hf : ∀ ch : Channel, (f ch).queue = ch.queue) (haddr : e.addr = .crew slot unit) {k : Crew}
    (hk : s.crew? slot = some k) (hcurrent : k.current = c)
    (horder : ∀ n o, e.owner = .order n → s.order? n = some o → o.crew = some slot ∧ k.queue = [n]) :
    ((s.event work).chan c).queue = front ++ e.again s.params.retryHoldOff :: back := by
  obtain ⟨horphan, hlinks, hcall, hlimit⟩ := hagain
  obtain ⟨hqueue, hsignals⟩ := State.endAttempt_stays (s := s.atEvent.endReception c) rfl (State.endReception_queue.trans hq) hfront hfly
    horphan hlinks hcall hlimit cause haddr hk hcurrent horder
  rw [State.event_eq, State.settle_queue, State.giveSignals_none (by rw [hwork]; exact hsignals), hwork, State.modChan_chan_same, hf]
  exact hqueue

end

/-! ### A frame that is no answer to the telegram (R147) -/

section
variable {s : State} {c : Chan} {e : Entry} {f : Frame}

/-- The state in which a frame that is no answer is received. -/
def State.collided (s : State) (c : Chan) : State := (s.endReception c).endAttempt c (.failed .collision)

variable (hfly : s.flying c = some e)
include hfly

theorem State.collided_air : ((s.collided c).chan c).air = ((s.chan c).received.unattempted).air := by
  have hair := State.air_of_airs (State.endAttempt_airs (r := .failed .collision) (State.endReception_flying.trans hfly)) c
  rw [State.modChan_chan_same, State.endReception, State.modChan_chan_same] at hair
  exact hair

theorem State.collided_assembling : ((s.collided c).chan c).assembling f = (s.chan c).assembling f :=
  Channel.assembling_congr (congrArg Channel.assembly (State.collided_air hfly) :) f

omit hfly in
theorem State.collided_shape : (s.collided c).shape = s.shape := by
  rw [State.collided, State.endAttempt_shape, State.endReception_shape]

omit hfly in
theorem State.collided_crewOfUnit? (unit : Nat) : ((s.collided c).crewOfUnit? unit).map (fun k => (k.slot, k.unit, k.inSeq))
    = (s.crewOfUnit? unit).map fun k => (k.slot, k.unit, k.inSeq) :=
  State.crewOfUnit?_of_roll (State.endAttempt_roll (s := s.endReception c) c .collision) unit

end

/-- A whole telegram taken instead of an answer is judged as one from IDLE is (R147, R181). -/
theorem State.collided_whole {s : State} {c : Chan} {e : Entry} {f : Frame} {work : State → State} (hfly : s.flying c = some e)
    (hwork : work s.atEvent = (s.atEvent.collided c).receive c f .idle) (hbase : f.header.toBase = true) (hkind : f.header.kind ≠ 1)
    (hwhole : ((s.chan c).assembling f).complete = true) :
    ((s.event work).chan c).state = .answering ∧ ((s.event work).chan c).afterAnswer = some .finish
      ∧ ((s.event work).chan c).attempt = none ∧ ((s.event work).chan c).assembly = none
      ∧ ∃ code,
        ((s.event work).chan c).txFrame = answerFrame f.header.src f.header.seq code (fullMap (blockCount f.header.len))
        ∧ (s.crewOfUnit? f.header.src = none → f.header.kind ≠ 0x25 → code = 4)
        ∧ (s.crewOfUnit? f.header.src = none → f.header.kind = 0x25 → code = 1)
        ∧ ∀ k, s.crewOfUnit? f.header.src = some k → (k.inSeq = some f.header.seq → code = 1)
          ∧ (k.inSeq ≠ some f.header.seq → (code = 1 ∨ code = 2 ∨ code = 3)
            ∧ ((s.event work).crew? k.slot).map (fun k => (k.failures, k.reach, k.lastHeard)) = some (0, .reachable, some s.clock)) := by
  have hfly' : s.atEvent.flying c = some e := hfly
  have hwhole' : (((s.atEvent.collided c).chan c).assembling f).complete = true := by
    rw [State.collided_assembling hfly']
    exact hwhole
  rw [State.receive_of_whole hbase hkind .idle hwhole'] at hwork
  obtain ⟨hstranger, hcrew⟩ := State.judged_code (s := s.atEvent.collided c) (c := c) (f := f)
  have hroll := State.collided_crewOfUnit? (s := s.atEvent) (c := c) f.header.src
  have hnone (h : s.crewOfUnit? f.header.src = none) : (s.atEvent.collided c).crewOfUnit? f.header.src = none := by
    refine Option.map_eq_none_iff.1 (hroll.trans ?_)
    exact congrArg (Option.map _) h
  have hair := s.event_air work c
  rw [hwork, State.modChan_chan_same] at hair
  have hattempt : (((s.atEvent.collided c).judged c f).1.chan c).attempt = none :=
    (State.judged_attempt (s := s.atEvent.collided c) c).trans (congrArg Channel.attempt (State.collided_air hfly') :)
  refine ⟨(congrArg Channel.state hair :), (congrArg Channel.afterAnswer hair :), (congrArg Channel.attempt hair :).trans hattempt,
    (congrArg Channel.assembly hair :), ((s.atEvent.collided c).judged c f).2, (congrArg Channel.txFrame hair :),
    fun h hno => ?_, fun h hemergency => ?_, fun k hk => ?_⟩
  · rw [hstranger (hnone h), if_neg (show f.header.kind ≠ kindEmergency from hno)]
    rfl
  · rw [hstranger (hnone h), if_pos (show f.header.kind = kindEmergency from hemergency)]
    rfl
  · obtain ⟨k', hk', heq⟩ := Option.map_eq_some_iff.1 (hroll.trans (congrArg (Option.map _) (show s.atEvent.crewOfUnit? f.header.src = some k from hk)))
    simp only [Prod.mk.injEq] at heq
    obtain ⟨hslot, -, hseq⟩ := heq
    obtain ⟨hold, hnew⟩ := hcrew k' hk'
    rw [hseq] at hold hnew
    refine ⟨hold, fun hne => ?_⟩
    obtain ⟨hcode, hreached⟩ := hnew hne
    have hclock : (s.atEvent.collided c).clock = s.clock := (congrArg Shape.clock State.collided_shape :)
    rw [hslot, hclock] at hreached
    refine ⟨hcode, (State.event_reached (s := s) work k.slot).trans ?_⟩
    rw [hwork]
    exact hreached

/-- An attempt that a received frame has decided (R145). -/
theorem State.decided_event {s : State} {c : Chan} {e : Entry} {r : Result} {work : State → State} (hfly : s.flying c = some e)
    (hwork : work s.atEvent = s.atEvent.conclude c r) :
    Quiet s (s.event work) ∧ ((s.event work).chan c).air = ((s.chan c).decided).air := by
  refine ⟨s.event_quiet_of_shape work (by rw [hwork, State.conclude_shape]), (s.event_air work c).trans ?_⟩
  rw [hwork]
  exact State.conclude_air (s := s.atEvent) hfly r

/-- A delivered telegram's event (R151). -/
theorem State.delivered_work {s : State} {c : Chan} {e : Entry} {slot unit : Nat} {work : State → State} (hfly : s.flying c = some e)
    (horphan : e.orphan = false) (haddr : e.addr = .crew slot unit) (hwork : work s.atEvent = s.atEvent.conclude c .delivered) :
    work s.atEvent = (((s.told c e).ownerDelivered c e).rosterHeard slot).modChan c Channel.atRest := by
  have hfly' : (s.atEvent.endReception c).flying c = some e := State.endReception_flying.trans hfly
  rw [hwork, State.conclude, State.endAttempt_of_delivered hfly' horphan haddr]
  rfl

/-- A rejected telegram's event (R147). -/
theorem State.rejected_work {s : State} {c : Chan} {e : Entry} {code : Nat} {work : State → State} (hfly : s.flying c = some e)
    (horphan : e.orphan = false) (hwork : work s.atEvent = s.atEvent.conclude c (.rejected code)) :
    work s.atEvent = ((s.told c e).ownerFailed c e .rejected (.rejected code)).modChan c Channel.atRest := by
  have hfly' : (s.atEvent.endReception c).flying c = some e := State.endReception_flying.trans hfly
  rw [hwork, State.conclude, State.endAttempt_of_rejected hfly' horphan]
  rfl

/-- Settles O60. -/
theorem replyFrameDecides : Obligations.ReplyFrameDecides := by
  intro c bytes s ready decided
  refine ⟨fun hno => runs_event_effect rfl (State.replyReceived_of_not (s := s.atEvent) hno) rfl rfl rfl rfl, ?_⟩
  intro front e back a slot unit hready hq hfront hflight haddr hattempt again stays heard settled unlinked followed prompted
  have hfly : s.flying c = some e := State.flying_of_queue hq hfront hflight
  have hfly' : s.atEvent.flying c = some e := hfly
  have hretry {cause : FailCause} {work : State → State} {f : Channel → Channel}
      (hwork : work s.atEvent = ((s.atEvent.endReception c).endAttempt c (.failed cause)).modChan c f)
      (hf : ∀ ch : Channel, (f ch).frame = (f ch.frame).frame) (hqueue : ∀ ch : Channel, (f ch).queue = ch.queue) (hagain : again) :
      Alike (s.event work) (s.modChan c fun ch => f ch.received.unattempted) ∧ stays (s.event work) :=
    ⟨State.again_alike hwork hq hfront hflight hagain hf, fun _ hk hcurrent horder =>
      State.again_stays hwork hq hfront hflight hagain hqueue haddr hk hcurrent horder⟩
  have hdecided {cause : FailCause} {work : State → State} (hwork : work s.atEvent = s.atEvent.conclude c (.failed cause)) (hagain : again) :
      Alike (s.event work) (s.modChan c decided) ∧ stays (s.event work) :=
    hretry (f := Channel.atRest) hwork (fun _ => rfl) (fun _ => rfl) hagain
  have hend {r : Result} {work : State → State} (hwork : work s.atEvent = s.atEvent.conclude c r) :
      Quiet s (s.event work) ∧ ((s.event work).chan c).air = (decided (s.chan c)).air := State.decided_event hfly hwork
  refine ⟨fun hframe => ?_, ?_, ?_⟩
  · have hwork : s.atEvent.replyReceived c bytes = s.atEvent.conclude c (.failed .collision) := by
      rcases hframe with hframe | ⟨f, hframe, hno, hother⟩
      · exact State.replyReceived_of_malformed (s := s.atEvent) hready hfly' hattempt hframe
      · rw [State.replyReceived_of_other (s := s.atEvent) hready hfly' hattempt hframe haddr hno, State.receive_of_not_telegram hother]
        rfl
    obtain ⟨hquiet, hair⟩ := hend (work := fun t => t.replyReceived c bytes) hwork
    exact ⟨_, rfl, hquiet, hair, hdecided (work := fun t => t.replyReceived c bytes) hwork⟩
  · intro f hframe hno hbase hkind held whole awaiting
    refine ⟨fun hpart => ?_, fun hwhole => ?_⟩
    · have hother := State.replyReceived_of_other (s := s.atEvent) hready hfly' hattempt hframe haddr hno
      have hassembling : ((s.atEvent.collided c).chan c).assembling f = whole := State.collided_assembling hfly'
      have hreceive := State.receive_of_part (s := s.atEvent.collided c) (c := c) hbase hkind .idle (by rw [hassembling]; exact hpart)
      rw [hassembling] at hreceive
      have hwork := hother.trans hreceive
      have hsame : (s.modChan c fun ch => Channel.answering f .await 1 whole.map (some whole) ch.received.unattempted) = s.modChan c awaiting :=
        State.modChan_congr rfl
      refine ⟨_, rfl, s.event_quiet_of_shape _ ?_, (s.event_air _ c).trans ?_, fun hagain => ?_⟩
      · rw [hother, State.receive_shape]
        exact State.collided_shape
      · rw [hwork, State.modChan_chan_same]
        exact (congrArg (Channel.answering f .await 1 whole.map (some whole)) (State.collided_air hfly') :)
      · obtain ⟨halike, hstays⟩ := hretry (work := fun t => t.replyReceived c bytes)
          (f := Channel.answering f .await 1 whole.map (some whole)) hwork (fun _ => rfl) (fun _ => rfl) hagain
        rw [hsame] at halike
        exact ⟨halike, hstays⟩
    · have hother := State.replyReceived_of_other (s := s.atEvent) hready hfly' hattempt hframe haddr hno
      refine ⟨_, rfl, s.event_quiet_of_shape _ ?_, State.collided_whole hfly hother hbase hkind hwhole⟩
      rw [hother, State.receive_shape]
      exact State.collided_shape
  · intro f code m hframe hanswer missing fits
    have hanswered := State.replyReceived_of_answer (s := s.atEvent) hready hfly' hattempt hframe haddr hanswer
    refine ⟨fun hover => ?_, fun hcode hall horphan hk => ?_, fun hack hbusy horphan => ?_, fun hcode hmissing hfits => ?_⟩
    · have hwork : ∃ r, s.atEvent.replyReceived c bytes = s.atEvent.conclude c r
          ∧ (code = 2 ∨ (code = 1 ∧ missing ≠ [] ∧ ¬ fits) → ∃ cause, r = .failed cause) := by
        rw [hanswered]
        by_cases hcode : code = 1
        · subst hcode
          by_cases hall : missing = []
          · exact ⟨_, State.answered_of_all hall, fun h => absurd hall (h.resolve_left (by decide)).2.1⟩
          · exact ⟨_, State.answered_of_spent hall (hover.resolve_left (by decide) |>.resolve_left hall), fun _ => ⟨_, rfl⟩⟩
        · by_cases hbusy : code = 2
          · subst hbusy
            exact ⟨_, State.answered_of_busy, fun _ => ⟨_, rfl⟩⟩
          · exact ⟨_, State.answered_of_rejection hcode hbusy, fun h => absurd h (by simp [hcode, hbusy])⟩
      obtain ⟨r, hwork, hfailed⟩ := hwork
      obtain ⟨hquiet, hair⟩ := hend (work := fun t => t.replyReceived c bytes) hwork
      refine ⟨_, rfl, hquiet, hair, fun hwhich hagain => ?_⟩
      obtain ⟨cause, rfl⟩ := hfailed hwhich
      exact hdecided (work := fun t => t.replyReceived c bytes) hwork hagain
    · subst hcode
      have hwork := State.delivered_work (work := fun t => t.replyReceived c bytes) hfly horphan haddr
        (hanswered.trans (State.answered_of_all hall))
      refine ⟨_, rfl, State.delivered_reached hwork hk, fun n o howner ho hst => State.delivered_at hwork hk howner ho hst, fun hinv => ?_⟩
      obtain ⟨-, -, ⟨hrising, -⟩, -⟩ := hinv.tables
      refine ⟨?_, ?_, ?_, ?_, ?_, ?_⟩
      · exact fun n o howner ho hst => ⟨State.delivered_alike hwork hk howner ho hst hrising, fun ⟨k, hk, hhead⟩ =>
          State.delivered_settled hwork howner ho hst hk hhead⟩
      · exact fun n o howner ho hsent hstays => State.delivered_unlinked hwork howner ho hsent hstays
      · exact fun n o howner ho hst => State.delivered_cancelled hwork hk howner ho hst
      · exact fun n o kind old howner hlinked ho hf hwaits => State.delivered_followed hwork howner hlinked ho hf hwaits
      · exact fun who overdue badges badge w howner hbody hin hw hcrew hwaits =>
          State.delivered_prompted hwork howner hbody hin hw hcrew hwaits
      · exact fun tg serial p howner hlinked hp => ⟨State.delivered_permit_alike hwork howner hlinked hk, fun hsome hwaits =>
          State.delivered_permit_told hwork howner hlinked hp hsome hwaits hk⟩
    · have hwork := State.rejected_work (work := fun t => t.replyReceived c bytes) hfly horphan
        (hanswered.trans (State.answered_of_rejection hack hbusy))
      refine ⟨_, rfl, State.rejected_reached hwork slot, fun _ => ⟨?_, ?_, ?_, ?_, ?_, ?_⟩⟩
      · exact fun n o howner ho hst => ⟨State.rejected_undelivered hwork howner ho hst, State.rejected_order_alike hwork howner ho hst⟩
      · exact fun n o howner ho hsent hstays => State.rejected_unlinked hwork howner ho hsent hstays
      · exact fun n o kind old howner hlinked ho hf hwaits => State.rejected_followed hwork howner hlinked ho hf hwaits
      · exact fun who overdue badges badge w howner hbody hin hw hcrew hwaits =>
          State.rejected_prompted hwork howner hbody hin hw hcrew hwaits
      · exact fun n howner => ⟨State.rejected_text_alike hwork howner haddr, State.rejected_text_noticed hwork howner haddr⟩
      · exact fun tg serial p howner hlinked hp => ⟨fun i phase htg hout hwait hphase =>
            State.rejected_instruct hwork howner hlinked hp htg hout hwait hphase,
          fun i htg hout hwait hst => State.rejected_cancelled hwork howner hlinked hp htg hout hwait hst,
          fun htg hwaits => State.rejected_issue hwork howner hlinked hp htg hwaits,
          fun htg => State.rejected_reply hwork howner hlinked hp htg⟩
    · subst hcode
      exact runs_event_effect rfl (hanswered.trans ((State.answered_of_repeat (s := s.atEvent) hmissing hfits).trans
        (State.sendRepeat_eq (s := s.atEvent) (a := a) hq hfront hflight missing))) rfl rfl rfl rfl

end Sys2Proof.Machine
end

section
/-!
A telegram received: its acceptance (R185) and its routing (R187); CHECK_IN, REST, RESUME and EMERGENCY (R108 to R114).
-/

namespace Sys2Proof.Machine
/-! ### A frame received in RECEIVING (R153, R179) -/

section
variable {s : State} {c : Chan} {bytes : List Byte} {f : Frame}

theorem State.frameReceived_of_not (h : ¬ ((s.chan c).state = .receiving ∧ receptionOver (s.chan c).carrier bytes = true)) :
    s.frameReceived c bytes = s := if_neg h

section
variable (hover : (s.chan c).state = .receiving ∧ receptionOver (s.chan c).carrier bytes = true)
include hover

theorem State.frameReceived_of_frame (hframe : readFrame bytes = some f) :
    s.frameReceived c bytes = (s.endReception c).receive c f ((s.chan c).origin.getD .idle) := by
  simp only [State.frameReceived, if_pos hover, hframe]

variable (hignored : readFrame bytes = none ∨ ∃ f, readFrame bytes = some f ∧ (f.header.toBase = false ∨ f.header.kind = 1))
include hignored

/-- What is no telegram to the base station leaves the channel where it waited (R179, R190). -/
theorem State.frameReceived_of_ignored : s.frameReceived c bytes =
    if (s.chan c).origin = some .awaitRepeat then (s.endReception c).enterAwaitRepeat c else (s.endReception c).enterIdle c := by
  rcases hignored with hframe | ⟨f, hframe, hother⟩
  · simp only [State.frameReceived, if_pos hover, hframe]
    rcases (s.chan c).origin with _ | (_ | _) <;> rfl
  · have htelegram : (!f.header.toBase || f.header.kind == kindAnswer) = true := by
      rcases hother with h | h <;> simp [h, kindAnswer]
    rw [State.frameReceived_of_frame hover hframe]
    simp only [State.receive, State.takeFrame, htelegram, if_true]
    rcases (s.chan c).origin with _ | (_ | _) <;> rfl

theorem State.frameReceived_idle (horigin : (s.chan c).origin ≠ some .awaitRepeat) : s.frameReceived c bytes = s.modChan c fun ch =>
    { ch with
      carrierSpent := ch.carrier, state := .idle, txFrame := [], origin := none, afterAnswer := none
      replyWindow := none, repeatWait := none } := by
  rw [State.frameReceived_of_ignored hover hignored, if_neg horigin, State.endReception, State.enterIdle, State.modChan_modChan]

theorem State.frameReceived_awaitRepeat (horigin : (s.chan c).origin = some .awaitRepeat) : s.frameReceived c bytes = s.modChan c fun ch =>
    { ch with
      carrierSpent := ch.carrier, state := .awaitRepeat, txFrame := [], origin := none, afterAnswer := none
      repeatWait := some s.params.repeatWait } := by
  rw [State.frameReceived_of_ignored hover hignored, if_pos horigin, State.endReception, State.enterAwaitRepeat, State.modChan_modChan]
  refine State.modChan_congr ?_
  dsimp only
  rw [Bool.and_not_self]
  rfl

end

theorem State.endReception_assembling : ((s.endReception c).chan c).assembling f = (s.chan c).assembling f :=
  Channel.assembling_congr (by rw [State.endReception, State.modChan_chan_same]) f

/-- A channel with the assembly that a frame completes. -/
def Channel.taking (f : Frame) (ch : Channel) : Channel := { ch with carrierSpent := ch.carrier, origin := none, assembly := some (ch.assembling f) }

/-- The state in which a received telegram is judged. -/
theorem State.endReception_judged : (s.endReception c).judged c f = (s.modChan c (Channel.taking f)).judge c ((s.chan c).assembling f) := by
  rw [State.judged, State.endReception_assembling]
  refine congrArg (fun t : State => t.judge c ((s.chan c).assembling f)) ?_
  rw [State.endReception, State.modChan_modChan]
  rfl

/-- A channel that has received and answers a telegram (R153, R181). -/
def Channel.replying (f : Frame) (after : AfterAnswer) (code map : Nat) (kept : Option Assembly) (ch : Channel) : Channel :=
  { ch with
    carrierSpent := ch.carrier, state := .answering, origin := none, afterAnswer := some after, assembly := kept
    txFrame := answerFrame f.header.src f.header.seq code map }

section
variable (hover : (s.chan c).state = .receiving ∧ receptionOver (s.chan c).carrier bytes = true) (hframe : readFrame bytes = some f)
  (hbase : f.header.toBase = true) (hkind : f.header.kind ≠ 1)
include hover hframe hbase hkind

theorem State.frameReceived_part (hpart : ((s.chan c).assembling f).complete = false) : s.frameReceived c bytes =
    s.modChan c (Channel.replying f .await 1 ((s.chan c).assembling f).map (some ((s.chan c).assembling f))) := by
  rw [State.frameReceived_of_frame hover hframe, State.receive_of_part hbase hkind _ (by rw [State.endReception_assembling]; exact hpart),
    State.endReception_assembling, State.endReception, State.modChan_modChan]
  rfl

theorem State.frameReceived_whole (hwhole : ((s.chan c).assembling f).complete = true) : s.frameReceived c bytes =
    ((s.modChan c (Channel.taking f)).judge c ((s.chan c).assembling f)).1.modChan c (Channel.answering f .finish
      ((s.modChan c (Channel.taking f)).judge c ((s.chan c).assembling f)).2 (fullMap (blockCount f.header.len)) none) := by
  rw [State.frameReceived_of_frame hover hframe, State.receive_of_whole hbase hkind _ (by rw [State.endReception_assembling]; exact hwhole),
    State.endReception_judged]

end

theorem State.taking_answering {after : AfterAnswer} {code map : Nat} {kept : Option Assembly} :
    (s.modChan c (Channel.taking f)).modChan c (Channel.answering f after code map kept)
      = s.modChan c (Channel.replying f after code map kept) := State.modChan_modChan _ _ _ _

end

/-! ### A telegram accepted (R185) -/

/-- A crew whose telegram has been accepted (R14, R185). -/
def Crew.accepted (clock : Word32) (seq : Seq) (busy : Bool) (k : Crew) : Crew :=
  { k with failures := 0, reach := .reachable, lastHeard := some clock, inSeq := if busy then k.inSeq else some seq }

/-- A TEXT that meets a full mailbox. -/
def State.busy (s : State) (c : Chan) (a : Assembly) : Bool :=
  a.kind == kindText && fitsKind a.kind a.body.length && (s.chan c).mailboxFull

section
variable {s : State} {c : Chan} {k : Crew} {a : Assembly} (hk : s.crew? k.slot = some k)
include hk

theorem State.rosterHeard_mailbox : ((s.rosterHeard k.slot).chan c).mailbox = (s.chan c).mailbox :=
  (congrArg Channel.mailbox (State.air_of_airs (State.airs_of_frame (State.rosterHeard_frame hk)) c) :)

theorem State.acceptFrom_cases : s.acceptFrom c k a
    = if s.busy c a then s.rosterHeard k.slot else (s.rosterHeard k.slot).modCrew k.slot fun k => { k with inSeq := some a.seq } := by
  have hfull : ((s.rosterHeard k.slot).chan c).mailboxFull = (s.chan c).mailboxFull := by
    rw [Channel.mailboxFull, State.rosterHeard_mailbox hk]
    rfl
  rw [State.acceptFrom]
  refine if_congr ?_ rfl rfl
  simp only [State.busy, hfull, Bool.and_eq_true, beq_iff_eq, and_assoc]

theorem State.acceptFrom_frame : (s.acceptFrom c k a).frame = (s.modCrew k.slot (Crew.accepted s.clock a.seq (s.busy c a))).frame := by
  have hheard := State.rosterHeard_frame hk
  rw [State.acceptFrom_cases hk]
  cases s.busy c a with
  | true => exact hheard.trans rfl
  | false =>
    refine (State.modCrew_frame_congr hheard k.slot fun _ => by simp only [Crew.frame, sort_sort]).trans ?_
    rw [State.modCrew_modCrew _ _ _ (by intro; rfl)]
    rfl

omit hk in
theorem State.post_modCrew (n : Subject) (slot : Nat) (f : Crew → Crew) : (s.post n).modCrew slot f = (s.modCrew slot f).post n := by
  have hnotices : (s.modCrew slot f).notices = s.notices := rfl
  simp only [State.post, hnotices]
  split
  · rfl
  · split
    · cases dropOldestOrdinary s.notices <;> rfl
    · rfl

/-- A state with at most one notice more. -/
def State.Noted (s t : State) : Prop := t = s ∨ ∃ n : Subject, n.isAlarm = false ∧ t = s.post n

/-- Where the crew is not LOST, or is owed nothing and has no deferred head, hearing it changes its record alone (R14, R15). -/
theorem State.rosterHeard_noted (hno : k.reach ≠ .lost ∨ (s.owedOf k.slot = [] ∧ s.headDeferred k = false)) :
    (s.modCrew k.slot (Crew.heard s.clock)).Noted (s.rosterHeard k.slot) := by
  have hheard : (s.modCrew k.slot fun k => { k with failures := 0, reach := .reachable, lastHeard := some s.clock })
      = s.modCrew k.slot (Crew.heard s.clock) := rfl
  simp only [State.rosterHeard, State.setStanding, hk, if_true, hheard]
  split
  · exact .inl rfl
  · split
    next hlost =>
      obtain ⟨howed, hhead⟩ := hno.resolve_left (by simp [hlost.1])
      refine .inr ⟨.crewReachability k.slot k.unit k.reach .reachable 0, rfl, ?_⟩
      generalize hn : Subject.crewReachability k.slot k.unit k.reach .reachable 0 = n
      have hcrew : ((s.modCrew k.slot (Crew.heard s.clock)).post n).crew? k.slot = some (Crew.heard s.clock k) := by
        rw [State.crew?, State.post_crews]
        exact State.crew?_modCrew (by intro; rfl) hk
      have howed' : ((s.modCrew k.slot (Crew.heard s.clock)).post n).owedOf k.slot = [] := by
        simp only [State.owedOf, State.order?, State.post_owed, State.post_orders]
        exact howed
      have hhead' : ((s.modCrew k.slot (Crew.heard s.clock)).post n).headDeferred (Crew.heard s.clock k) = false := by
        have horders : ((s.modCrew k.slot (Crew.heard s.clock)).post n).order? = s.order? :=
          funext fun m => congrArg (tFind Order.number m) (State.post_orders _ _)
        simp only [State.headDeferred, State.headOf, horders]
        exact hhead
      simp only [State.offerOwedAndHead, howed', List.foldl_nil, hcrew, hhead']
      rfl
    · exact .inr ⟨_, rfl, rfl⟩

theorem State.acceptFrom_noted (hno : k.reach ≠ .lost ∨ (s.owedOf k.slot = [] ∧ s.headDeferred k = false)) :
    (s.modCrew k.slot (Crew.accepted s.clock a.seq (s.busy c a))).Noted (s.acceptFrom c k a) := by
  have hnoted := State.rosterHeard_noted hk hno
  rw [State.acceptFrom_cases hk]
  cases s.busy c a with
  | true => exact hnoted
  | false =>
    have hsame : (s.modCrew k.slot (Crew.heard s.clock)).modCrew k.slot (fun k => { k with inSeq := some a.seq })
        = s.modCrew k.slot (Crew.accepted s.clock a.seq false) := State.modCrew_modCrew _ _ _ (by intro; rfl)
    rw [← hsame]
    rcases hnoted with h | ⟨n, hn, h⟩
    · rw [h]
      exact .inl rfl
    · rw [h]
      exact .inr ⟨n, hn, State.post_modCrew _ _ _⟩

end

/-! ### A new telegram of a crew (R185, R187) -/

/-- A new whole telegram of a crew has been received. -/
structure State.Arrives (s : State) (c : Chan) (bytes : List Byte) (f : Frame) (k : Crew) : Prop where
  ended  : (s.chan c).state = .receiving ∧ receptionOver (s.chan c).carrier bytes = true
  frame  : readFrame bytes = some f
  base   : f.header.toBase = true
  kind   : f.header.kind ≠ 1
  whole  : ((s.chan c).assembling f).complete = true
  crew   : s.crewOfUnit? f.header.src = some k
  stands : s.crew? k.slot = some k
  fresh  : k.inSeq ≠ some f.header.seq

/-- The state in which a new telegram of a crew is routed. -/
def State.accepting (s : State) (c : Chan) (f : Frame) (k : Crew) : State :=
  (s.modChan c (Channel.taking f)).acceptFrom c k ((s.chan c).assembling f)

/-- The state in which a new telegram of a crew is routed, without the traffic that its arrival brings. -/
def State.accepted (s : State) (c : Chan) (f : Frame) (k : Crew) : State :=
  (s.modChan c (Channel.taking f)).modCrew k.slot (Crew.accepted s.clock f.header.seq (s.busy c ((s.chan c).assembling f)))

/-- The state that answers a new telegram of a crew with a code, without what its kind brings. -/
def State.replied (s : State) (c : Chan) (f : Frame) (k : Crew) (code : Nat) : State :=
  (s.modChan c (Channel.replying f .finish code (fullMap (blockCount f.header.len)) none)).modCrew k.slot
    (Crew.accepted s.clock f.header.seq (s.busy c ((s.chan c).assembling f)))

section
variable {s : State} {c : Chan} {bytes : List Byte} {f : Frame} {k : Crew}

theorem State.busy_taking (a : Assembly) : (s.modChan c (Channel.taking f)).busy c a = s.busy c a := by
  rw [State.busy, State.busy, State.modChan_chan_same]
  rfl

theorem State.accepting_frame (hk : s.crew? k.slot = some k) : (s.accepting c f k).frame = (s.accepted c f k).frame := by
  obtain ⟨-, hseq, -, -⟩ := (s.chan c).assembling_header f
  rw [State.accepting, State.acceptFrom_frame (s := s.modChan c (Channel.taking f)) hk, State.busy_taking, hseq]
  rfl

theorem State.accepting_noted (hk : s.crew? k.slot = some k) (hno : k.reach ≠ .lost ∨ (s.owedOf k.slot = [] ∧ s.headDeferred k = false)) :
    (s.accepted c f k).Noted (s.accepting c f k) := by
  obtain ⟨-, hseq, -, -⟩ := (s.chan c).assembling_header f
  have hnoted := State.acceptFrom_noted (s := s.modChan c (Channel.taking f)) (c := c) (a := (s.chan c).assembling f) hk hno
  rw [State.busy_taking, hseq] at hnoted
  exact hnoted

namespace State.Arrives
variable (h : s.Arrives c bytes f k)
include h

theorem atEvent : s.atEvent.Arrives c bytes f k := ⟨h.ended, h.frame, h.base, h.kind, h.whole, h.crew, h.stands, h.fresh⟩

/-- A new telegram is answered as its routing says (R187). -/
theorem work {t : State} {code : Nat} (hroute : (s.accepting c f k).route c k ((s.chan c).assembling f) = (t, code)) :
    s.frameReceived c bytes = t.modChan c (Channel.answering f .finish code (fullMap (blockCount f.header.len)) none) := by
  obtain ⟨hsrc, hseq, -, -⟩ := (s.chan c).assembling_header f
  have hjudge := State.judge_of_new (s := s.modChan c (Channel.taking f)) (c := c) (a := (s.chan c).assembling f) (k := k)
    (by rw [hsrc]; exact h.crew) (by rw [hseq]; exact h.fresh)
  rw [State.frameReceived_whole h.ended h.frame h.base h.kind h.whole, hjudge]
  exact congrArg (fun r : State × Nat => r.1.modChan c (Channel.answering f .finish r.2 (fullMap (blockCount f.header.len)) none)) hroute

/-- The frame after a new telegram, from what its routing does. -/
theorem framed {t : State} {code : Nat} {effect : State → State}
    (hroute : (s.accepting c f k).route c k ((s.chan c).assembling f) = (t, code)) (ht : t.frame = (effect (s.accepted c f k)).frame)
    (heffect : ∀ u : State, ((effect u).modChan c (Channel.answering f .finish code (fullMap (blockCount f.header.len)) none)).frame
      = (effect (u.modChan c (Channel.answering f .finish code (fullMap (blockCount f.header.len)) none))).frame) :
    (s.frameReceived c bytes).frame = (effect (s.replied c f k code)).frame := by
  rw [h.work hroute, State.modChan_frame_congr ht c fun _ => rfl, heffect]
  have hsame : (s.accepted c f k).modChan c (Channel.answering f .finish code (fullMap (blockCount f.header.len)) none)
      = s.replied c f k code := congrArg (fun t : State => t.modCrew k.slot (Crew.accepted s.clock f.header.seq
        (s.busy c ((s.chan c).assembling f)))) State.taking_answering
  rw [hsame]

end State.Arrives
end

/-! ### Where a telegram is routed (R187) -/

section
variable {s : State} {c : Chan} {k : Crew} {a : Assembly} {h l x y : Byte}

theorem State.route_unfit (hfits : fitsKind a.kind a.body.length = false) : s.route c k a = (s, 3) := by
  simp only [State.route, hfits]
  rfl

theorem State.route_text (hfits : fitsKind a.kind a.body.length = true) (hkind : a.kind = kindText) :
    s.route c k a = if (s.chan c).mailboxFull then (s, 2) else (s.storeMessage c k a.seq a.body, 1) := by
  simp only [State.route, hfits, Bool.not_true, Bool.false_eq_true, if_false, if_pos hkind]
  rfl

theorem State.route_surrender (hbody : a.body = [h, l]) (hkind : a.kind = kindSurrender) :
    s.route c k a = (s.surrenderAsked k.slot (be16 h l), 1) := by
  simp only [State.route, hbody, hkind]
  rfl

theorem State.route_watch (hbody : a.body = [h, l]) (hkind : a.kind = kindCheckIn ∨ a.kind = kindRest ∨ a.kind = kindResume) :
    s.route c k a = s.routeWatch k.slot a.kind (be16 h l) := by
  rcases hkind with hkind | hkind | hkind <;> (simp only [State.route, hbody, hkind]; rfl)

theorem State.route_reply (hbody : a.body = [h, l, x]) (hkind : a.kind = kindOrderReply) :
    s.route c k a = (s.orderReply k.slot (be16 h l) x.toNat, 1) := by
  simp only [State.route, hbody, hkind]
  rfl

theorem State.route_emergency (hbody : a.body = [h, l, x]) (hkind : a.kind = kindEmergency) :
    s.route c k a = (s.emergency k.slot (be16 h l) (emergencyCause x.toNat), 1) := by
  simp only [State.route, hbody, hkind]
  rfl

theorem State.route_report (hbody : a.body = [h, l, x, y]) (hkind : a.kind = kindStepReport) :
    s.route c k a = (s.stepReport k.slot (be16 h l) x.toNat y.toNat, 1) := by
  simp only [State.route, hbody, hkind]
  rfl

theorem State.route_readback (hbody : a.body = [h, l, x, y]) (hkind : a.kind = kindReadback) :
    s.route c k a = (s.readback k.slot (be16 h l) (be16 x y), 1) := by
  simp only [State.route, hbody, hkind]
  rfl

/-! A member of the crew. -/

section
variable {slot badge : Nat} (hk : s.crew? slot = some k)
include hk

theorem State.routeWatch_of_stranger (hno : badge ∉ k.members) (kind : Nat) : s.routeWatch slot kind badge = (s, 3) := by
  have hany : ((s.crew? slot).any fun k => k.members.contains badge) = false := by simpa [hk] using hno
  rw [State.routeWatch, hany]
  rfl

theorem State.routeWatch_of_member (hin : badge ∈ k.members) (kind : Nat) : s.routeWatch slot kind badge =
    if kind = kindCheckIn then (s.checkIn badge, 1) else if kind = kindResume then (s.resume badge, 1) else s.rest badge := by
  have hany : ((s.crew? slot).any fun k => k.members.contains badge) = true := by simpa [hk] using hin
  rw [State.routeWatch, hany]
  rfl

theorem State.emergency_of_member (hin : badge ∈ k.members) (cause : AlarmCause) :
    s.emergency slot badge cause = s.workerAlarm badge cause := by
  rw [State.emergency, if_pos (by simpa [hk] using hin)]

theorem State.emergency_of_crew (hno : badge ∉ k.members) (cause : AlarmCause) :
    s.emergency slot badge cause = s.crewAlarm slot cause := by
  rw [State.emergency, if_neg (by simpa [hk] using hno)]

end
end

/-! ### What is known of the state in which a telegram is routed -/

section
variable {s t : State}

theorem State.worker?_of_frame (h : t.frame = s.frame) (badge : Nat) :
    (t.worker? badge).map Worker.frame = (s.worker? badge).map Worker.frame := by
  have hone (u : State) : (u.worker? badge).map Worker.frame = tFind Worker.badge badge (u.workers.map Worker.frame) :=
    (tFind_map_of Worker.badge badge Worker.frame u.workers fun _ => rfl).symm
  have hworkers : t.workers.map Worker.frame = s.workers.map Worker.frame := (congrArg State.workers h :)
  rw [hone, hone, hworkers]

theorem State.highRisk_of_frame (h : t.frame = s.frame) (slot : Nat) : t.highRisk slot = s.highRisk slot := by
  have hone (u : State) : u.highRisk slot = (u.permits.map Permit.frame).any fun p => p.holder == slot && p.state.active := by
    rw [List.any_map]
    rfl
  have hpermits : t.permits.map Permit.frame = s.permits.map Permit.frame := (congrArg State.permits h :)
  rw [hone, hone, hpermits]

variable {c : Chan} {f : Frame} {k : Crew} (hk : s.crew? k.slot = some k)
include hk

theorem State.accepting_worker? {badge : Nat} {w : Worker} (hw : s.worker? badge = some w) :
    ∃ w', (s.accepting c f k).worker? badge = some w' ∧ w'.frame = w.frame :=
  Option.map_eq_some_iff.1 ((State.worker?_of_frame (State.accepting_frame hk) badge).trans (congrArg (Option.map Worker.frame) hw))

/-- Where a crew stands, who its members are and what its alarm is do not turn on an arrival. -/
theorem State.accepting_crew? {slot : Nat} {x : Crew} (hx : s.crew? slot = some x) : ∃ x', (s.accepting c f k).crew? slot = some x'
    ∧ x'.slot = x.slot ∧ x'.unit = x.unit ∧ x'.current = x.current ∧ x'.members = x.members ∧ x'.alarm = x.alarm := by
  have hcrews := State.crew?_of_crews_frame (congrArg State.crews (State.accepting_frame (c := c) (f := f) hk) :) slot
  have hone : ∃ y, (s.accepted c f k).crew? slot = some y ∧ y.slot = x.slot ∧ y.unit = x.unit ∧ y.current = x.current
      ∧ y.members = x.members ∧ y.alarm = x.alarm := by
    by_cases hslot : slot = k.slot
    · subst hslot
      obtain rfl : k = x := Option.some.inj (hk.symm.trans hx)
      exact ⟨_, State.crew?_modCrew (s := s.modChan c (Channel.taking f)) (by intro; rfl) hk, rfl, rfl, rfl, rfl, rfl⟩
    · exact ⟨x, (State.crew?_modCrew_other (by intro; rfl) hslot).trans hx, rfl, rfl, rfl, rfl, rfl⟩
  obtain ⟨y, hy, hslot, hunit, hcurrent, hmembers, halarm⟩ := hone
  obtain ⟨x', hx', hframe⟩ := Option.map_eq_some_iff.1 (hcrews.trans (congrArg (Option.map Crew.frame) hy))
  exact ⟨x', hx', (congrArg Crew.slot hframe :).trans hslot, (congrArg Crew.unit hframe :).trans hunit,
    (congrArg Crew.current hframe :).trans hcurrent, (congrArg Crew.members hframe :).trans hmembers,
    (congrArg Crew.alarm hframe :).trans halarm⟩

end

/-! ### CHECK_IN, REST and RESUME of a member (R108 to R111) -/

section
variable {s : State} {badge : Nat} {w : Worker} (hw : s.worker? badge = some w)
include hw

section
variable {e l : Nat} (he : e = effectiveInterval w.interval w.missed (s.highRisk w.crew) s.params.highRiskCap)
  (hl : l = leadTime s.params.promptLead e)
include he hl

theorem State.restart_frame_of : (s.restart badge).frame = (s.modWorker badge fun w => w.restarted e l).frame :=
  (congrArg State.frame (State.restart_eq hw he hl)).trans (State.strike_frame _ _ _)

/-- A member under watch that checks in (R108). -/
theorem State.checkedIn_of_watching (hwatch : w.watch = .watching) :
    (s.checkedIn w).frame = (s.modWorker badge fun w => w.restarted e l).frame
      ∧ ∀ t : State, t.watches = (s.checkedIn w).watches → (t.worker? badge).map (·.leadOwed) = some (decide (0 < l)) := by
  have hwork : s.checkedIn w = s.restart badge := by rw [State.checkedIn, if_pos hwatch, State.badge_of_worker? hw]
  rw [hwork]
  exact ⟨State.restart_frame_of hw he hl, fun t ht => State.restart_worker? hw he hl ht (·.leadOwed) fun _ => rfl⟩

/-- A member that is DUE or RESTING and comes back under watch (R108, R110). -/
theorem State.checkedIn_of_other (hwatch : w.watch ≠ .watching) :
    (s.checkedIn w).frame = (s.modWorker badge fun w => { w.restarted e l with watch := .watching }).frame
      ∧ ∀ t : State, t.watches = (s.checkedIn w).watches → (t.worker? badge).map (·.leadOwed) = some (decide (0 < l)) := by
  have hwork : s.checkedIn w = ((s.modWorker badge fun w => { w with watch := .watching }).restart badge).post
      (.watchState badge w.crew w.watch .watching .telegram) := by rw [State.checkedIn, if_neg hwatch, State.badge_of_worker? hw]
  have hw' := State.worker?_modWorker (f := fun w => { w with watch := .watching }) (fun _ => rfl) hw
  rw [hwork]
  refine ⟨?_, fun t ht => ?_⟩
  · rw [State.post_frame, State.restart_frame_of (e := e) (l := l) hw' he hl, State.modWorker_modWorker _ _ _ (by intro; rfl)]
    rfl
  · exact State.restart_worker? (e := e) (l := l) hw' he hl (ht.trans (State.post_watches _ _)) (·.leadOwed) fun _ => rfl

end

theorem State.checkIn_of_watched (hwatch : w.watch = .watching ∨ w.watch = .due) : s.checkIn badge = s.checkedIn w := by
  rcases hwatch with h | h <;> simp only [State.checkIn, hw, h]

theorem State.resume_of_watched (hwatch : w.watch = .watching ∨ w.watch = .due ∨ w.watch = .resting) : s.resume badge = s.checkedIn w := by
  rcases hwatch with h | h | h <;> simp only [State.resume, hw, h]

theorem State.checkIn_of_not (hwatch : w.watch ≠ .watching ∧ w.watch ≠ .due) : (s.checkIn badge).frame = s.frame := by
  simp only [State.checkIn, hw]
  split
  · rfl
  · rfl
  next h => exact absurd h hwatch.1
  next h => exact absurd h hwatch.2
  · exact State.post_frame _ _
  · exact State.post_frame _ _

theorem State.resume_of_not (hwatch : w.watch = .off ∨ w.watch = .alarm ∨ w.watch = .acknowledged) : (s.resume badge).frame = s.frame := by
  rcases hwatch with h | h | h <;> simp only [State.resume, hw, h]
  · exact State.post_frame _ _
  · exact State.post_frame _ _

/-- A rest that begins (R109). -/
theorem State.rest_of_watched (hwatch : w.watch = .watching ∨ w.watch = .due) (hrisk : s.highRisk w.crew = false) :
    (s.rest badge).2 = 1 ∧ (s.rest badge).1.frame
      = (s.modWorker badge fun w => { w with watch := .resting, remaining := some s.params.restLimit, graceLeft := none }).frame := by
  have hwork : s.rest badge = (((s.modWorker badge fun w =>
      { w with watch := .resting, remaining := some s.params.restLimit, graceLeft := none, leadOwed := false }).strike w.crew badge).post
        (.watchState badge w.crew w.watch .resting .telegram), 1) := by
    rcases hwatch with h | h <;> (simp only [State.rest, hw, h, hrisk]; rfl)
  rw [hwork]
  refine ⟨rfl, ?_⟩
  rw [State.post_frame, State.strike_frame]
  exact State.modWorker_frame_ext badge fun _ => rfl

/-- A rest that is refused (R109). -/
theorem State.rest_of_refused (hno : (w.watch ≠ .watching ∧ w.watch ≠ .due) ∨ s.highRisk w.crew = true) :
    (s.rest badge).2 = 3 ∧ (s.rest badge).1.frame = s.frame := by
  have hrisk (h : w.watch = .watching ∨ w.watch = .due) : s.highRisk w.crew = true :=
    hno.resolve_left fun hnot => h.elim hnot.1 hnot.2
  have hwork : s.rest badge = (s, 3) ∨ ∃ n, s.rest badge = (s.post n, 3) := by
    cases h : w.watch with
    | off => exact .inl (by simp only [State.rest, hw, h]; rfl)
    | watching => exact .inl (by simp only [State.rest, hw, h, hrisk (.inl h)]; rfl)
    | due => exact .inl (by simp only [State.rest, hw, h, hrisk (.inr h)]; rfl)
    | resting => exact .inl (by simp only [State.rest, hw, h]; rfl)
    | alarm => exact .inr ⟨_, by simp only [State.rest, hw, h]; rfl⟩
    | acknowledged => exact .inr ⟨_, by simp only [State.rest, hw, h]; rfl⟩
  rcases hwork with h | ⟨n, h⟩
  · rw [h]
    exact ⟨rfl, rfl⟩
  · rw [h]
    exact ⟨rfl, State.post_frame _ _⟩

end

/-! ### EMERGENCY (R114) -/

section
variable {s t : State}

theorem State.enteredSets_modChan {a : AlarmRef} {current c : Chan} {g : Channel → Channel}
    (hg : ∀ ch d, (g ch).entered a current d = g (ch.entered a current d)) :
    (s.enteredSets a current).modChan c g = (s.modChan c g).enteredSets a current := by
  have hchans : ((s.enteredSets a current).modChan c g).chans = ((s.modChan c g).enteredSets a current).chans := by
    fin_cases c <;> simp [State.enteredSets, State.modChan, State.chan, Four.set, Four.get, hg]
  exact congrArg (fun x : Four Channel => ({ s.enteredSets a current with chans := x } : State)) hchans

theorem Channel.answering_entered (f : Frame) (after : AfterAnswer) (code map : Nat) (kept : Option Assembly) (a : AlarmRef) (current : Chan)
    (ch : Channel) (d : Chan) : (Channel.answering f after code map kept ch).entered a current d
      = Channel.answering f after code map kept (ch.entered a current d) := by
  have hset : (Channel.answering f after code map kept ch).alarmSet = ch.alarmSet := rfl
  rw [Channel.entered, Channel.entered, hset]
  split
  · rfl
  · rfl

/-- A worker's alarm that is already an ALARM takes the new cause (R114). -/
theorem State.workerAlarm_again {badge : Nat} {cause : AlarmCause} {w : Worker} {k : Crew} (hw : s.worker? badge = some w)
    (hk : s.crew? w.crew = some k) (hwatch : w.watch = .alarm) :
    (s.workerAlarm badge cause).frame = (s.modWorker badge fun w => { w with cause := some cause }).frame := by
  simp only [State.workerAlarm, hw, hk, if_pos hwatch]
  exact (State.armAll_frame _ _).trans (State.post_frame _ _)

/-- A crew's alarm that is RAISED takes the new cause (R114). -/
theorem State.crewAlarm_again {slot : Nat} {cause : AlarmCause} {k : Crew} (hk : s.crew? slot = some k) (halarm : k.alarm = .raised) :
    (s.crewAlarm slot cause).frame = (s.modCrew slot fun k => { k with alarmCause := some cause }).frame := by
  simp only [State.crewAlarm, hk, if_pos halarm]
  exact (State.armAll_frame _ _).trans (State.post_frame _ _)

/-- A worker's alarm entered, without the traffic it brings (R114, R118, R119). -/
def State.workerRaised (s : State) (badge slot : Nat) (current : Chan) (cause : AlarmCause) (escal : Nat) (was : Bool) : State :=
  ((s.modWorker badge fun w => w.alarmed cause escal).enteredSets (.worker badge) current).heldPermits slot was

/-- A crew's alarm entered, without the traffic it brings (R114, R118, R119). -/
def State.crewRaised (s : State) (slot : Nat) (current : Chan) (cause : AlarmCause) (escal : Nat) (was : Bool) : State :=
  ((s.modCrew slot fun k => k.alarmed cause escal).enteredSets (.crew slot) current).heldPermits slot was

theorem State.workerRaised_frame_congr (h : t.frame = s.frame) (badge slot : Nat) (current : Chan) (cause : AlarmCause) (escal : Nat)
    (was : Bool) : (t.workerRaised badge slot current cause escal was).frame = (s.workerRaised badge slot current cause escal was).frame :=
  State.heldPermits_frame_congr (State.enteredSets_frame_congr (State.modWorker_frame_congr h _ fun _ => rfl) _ _) _ _

theorem State.crewRaised_frame_congr (h : t.frame = s.frame) (slot : Nat) (current : Chan) (cause : AlarmCause) (escal : Nat) (was : Bool) :
    (t.crewRaised slot current cause escal was).frame = (s.crewRaised slot current cause escal was).frame :=
  State.heldPermits_frame_congr (State.enteredSets_frame_congr (State.modCrew_frame_congr h _ fun _ => by
    simp only [Crew.frame, Crew.alarmed, sort_sort]) _ _) _ _

variable {c : Chan} {f : Frame} {after : AfterAnswer} {code map : Nat} {kept : Option Assembly}

theorem State.workerRaised_answering (badge slot : Nat) (current : Chan) (cause : AlarmCause) (escal : Nat) (was : Bool) :
    (s.workerRaised badge slot current cause escal was).modChan c (Channel.answering f after code map kept)
      = (s.modChan c (Channel.answering f after code map kept)).workerRaised badge slot current cause escal was :=
  congrArg (fun t : State => t.heldPermits slot was) (State.enteredSets_modChan (s := s.modWorker badge fun w => w.alarmed cause escal)
    (Channel.answering_entered f after code map kept _ _))

theorem State.crewRaised_answering (slot : Nat) (current : Chan) (cause : AlarmCause) (escal : Nat) (was : Bool) :
    (s.crewRaised slot current cause escal was).modChan c (Channel.answering f after code map kept)
      = (s.modChan c (Channel.answering f after code map kept)).crewRaised slot current cause escal was :=
  congrArg (fun t : State => t.heldPermits slot was) (State.enteredSets_modChan (s := s.modCrew slot fun k => k.alarmed cause escal)
    (Channel.answering_entered f after code map kept _ _))

end

end Sys2Proof.Machine
end

section
/-!
What a crew's TEXT, CHECK_IN, REST, RESUME, EMERGENCY and ORDER_REPLY bring (R38 to R40, R108 to R114, R189).
-/

namespace Sys2Proof.Machine
namespace State.Arrives
variable {s : State} {c : Chan} {bytes : List Byte} {f : Frame} {k : Crew} (h : s.Arrives c bytes f k)
include h

omit h in
theorem quiet : Quiet s (s.event fun t => t.frameReceived c bytes) :=
  s.event_quiet_of_shape _ (s.atEvent.frameReceived_keeps c bytes).shape

/-- What a new telegram leaves, up to traffic, from what its routing does. -/
theorem alike {t : State} {code : Nat} {effect : State → State}
    (hroute : (s.atEvent.accepting c f k).route c k ((s.chan c).assembling f) = (t, code))
    (ht : t.frame = (effect (s.atEvent.accepted c f k)).frame)
    (heffect : ∀ u : State, (effect u).modChan c (Channel.answering f .finish code (fullMap (blockCount f.header.len)) none)
      = effect (u.modChan c (Channel.answering f .finish code (fullMap (blockCount f.header.len)) none))) :
    Alike (s.event fun t => t.frameReceived c bytes) (effect (s.atEvent.replied c f k code)) :=
  State.event_alike (h.atEvent.framed hroute ht fun u => congrArg State.frame (heffect u))

theorem alike_kept {t : State} {code : Nat} (hroute : (s.atEvent.accepting c f k).route c k ((s.chan c).assembling f) = (t, code))
    (ht : t.frame = (s.atEvent.accepting c f k).frame) :
    Alike (s.event fun t => t.frameReceived c bytes) (s.replied c f k code) :=
  h.alike (effect := id) hroute (ht.trans (State.accepting_frame (s := s.atEvent) h.stands)) fun _ => rfl

theorem watches {t : State} {code : Nat} (hroute : (s.atEvent.accepting c f k).route c k ((s.chan c).assembling f) = (t, code)) :
    (s.event fun t => t.frameReceived c bytes).watches = t.watches :=
  (watches_spared t.watches).event (by rw [h.atEvent.work hroute]; rfl)

/-! A TEXT (R189). -/

theorem unfit (hfits : fitsKind ((s.chan c).assembling f).kind ((s.chan c).assembling f).body.length = false) :
    Alike (s.event fun t => t.frameReceived c bytes) (s.replied c f k 3) := h.alike_kept (State.route_unfit hfits) rfl

section
variable (hfits : fitsKind ((s.chan c).assembling f).kind ((s.chan c).assembling f).body.length = true)
  (hkind : ((s.chan c).assembling f).kind = kindText)
include hfits hkind

theorem text : (s.atEvent.accepting c f k).route c k ((s.chan c).assembling f) = if (s.chan c).mailboxFull then (s.atEvent.accepting c f k, 2)
    else ((s.atEvent.accepting c f k).storeMessage c k f.header.seq ((s.chan c).assembling f).body, 1) := by
  have hair := congrArg Channel.mailbox (State.air_of_airs (State.airs_of_frame (State.accepting_frame (s := s.atEvent) (c := c) (f := f)
    h.stands)) c)
  have hmailbox : ((s.atEvent.accepting c f k).chan c).mailbox = (s.chan c).mailbox := by
    refine (show ((s.atEvent.accepting c f k).chan c).mailbox = ((s.atEvent.accepted c f k).chan c).mailbox from hair).trans ?_
    exact (congrArg Channel.mailbox (State.modChan_chan_same s.atEvent c (Channel.taking f)) :)
  have hfull : ((s.atEvent.accepting c f k).chan c).mailboxFull = (s.chan c).mailboxFull := by
    rw [Channel.mailboxFull, hmailbox]
    rfl
  obtain ⟨-, hseq, -, -⟩ := (s.chan c).assembling_header f
  rw [State.route_text hfits hkind, hfull, hseq]

theorem text_full (hfull : 2 ≤ (s.chan c).mailbox.length) : Alike (s.event fun t => t.frameReceived c bytes) (s.replied c f k 2) := by
  refine h.alike_kept ((h.text hfits hkind).trans (if_pos ?_)) rfl
  exact decide_eq_true hfull

theorem text_room (hroom : (s.chan c).mailbox.length < 2) : Alike (s.event fun t => t.frameReceived c bytes)
    ((s.replied c f k 1).modChan c fun ch =>
      { ch with mailbox := ch.mailbox ++ [⟨k.slot, k.unit, c, s.clock, f.header.seq, ((s.chan c).assembling f).body⟩] }) := by
  have hframe := State.accepting_frame (s := s.atEvent) (c := c) (f := f) h.stands
  refine h.alike (effect := fun u => u.modChan c fun ch =>
    { ch with mailbox := ch.mailbox ++ [⟨k.slot, k.unit, c, s.clock, f.header.seq, ((s.chan c).assembling f).body⟩] })
    ((h.text hfits hkind).trans (if_neg ?_)) ?_ ?_
  · simpa [Channel.mailboxFull] using hroom
  · have hclock : (s.atEvent.accepting c f k).clock = s.clock := (congrArg State.clock hframe :)
    rw [State.storeMessage, State.post_frame, hclock]
    exact State.modChan_frame_congr hframe c fun _ => rfl
  · intro u
    simp only [State.modChan_modChan]
    rfl

end
end State.Arrives

/-! ### CHECK_IN, REST and RESUME of a crew (R108 to R111) -/

namespace State.Arrives
variable {s : State} {c : Chan} {bytes : List Byte} {f : Frame} {k : Crew} (h : s.Arrives c bytes f k)
include h

/-- The worker of a badge as a telegram of its crew is routed. -/
theorem worker {badge : Nat} {w : Worker} (hw : s.worker? badge = some w) : ∃ w', (s.atEvent.accepting c f k).worker? badge = some w'
    ∧ w'.watch = w.watch ∧ w'.crew = w.crew ∧ (s.atEvent.accepting c f k).highRisk w'.crew = s.highRisk w.crew
    ∧ ∀ e, e = effectiveInterval w.interval w.missed (s.highRisk w.crew) s.params.highRiskCap →
      e = effectiveInterval w'.interval w'.missed ((s.atEvent.accepting c f k).highRisk w'.crew) (s.atEvent.accepting c f k).params.highRiskCap := by
  have hframe := State.accepting_frame (s := s.atEvent) (c := c) (f := f) h.stands
  obtain ⟨w', hw', hsame⟩ := State.accepting_worker? (s := s.atEvent) (c := c) (f := f) h.stands hw
  have hcrew : w'.crew = w.crew := (congrArg Worker.crew hsame :)
  have hrisk : (s.atEvent.accepting c f k).highRisk w'.crew = s.highRisk w.crew := by
    rw [State.highRisk_of_frame hframe, hcrew]
    rfl
  refine ⟨w', hw', (congrArg Worker.watch hsame :), hcrew, hrisk, fun e he => ?_⟩
  have hparams : (s.atEvent.accepting c f k).params = s.params := (congrArg State.params hframe :)
  have hinterval : w'.interval = w.interval := (congrArg Worker.interval hsame :)
  have hmissed : w'.missed = w.missed := (congrArg Worker.missed hsame :)
  rw [hrisk, hparams, hinterval, hmissed]
  exact he

variable {hi lo : Byte} (hbody : ((s.chan c).assembling f).body = [hi, lo])
  (hkind : ((s.chan c).assembling f).kind = kindCheckIn ∨ ((s.chan c).assembling f).kind = kindRest
    ∨ ((s.chan c).assembling f).kind = kindResume)
include hbody hkind

theorem watch_of_stranger (hno : be16 hi lo ∉ k.members) :
    Alike (s.event fun t => t.frameReceived c bytes) (s.replied c f k 3) := by
  obtain ⟨k', hk', -, -, -, hmembers, -⟩ := State.accepting_crew? (s := s.atEvent) (c := c) (f := f) h.stands h.stands
  exact h.alike_kept ((State.route_watch hbody hkind).trans (State.routeWatch_of_stranger hk' (by rw [hmembers]; exact hno) _)) rfl

section
variable (hin : be16 hi lo ∈ k.members) {w : Worker} (hw : s.worker? (be16 hi lo) = some w)
include hin

theorem watch_of_member : (s.atEvent.accepting c f k).route c k ((s.chan c).assembling f) =
    if ((s.chan c).assembling f).kind = kindCheckIn then ((s.atEvent.accepting c f k).checkIn (be16 hi lo), 1)
    else if ((s.chan c).assembling f).kind = kindResume then ((s.atEvent.accepting c f k).resume (be16 hi lo), 1)
    else (s.atEvent.accepting c f k).rest (be16 hi lo) := by
  obtain ⟨k', hk', -, -, -, hmembers, -⟩ := State.accepting_crew? (s := s.atEvent) (c := c) (f := f) h.stands h.stands
  exact (State.route_watch hbody hkind).trans (State.routeWatch_of_member hk' (by rw [hmembers]; exact hin) _)

omit hkind in
theorem watch_of_checkIn (hkind : ((s.chan c).assembling f).kind = kindCheckIn) :
    (s.atEvent.accepting c f k).route c k ((s.chan c).assembling f) = ((s.atEvent.accepting c f k).checkIn (be16 hi lo), 1) :=
  (h.watch_of_member hbody (.inl hkind) hin).trans (if_pos hkind)

omit hkind in
theorem watch_of_resume (hkind : ((s.chan c).assembling f).kind = kindResume) :
    (s.atEvent.accepting c f k).route c k ((s.chan c).assembling f) = ((s.atEvent.accepting c f k).resume (be16 hi lo), 1) :=
  (h.watch_of_member hbody (.inr (.inr hkind)) hin).trans ((if_neg (by rw [hkind]; decide)).trans (if_pos hkind))

omit hkind in
theorem watch_of_rest (hkind : ((s.chan c).assembling f).kind = kindRest) :
    (s.atEvent.accepting c f k).route c k ((s.chan c).assembling f) = (s.atEvent.accepting c f k).rest (be16 hi lo) :=
  (h.watch_of_member hbody (.inr (.inl hkind)) hin).trans ((if_neg (by rw [hkind]; decide)).trans (if_neg (by rw [hkind]; decide)))

end

omit hbody hkind

/-- A watch that an accepted telegram restarts (R108, R110). -/
theorem restarts {badge : Nat} {w : Worker} {e lead : Nat} (hw : s.worker? badge = some w)
    (he : e = effectiveInterval w.interval w.missed (s.highRisk w.crew) s.params.highRiskCap) (hl : lead = leadTime s.params.promptLead e)
    (hroute : ∀ w', (s.atEvent.accepting c f k).worker? badge = some w' → w'.watch = w.watch →
      (s.atEvent.accepting c f k).route c k ((s.chan c).assembling f) = ((s.atEvent.accepting c f k).checkedIn w', 1)) :
    Alike (s.event fun t => t.frameReceived c bytes) ((s.replied c f k 1).modWorker badge fun v =>
        if w.watch = .watching then v.restarted e lead else { v.restarted e lead with watch := .watching })
      ∧ ((s.event fun t => t.frameReceived c bytes).worker? badge).map (·.leadOwed) = some (decide (0 < lead)) := by
  obtain ⟨w', hw', hwatch, -, -, he'⟩ := h.worker hw
  have hframe := State.accepting_frame (s := s.atEvent) (c := c) (f := f) h.stands
  have hparams : (s.atEvent.accepting c f k).params = s.params := (congrArg State.params hframe :)
  have hroute := hroute w' hw' hwatch
  have hl' : lead = leadTime (s.atEvent.accepting c f k).params.promptLead e := by rw [hparams]; exact hl
  have hchecked : ((s.atEvent.accepting c f k).checkedIn w').frame = ((s.atEvent.accepting c f k).modWorker badge fun v =>
        if w.watch = .watching then v.restarted e lead else { v.restarted e lead with watch := .watching }).frame
      ∧ ∀ t : State, t.watches = ((s.atEvent.accepting c f k).checkedIn w').watches →
        (t.worker? badge).map (·.leadOwed) = some (decide (0 < lead)) := by
    rw [← hwatch]
    by_cases hwatching : w'.watch = .watching
    · simp only [if_pos hwatching]
      exact State.checkedIn_of_watching hw' (he' e he) hl' hwatching
    · simp only [if_neg hwatching]
      exact State.checkedIn_of_other hw' (he' e he) hl' hwatching
  refine ⟨?_, hchecked.2 _ (h.watches hroute)⟩
  refine h.alike (effect := fun u => u.modWorker badge fun v =>
    if w.watch = .watching then v.restarted e lead else { v.restarted e lead with watch := .watching }) hroute ?_ fun _ => rfl
  refine hchecked.1.trans (State.modWorker_frame_congr hframe badge fun v => ?_)
  split <;> rfl

end State.Arrives

/-! ### EMERGENCY of a crew (R114) -/

section
variable {s : State}

theorem State.inAlarm_modCrew {n : Nat} {f : Crew → Crew} (hf : ∀ k, (f k).slot = k.slot) (halarm : ∀ k, (f k).alarm = k.alarm) (slot : Nat) :
    (s.modCrew n f).inAlarm slot = s.inAlarm slot := by
  have hcrew : ((s.modCrew n f).crew? slot).any (fun k => k.alarm != .none) = (s.crew? slot).any fun k => k.alarm != .none := by
    by_cases hn : slot = n
    · subst hn
      rw [State.crew?, State.modCrew, tFind_tMod_same Crew.slot slot f _ hf, Option.any_map]
      simp only [halarm]
      rfl
    · rw [State.crew?_modCrew_other hf hn]
  rw [State.inAlarm, State.inAlarm, hcrew]
  rfl

variable {c : Chan} {f : Frame} {k : Crew}

theorem State.accepting_inAlarm (hk : s.crew? k.slot = some k) (slot : Nat) : (s.accepting c f k).inAlarm slot = s.inAlarm slot :=
  (State.inAlarm_of_frame (State.accepting_frame hk) slot).trans
    (State.inAlarm_modCrew (s := s.modChan c (Channel.taking f)) (by intro; rfl) (by intro; rfl) slot)

theorem State.replied_atEvent (code : Nat) : (s.atEvent.replied c f k code).frame = (s.replied c f k code).frame := rfl

end

namespace State.Arrives
variable {s : State} {c : Chan} {bytes : List Byte} {f : Frame} {k : Crew} (h : s.Arrives c bytes f k)
  {hi lo x : Byte} (hbody : ((s.chan c).assembling f).body = [hi, lo, x]) (hkind : ((s.chan c).assembling f).kind = kindEmergency)
include h hbody hkind

omit h in
theorem emergency : (s.atEvent.accepting c f k).route c k ((s.chan c).assembling f)
    = ((s.atEvent.accepting c f k).emergency k.slot (be16 hi lo) (emergencyCause x.toNat), 1) := State.route_emergency hbody hkind

section
variable (hin : be16 hi lo ∈ k.members) {w : Worker} {at' : Crew} (hw : s.worker? (be16 hi lo) = some w) (hat : s.crew? w.crew = some at')
include hin hw hat

/-- The worker's alarm as the telegram is routed. -/
theorem emergency_of_member : ∃ w' at'', (s.atEvent.accepting c f k).worker? (be16 hi lo) = some w'
    ∧ (s.atEvent.accepting c f k).crew? w'.crew = some at'' ∧ w'.watch = w.watch ∧ at''.slot = at'.slot ∧ at''.current = at'.current
    ∧ (s.atEvent.accepting c f k).route c k ((s.chan c).assembling f)
      = ((s.atEvent.accepting c f k).workerAlarm (be16 hi lo) (emergencyCause x.toNat), 1) := by
  obtain ⟨k', hk', -, -, -, hmembers, -⟩ := State.accepting_crew? (s := s.atEvent) (c := c) (f := f) h.stands h.stands
  obtain ⟨w', hw', hwatch, hcrew, -⟩ := h.worker hw
  obtain ⟨at'', hat'', hslot, -, hcurrent, -⟩ := State.accepting_crew? (s := s.atEvent) (c := c) (f := f) h.stands hat
  refine ⟨w', at'', hw', hcrew ▸ hat'', hwatch, hslot, hcurrent, (State.Arrives.emergency hbody hkind).trans ?_⟩
  rw [State.emergency_of_member hk' (by rw [hmembers]; exact hin)]

theorem worker_alarmed (hwatch : w.watch ≠ .alarm) (hserials : rising (s.permits.map (·.serial))) :
    Alike (s.event fun t => t.frameReceived c bytes) ((s.replied c f k 1).workerRaised (be16 hi lo) at'.slot at'.current
      (emergencyCause x.toNat) s.params.escalationTime (s.inAlarm at'.slot)) := by
  obtain ⟨w', at'', hw', hat'', hwatch', hslot, hcurrent, hroute⟩ := h.emergency_of_member hbody hkind hin hw hat
  have hframe := State.accepting_frame (s := s.atEvent) (c := c) (f := f) h.stands
  have hparams : (s.atEvent.accepting c f k).params = s.params := (congrArg State.params hframe :)
  have hin' : (s.atEvent.accepting c f k).inAlarm at'.slot = s.inAlarm at'.slot :=
    State.accepting_inAlarm (s := s.atEvent) h.stands _
  refine Eq.trans (h.alike (effect := fun u => u.workerRaised (be16 hi lo) at'.slot at'.current (emergencyCause x.toNat)
    s.params.escalationTime (s.inAlarm at'.slot)) hroute ?_ fun _ => State.workerRaised_answering _ _ _ _ _ _)
    (congrArg State.bare (State.workerRaised_frame_congr (State.replied_atEvent 1) _ _ _ _ _ _))
  rw [State.workerAlarm_frame _ hw' hat'' (by rw [hwatch']; exact hwatch) (by rw [State.serials_of_frame hframe]; exact hserials),
    hparams, hslot, hcurrent, hin']
  exact State.workerRaised_frame_congr hframe _ _ _ _ _ _

theorem worker_alarmed_again (hwatch : w.watch = .alarm) : Alike (s.event fun t => t.frameReceived c bytes)
    ((s.replied c f k 1).modWorker (be16 hi lo) fun w => { w with cause := some (emergencyCause x.toNat) }) := by
  obtain ⟨w', at'', hw', hat'', hwatch', -, -, hroute⟩ := h.emergency_of_member hbody hkind hin hw hat
  have hframe := State.accepting_frame (s := s.atEvent) (c := c) (f := f) h.stands
  refine h.alike (effect := fun u => u.modWorker (be16 hi lo) fun w => { w with cause := some (emergencyCause x.toNat) }) hroute ?_
    fun _ => rfl
  rw [State.workerAlarm_again hw' hat'' (by rw [hwatch']; exact hwatch)]
  exact State.modWorker_frame_congr hframe _ fun _ => rfl

end

section
variable (hno : be16 hi lo ∉ k.members)
include hno

/-- The crew's alarm as the telegram is routed. -/
theorem emergency_of_crew : ∃ k', (s.atEvent.accepting c f k).crew? k.slot = some k' ∧ k'.current = k.current ∧ k'.alarm = k.alarm
    ∧ (s.atEvent.accepting c f k).route c k ((s.chan c).assembling f)
      = ((s.atEvent.accepting c f k).crewAlarm k.slot (emergencyCause x.toNat), 1) := by
  obtain ⟨k', hk', -, -, hcurrent, hmembers, halarm⟩ := State.accepting_crew? (s := s.atEvent) (c := c) (f := f) h.stands h.stands
  refine ⟨k', hk', hcurrent, halarm, (State.Arrives.emergency hbody hkind).trans ?_⟩
  rw [State.emergency_of_crew hk' (by rw [hmembers]; exact hno)]

theorem crew_alarmed (halarm : k.alarm ≠ .raised) (hserials : rising (s.permits.map (·.serial))) :
    Alike (s.event fun t => t.frameReceived c bytes) ((s.replied c f k 1).crewRaised k.slot k.current
      (emergencyCause x.toNat) s.params.escalationTime (s.inAlarm k.slot)) := by
  obtain ⟨k', hk', hcurrent, halarm', hroute⟩ := h.emergency_of_crew hbody hkind hno
  have hframe := State.accepting_frame (s := s.atEvent) (c := c) (f := f) h.stands
  have hparams : (s.atEvent.accepting c f k).params = s.params := (congrArg State.params hframe :)
  have hin' : (s.atEvent.accepting c f k).inAlarm k.slot = s.inAlarm k.slot :=
    State.accepting_inAlarm (s := s.atEvent) h.stands _
  refine Eq.trans (h.alike (effect := fun u => u.crewRaised k.slot k.current (emergencyCause x.toNat) s.params.escalationTime
    (s.inAlarm k.slot)) hroute ?_ fun _ => State.crewRaised_answering _ _ _ _ _)
    (congrArg State.bare (State.crewRaised_frame_congr (State.replied_atEvent 1) _ _ _ _ _))
  rw [State.crewAlarm_frame _ hk' (by rw [halarm']; exact halarm) (by rw [State.serials_of_frame hframe]; exact hserials),
    hparams, hcurrent, hin']
  exact State.crewRaised_frame_congr hframe _ _ _ _ _

theorem crew_alarmed_again (halarm : k.alarm = .raised) : Alike (s.event fun t => t.frameReceived c bytes)
    ((s.replied c f k 1).modCrew k.slot fun k => { k with alarmCause := some (emergencyCause x.toNat) }) := by
  obtain ⟨k', hk', -, halarm', hroute⟩ := h.emergency_of_crew hbody hkind hno
  have hframe := State.accepting_frame (s := s.atEvent) (c := c) (f := f) h.stands
  refine h.alike (effect := fun u => u.modCrew k.slot fun k => { k with alarmCause := some (emergencyCause x.toNat) }) hroute ?_
    fun _ => rfl
  rw [State.crewAlarm_again hk' (by rw [halarm']; exact halarm)]
  exact State.modCrew_frame_congr hframe _ fun _ => by simp only [Crew.frame, sort_sort]

end
end State.Arrives

/-! ### ORDER_REPLY (R38 to R40) -/

/-- Whether an order in a state takes a reply (R38). -/
def OrderState.takes (reply : Nat) (st : OrderState) : Prop :=
  ((reply = 1 ∨ reply = 2) ∧ (st = .sent ∨ st = .delivered)) ∨ (reply = 3 ∧ st = .accepted) ∨ (reply = 4 ∧ st = .working)
    ∨ (reply = 5 ∧ (st = .accepted ∨ st = .blocked ∨ st = .working))

section
variable {s : State} {slot n : Nat} {o : Order}

/-- A reply that the order table does not take posts its notice alone (R38). -/
theorem State.orderReply_of_ignored {reply : Nat} (hno : ∀ o, s.order? n = some o →
    (s.crew? slot).bind (fun k => k.queue.head?) = some n → ¬ o.state.takes reply) : ∃ x, s.orderReply slot n reply = s.post x := by
  rw [State.orderReply]
  split
  · exact ⟨_, rfl⟩
  next o ho =>
    split
    next hhead =>
      have hnot := hno o ho hhead
      split
      next h => exact absurd (by rw [h]; simp [OrderState.takes]) hnot
      next h => exact absurd (by rw [h]; simp [OrderState.takes]) hnot
      next h => exact absurd (by rw [h]; simp [OrderState.takes]) hnot
      next h => exact absurd (by rw [h]; simp [OrderState.takes]) hnot
      next h => exact absurd (by rw [h]; simp [OrderState.takes]) hnot
      next h => exact absurd (by rw [h]; simp [OrderState.takes]) hnot
      next h => exact absurd (by rw [h]; simp [OrderState.takes]) hnot
      next h => exact absurd (by rw [h]; simp [OrderState.takes]) hnot
      next h => exact absurd (by rw [h]; simp [OrderState.takes]) hnot
      · exact ⟨_, rfl⟩
    · exact ⟨_, rfl⟩

section
variable (ho : s.order? n = some o)
include ho

section
variable (hhead : (s.crew? slot).bind (fun k => k.queue.head?) = some n)
include hhead

theorem State.orderReply_accept (hst : o.state = .sent ∨ o.state = .delivered) : s.orderReply slot n 1 = s.replyAccept slot o := by
  rcases hst with h | h <;> simp only [State.orderReply, ho, if_pos hhead, h]

theorem State.orderReply_decline (hst : o.state = .sent ∨ o.state = .delivered) : s.orderReply slot n 2 = s.replyDecline slot o := by
  rcases hst with h | h <;> simp only [State.orderReply, ho, if_pos hhead, h]

theorem State.orderReply_onSite (hst : o.state = .accepted) : s.orderReply slot n 3 = s.replyOnSite slot o := by
  simp only [State.orderReply, ho, if_pos hhead, hst]

theorem State.orderReply_complete (hst : o.state = .working) : s.orderReply slot n 4 = s.replyComplete slot o := by
  simp only [State.orderReply, ho, if_pos hhead, hst]

theorem State.orderReply_unable (hst : o.state = .accepted ∨ o.state = .blocked ∨ o.state = .working) :
    s.orderReply slot n 5 = s.replyUnable slot o := by
  rcases hst with h | h | h <;> simp only [State.orderReply, ho, if_pos hhead, h]

end

/-! A head that stays, and one that leaves its queue. -/

theorem State.HeadStands.becomes {q : List Nat} {prio : Nat → Option Priority}
    {r : Order.Told} (h : s.HeadStands slot n q prio r) {f : Order → Order}
    (hf : ∀ o, (f o).number = o.number ∧ (f o).priority = o.priority) : (s.modOrder n f).HeadStands slot n q prio (f o).told := by
  refine ⟨h.lined.modOrder n hf, h.apart, ?_⟩
  rw [State.order?_modOrder (fun o => (hf o).1) ho]
  rfl

theorem State.orderMoved_stands {q : List Nat} {prio : Nat → Option Priority}
    {r : Order.Told} (h : s.HeadStands slot n q prio r) (hcalm : Calm prio q)
    {f : Order → Order} (hf : ∀ o, (f o).number = o.number ∧ (f o).priority = o.priority) (hst : (f o).state ≠ .assigned ∧ (f o).state ≠ .sent)
    {x : Subject} (hx : x.isAlarm = false) : (((s.modOrder n f).post x).check slot).HeadStands slot n q prio (f o).told := by
  have hP := headStands_spared (slot := slot) (n := n) (r := (f o).told) hcalm hst.1 hst.2
  exact hP.check (hP.post (h.becomes ho hf) x hx) slot

end

theorem State.orderMoved_frame (f : Order → Order) (x : Subject) : (((s.modOrder n f).post x).check slot).frame = (s.modOrder n f).frame :=
  (State.check_frame _ _).trans (State.post_frame _ _)

theorem State.orderLeft_frame (f : Order → Order) (x : Subject) : (((s.modOrder n f).post x).leaveQueue slot n).frame
    = ((s.modOrder n f).modCrew slot fun k => { k with queue := k.queue.erase n }).frame :=
  (State.leaveQueue_frame _ _ _).trans (State.modCrew_frame_congr (State.post_frame _ _) slot fun k => by
    simp only [Crew.frame, sort_erase_sort])

/-- The withdrawal of an order's telegram is no matter of what the order then becomes. -/
theorem State.withdrawOrder_modOrder_frame {f : Order → Order} (hlink : ∀ o l, (f { o with link := l }).frame = (f o).frame) :
    ((s.withdrawOrder n).modOrder n f).frame = (s.modOrder n f).frame := by
  rw [State.withdrawOrder, State.modOrder_modOrder _ _ _ (by intro; rfl)]
  refine (State.modOrder_frame_ext n fun o => hlink o _).trans ?_
  exact State.modOrder_frame_of_orders (State.withdraw_frame (s := s) _) (s.withdraw_onlyChans _).orders n f

theorem State.HeadStands.of_records {t : State} {q : List Nat} {prio : Nat → Option Priority}
    {r : Order.Told} (h : s.HeadStands slot n q prio r) (hcrews : t.crews = s.crews)
    (horders : t.orders = s.orders) : t.HeadStands slot n q prio r := by
  have hprio : t.priority? = s.priority? := funext fun m => congrArg (fun l => (tFind Order.number m l).map Order.priority) horders
  exact ⟨⟨(congrArg (fun l => (tFind Crew.slot slot l).map (·.queue)) hcrews).trans h.lined.queue, hprio.trans h.lined.prios⟩,
    by rw [hcrews]; exact h.apart, (congrArg (fun l => (tFind Order.number n l).map Order.told) horders).trans h.record⟩

theorem State.withdrawOrder_stands (ho : s.order? n = some o) {q : List Nat} {prio : Nat → Option Priority}
    {r : Order.Told} (h : s.HeadStands slot n q prio r) :
    ∃ l, (s.withdrawOrder n).order? n = some { o with link := l }
      ∧ (s.withdrawOrder n).HeadStands slot n q prio ({ o with link := l } : Order).told := by
  have hchans := s.withdraw_onlyChans fun e => e.owner == .order n
  have ho' : (s.withdraw fun e => e.owner == .order n).order? n = some o := (congrArg (tFind Order.number n) hchans.orders).trans ho
  exact ⟨_, State.order?_modOrder (by intro; rfl) ho', (h.of_records hchans.crews hchans.orders).becomes
    (f := fun o => { o with link := if o.link = some .queued then none else o.link }) ho' (by intro; exact ⟨rfl, rfl⟩)⟩

end

/-! ### ORDER_REPLY of a crew (R38 to R40) -/

theorem State.Noted.records {s t : State} (h : s.Noted t) : t.crews = s.crews ∧ t.orders = s.orders ∧ t.permits = s.permits := by
  rcases h with h | ⟨n, -, h⟩
  · rw [h]
    exact ⟨rfl, rfl, rfl⟩
  · rw [h]
    exact ⟨State.post_crews s n, State.post_orders s n, State.post_permits s n⟩

theorem Order.headDeferred_of_takes {s : State} {k : Crew} {n reply : Nat} {o : Order} (ho : s.order? n = some o)
    (hhead : k.queue.head? = some n) (htakes : o.state.takes reply) : s.headDeferred k = false := by
  have hst : o.state ≠ .assigned := fun h => by rw [h] at htakes; simp [OrderState.takes] at htakes
  simp [State.headDeferred, State.headOf, hhead, ho, hst]

/-- What an order becomes as a reply moves it, told without its link. -/
structure Order.Moves (f : Order → Order) (st : OrderState) : Prop where
  kept  : ∀ o, (f o).number = o.number ∧ (f o).priority = o.priority ∧ (f o).unanswered = o.unanswered
  state : ∀ o, (f o).state = st
  link  : ∀ o l, (f { o with link := l }).frame = (f o).frame ∧ (f { o with link := l }).acceptance = (f o).acceptance

namespace State.Arrives
variable {s : State} {c : Chan} {bytes : List Byte} {f : Frame} {k : Crew} (h : s.Arrives c bytes f k)
include h

section
variable (hno : k.reach ≠ .lost ∨ (s.owedOf k.slot = [] ∧ s.headDeferred k = false))
include hno

theorem records : (s.atEvent.accepting c f k).crews = (s.atEvent.accepted c f k).crews
    ∧ (s.atEvent.accepting c f k).orders = s.orders ∧ (s.atEvent.accepting c f k).permits = s.permits :=
  (State.accepting_noted (s := s.atEvent) (c := c) (f := f) h.stands hno).records

theorem order? (n : Nat) : (s.atEvent.accepting c f k).order? n = s.order? n := congrArg (tFind Order.number n) (h.records hno).2.1

theorem head? : ((s.atEvent.accepting c f k).crew? k.slot).bind (fun k => k.queue.head?) = k.queue.head? := by
  have hcrew : (s.atEvent.accepted c f k).crew? k.slot = some (Crew.accepted s.clock f.header.seq (s.atEvent.busy c ((s.chan c).assembling f)) k) :=
    State.crew?_modCrew (s := s.atEvent.modChan c (Channel.taking f)) (by intro; rfl) h.stands
  rw [State.crew?, (h.records hno).1]
  exact congrArg (fun x : Option Crew => x.bind fun k => k.queue.head?) hcrew

/-- The head of the crew's queue as the telegram is routed. -/
theorem stands_alone {n : Nat} {o : Order} (ho : s.order? n = some o) (hqueue : k.queue = [n])
    (hapart : ∀ k' ∈ s.crews, k'.slot ≠ k.slot → n ∉ k'.queue) :
    (s.atEvent.accepting c f k).HeadStands k.slot n [n] s.priority? o.told := by
  have hbefore : s.atEvent.HeadStands k.slot n [n] s.priority? o.told :=
    ⟨⟨(congrArg (Option.map (·.queue)) h.stands).trans (congrArg some hqueue), rfl⟩, hapart, congrArg (Option.map Order.told) ho⟩
  have htaken : (s.atEvent.modChan c (Channel.taking f)).HeadStands k.slot n [n] s.priority? o.told := hbefore.of_records rfl rfl
  exact (htaken.modCrew k.slot (f := Crew.accepted s.clock f.header.seq (s.atEvent.busy c ((s.chan c).assembling f)))
    (by intro; exact ⟨rfl, fun _ => rfl, id⟩)).of_records (h.records hno).1 (h.records hno).2.1

section
variable {n : Nat} {o : Order} {g : Order → Order} {st : OrderState} (hg : Order.Moves g st) {v : State}
  (hv : v = s.atEvent.accepting c f k ∨ v = (s.atEvent.accepting c f k).withdrawOrder n) {x : Subject}
include hg hv

theorem modOrder_frame : (v.modOrder n g).frame = ((s.atEvent.accepted c f k).modOrder n g).frame := by
  have hrouted := State.modOrder_frame_of_orders (State.accepting_frame (s := s.atEvent) (c := c) (f := f) h.stands) (h.records hno).2.1 n g
  rcases hv with hv | hv
  · rw [hv]
    exact hrouted
  · rw [hv]
    exact (State.withdrawOrder_modOrder_frame fun o l => (hg.link o l).1).trans hrouted

/-- A reply that leaves the order at the head of its queue (R38, R39). -/
theorem order_moved (hroute : (s.atEvent.accepting c f k).route c k ((s.chan c).assembling f)
      = (((v.modOrder n g).post x).check k.slot, 1)) :
    Alike (s.event fun t => t.frameReceived c bytes) ((s.replied c f k 1).modOrder n g) :=
  h.alike (effect := fun u => u.modOrder n g) hroute ((State.orderMoved_frame g x).trans (h.modOrder_frame hno hg hv)) fun _ => rfl

/-- A reply that takes the order from its queue (R38, R40). -/
theorem order_left (hroute : (s.atEvent.accepting c f k).route c k ((s.chan c).assembling f)
      = (((v.modOrder n g).post x).leaveQueue k.slot n, 1)) :
    Alike (s.event fun t => t.frameReceived c bytes) (((s.replied c f k 1).modOrder n g).modCrew k.slot fun k =>
      { k with queue := k.queue.erase n }) := by
  refine h.alike (effect := fun u => (u.modOrder n g).modCrew k.slot fun k => { k with queue := k.queue.erase n }) hroute ?_ fun _ => rfl
  refine (State.orderLeft_frame g x).trans (State.modCrew_frame_congr (h.modOrder_frame hno hg hv) k.slot fun k => ?_)
  simp only [Crew.frame, sort_erase_sort]

theorem order_stands (hroute : (s.atEvent.accepting c f k).route c k ((s.chan c).assembling f)
      = (((v.modOrder n g).post x).check k.slot, 1)) (hst : st ≠ .assigned ∧ st ≠ .sent) (hx : x.isAlarm = false)
    (ho : s.order? n = some o) (hqueue : k.queue = [n]) (hapart : ∀ k' ∈ s.crews, k'.slot ≠ k.slot → n ∉ k'.queue) :
    ((s.event fun t => t.frameReceived c bytes).order? n).map (fun o => (o.state, o.acceptance, o.unanswered))
      = some (st, (g o).acceptance, o.unanswered) := by
  have hrouted := h.stands_alone hno ho hqueue hapart
  have ho' := (h.order? hno n).trans ho
  have hone : ∃ o', v.order? n = some o' ∧ v.HeadStands k.slot n [n] s.priority? o'.told ∧ (g o').acceptance = (g o).acceptance
      ∧ o'.unanswered = o.unanswered := by
    rcases hv with hv | hv
    · rw [hv]
      exact ⟨o, ho', hrouted, rfl, rfl⟩
    · obtain ⟨l, hl, hstands⟩ := State.withdrawOrder_stands ho' hrouted
      rw [hv]
      exact ⟨_, hl, hstands, (hg.link o l).2, rfl⟩
  obtain ⟨o', ho'', hstands, hacceptance, hunanswered⟩ := hone
  have hstate : (g o').state ≠ .assigned ∧ (g o').state ≠ .sent := by rw [hg.state]; exact hst
  have hmoved := State.orderMoved_stands ho'' hstands (calm_single _ n) (f := g) (fun o => ⟨(hg.kept o).1, (hg.kept o).2.1⟩) hstate hx
  have hafter : (s.event fun t => t.frameReceived c bytes).HeadStands k.slot n [n] s.priority? (g o').told := by
    refine (headStands_spared (calm_single _ n) hstate.1 hstate.2).event ?_
    rw [h.atEvent.work hroute]
    exact hmoved.of_records rfl rfl
  obtain ⟨r, hr, heq⟩ := Option.map_eq_some_iff.1 hafter.record
  simp only [Order.told, Prod.mk.injEq] at heq
  obtain ⟨hrstate, -, hracceptance, -, hrunanswered, -⟩ := heq
  refine (congrArg (Option.map _) hr).trans (congrArg some ?_)
  simp only [Prod.mk.injEq]
  exact ⟨hrstate.trans (hg.state o'), hracceptance.trans hacceptance, hrunanswered.trans ((hg.kept o').2.2.trans hunanswered)⟩

end
end
end State.Arrives

namespace State.Arrives
variable {s : State} {c : Chan} {bytes : List Byte} {f : Frame} {k : Crew} (h : s.Arrives c bytes f k)
  {hi lo x : Byte} (hbody : ((s.chan c).assembling f).body = [hi, lo, x]) (hkind : ((s.chan c).assembling f).kind = kindOrderReply)
include h hbody hkind

/-- A reply that the order table does not take (R38). -/
theorem reply_ignored (hreach : k.reach ≠ .lost)
    (hno : ∀ o, s.order? (be16 hi lo) = some o → k.queue.head? = some (be16 hi lo) → ¬ o.state.takes x.toNat) :
    Alike (s.event fun t => t.frameReceived c bytes) (s.replied c f k 1) := by
  obtain ⟨y, hy⟩ := State.orderReply_of_ignored (s := s.atEvent.accepting c f k) (slot := k.slot) (n := be16 hi lo) (reply := x.toNat)
    fun o ho hhead => hno o ((h.order? (.inl hreach) _).symm.trans ho) ((h.head? (.inl hreach)).symm.trans hhead)
  exact h.alike_kept (State.route_reply hbody hkind) (by rw [hy]; exact State.post_frame _ _)

variable {o : Order} (ho : s.order? (be16 hi lo) = some o) (hhead : k.queue.head? = some (be16 hi lo))
  (htakes : o.state.takes x.toNat) (howed : k.reach ≠ .lost ∨ s.owedOf k.slot = [])
include ho hhead htakes howed

omit h hbody hkind in
theorem reply_quiet : k.reach ≠ .lost ∨ (s.owedOf k.slot = [] ∧ s.headDeferred k = false) :=
  howed.imp id fun hnone => ⟨hnone, Order.headDeferred_of_takes ho hhead htakes⟩

omit hbody hkind in
/-- What the order table finds as the reply is routed. -/
theorem reply_finds : (s.atEvent.accepting c f k).order? (be16 hi lo) = some o
    ∧ ((s.atEvent.accepting c f k).crew? k.slot).bind (fun k => k.queue.head?) = some (be16 hi lo) := by
  have hquiet := State.Arrives.reply_quiet ho hhead htakes howed
  exact ⟨(h.order? hquiet _).trans ho, (h.head? hquiet).trans hhead⟩

/-- A reply that leaves the order at the head of its queue, as obligations tell it. -/
theorem reply_moves {g : Order → Order} {st : OrderState} (hg : Order.Moves g st) (hst : st ≠ .assigned ∧ st ≠ .sent) {v : State}
    (hv : v = s.atEvent.accepting c f k ∨ v = (s.atEvent.accepting c f k).withdrawOrder (be16 hi lo)) {y : Subject} (hy : y.isAlarm = false)
    (hroute : (s.atEvent.accepting c f k).orderReply k.slot (be16 hi lo) x.toNat = ((v.modOrder (be16 hi lo) g).post y).check k.slot) :
    Alike (s.event fun t => t.frameReceived c bytes) ((s.replied c f k 1).modOrder (be16 hi lo) g)
      ∧ (k.queue = [be16 hi lo] → (∀ k' ∈ s.crews, k'.slot ≠ k.slot → be16 hi lo ∉ k'.queue) →
        ((s.event fun t => t.frameReceived c bytes).order? (be16 hi lo)).map (fun o => (o.state, o.acceptance, o.unanswered))
          = some (st, (g o).acceptance, o.unanswered)) := by
  have hquiet := State.Arrives.reply_quiet ho hhead htakes howed
  have hroute := (State.route_reply (c := c) hbody hkind).trans (congrArg (fun t => (t, 1)) hroute)
  exact ⟨h.order_moved hquiet hg hv hroute, fun hqueue hapart => h.order_stands hquiet hg hv hroute hst hy ho hqueue hapart⟩

/-- A reply that takes the order from its queue, as obligations tell it. -/
theorem reply_leaves {g : Order → Order} {st : OrderState} (hg : Order.Moves g st) {v : State}
    (hv : v = s.atEvent.accepting c f k ∨ v = (s.atEvent.accepting c f k).withdrawOrder (be16 hi lo)) {y : Subject}
    (hroute : (s.atEvent.accepting c f k).orderReply k.slot (be16 hi lo) x.toNat
      = ((v.modOrder (be16 hi lo) g).post y).leaveQueue k.slot (be16 hi lo)) :
    Alike (s.event fun t => t.frameReceived c bytes) (((s.replied c f k 1).modOrder (be16 hi lo) g).modCrew k.slot fun k =>
      { k with queue := k.queue.erase (be16 hi lo) }) :=
  h.order_left (State.Arrives.reply_quiet ho hhead htakes howed) hg hv
    ((State.route_reply (c := c) hbody hkind).trans (congrArg (fun t => (t, 1)) hroute))

theorem reply_accept (hreply : x.toNat = 1) :
    Alike (s.event fun t => t.frameReceived c bytes) ((s.replied c f k 1).modOrder (be16 hi lo) fun o =>
        { o with state := .accepted, acceptance := none })
      ∧ (k.queue = [be16 hi lo] → (∀ k' ∈ s.crews, k'.slot ≠ k.slot → be16 hi lo ∉ k'.queue) →
        ((s.event fun t => t.frameReceived c bytes).order? (be16 hi lo)).map (fun o => (o.state, o.acceptance, o.unanswered))
          = some (.accepted, none, o.unanswered)) := by
  obtain ⟨ho', hhead'⟩ := h.reply_finds ho hhead htakes howed
  have hst : o.state = .sent ∨ o.state = .delivered := by simpa [OrderState.takes, hreply] using htakes
  have hwork := State.orderReply_accept ho' hhead' hst
  rw [State.replyAccept, State.number_of_order? ho, ← hreply] at hwork
  exact h.reply_moves hbody hkind ho hhead htakes howed (g := fun o => { o with state := .accepted, acceptance := none })
    ⟨by intro; exact ⟨rfl, rfl, rfl⟩, by intro; rfl, by intro _ _; exact ⟨rfl, rfl⟩⟩ ⟨nofun, nofun⟩ (.inr rfl) rfl hwork

theorem reply_decline (hreply : x.toNat = 2) :
    Alike (s.event fun t => t.frameReceived c bytes) (((s.replied c f k 1).modOrder (be16 hi lo) fun o =>
        { o with state := .returned, returned := some .declined, crew := none, acceptance := none }).modCrew k.slot fun k =>
      { k with queue := k.queue.erase (be16 hi lo) }) := by
  obtain ⟨ho', hhead'⟩ := h.reply_finds ho hhead htakes howed
  have hst : o.state = .sent ∨ o.state = .delivered := by simpa [OrderState.takes, hreply] using htakes
  have hwork := State.orderReply_decline ho' hhead' hst
  rw [State.replyDecline, State.number_of_order? ho, ← hreply] at hwork
  exact h.reply_leaves hbody hkind ho hhead htakes howed
    (g := fun o => { o with state := .returned, returned := some .declined, crew := none, acceptance := none })
    ⟨by intro; exact ⟨rfl, rfl, rfl⟩, by intro; rfl, by intro _ _; exact ⟨rfl, rfl⟩⟩ (.inr rfl) hwork

omit hbody hkind in
/-- Whether the crew may work is as it was before the reply (R39). -/
theorem reply_mayWork : (s.atEvent.accepting c f k).mayWork k.slot o = true ↔ ∀ serial, o.bound = some serial →
    ∃ p, s.permit? serial = some p ∧ p.state = .inForce ∧ p.holder = k.slot := by
  have hpermits := (h.records (State.Arrives.reply_quiet ho hhead htakes howed)).2.2
  have hpermit (serial : Nat) : (s.atEvent.accepting c f k).permit? serial = s.permit? serial :=
    congrArg (tFind Permit.serial serial) hpermits
  cases hbound : o.bound with
  | none => simp [State.mayWork, hbound]
  | some serial =>
    simp only [State.mayWork, hbound, hpermit, Option.any_eq_true, Bool.and_eq_true, beq_iff_eq, Option.some.injEq, forall_eq']

theorem reply_onSite (hreply : x.toNat = 3) {st : OrderState}
    (hst : (if (s.atEvent.accepting c f k).mayWork k.slot o then OrderState.working else .blocked) = st) :
    Alike (s.event fun t => t.frameReceived c bytes) ((s.replied c f k 1).modOrder (be16 hi lo) fun o => { o with state := st })
      ∧ (k.queue = [be16 hi lo] → (∀ k' ∈ s.crews, k'.slot ≠ k.slot → be16 hi lo ∉ k'.queue) →
        ((s.event fun t => t.frameReceived c bytes).order? (be16 hi lo)).map (fun o => (o.state, o.acceptance, o.unanswered))
          = some (st, o.acceptance, o.unanswered)) := by
  obtain ⟨ho', hhead'⟩ := h.reply_finds ho hhead htakes howed
  have haccepted : o.state = .accepted := by simpa [OrderState.takes, hreply] using htakes
  have hwork := State.orderReply_onSite ho' hhead' haccepted
  rw [State.replyOnSite, State.number_of_order? ho, ← hreply] at hwork
  rw [hst] at hwork
  have hnew : st ≠ .assigned ∧ st ≠ .sent := by
    rw [← hst]
    split <;> exact ⟨nofun, nofun⟩
  exact h.reply_moves hbody hkind ho hhead htakes howed (g := fun o => { o with state := st })
    ⟨by intro; exact ⟨rfl, rfl, rfl⟩, by intro; rfl, by intro _ _; exact ⟨rfl, rfl⟩⟩ hnew (.inl rfl) rfl hwork

theorem reply_complete (hreply : x.toNat = 4) :
    Alike (s.event fun t => t.frameReceived c bytes) (((s.replied c f k 1).modOrder (be16 hi lo) fun o =>
        { o with state := .complete }).modCrew k.slot fun k => { k with queue := k.queue.erase (be16 hi lo) }) := by
  obtain ⟨ho', hhead'⟩ := h.reply_finds ho hhead htakes howed
  have hst : o.state = .working := by simpa [OrderState.takes, hreply] using htakes
  have hwork := State.orderReply_complete ho' hhead' hst
  rw [State.replyComplete, State.number_of_order? ho, ← hreply] at hwork
  exact h.reply_leaves hbody hkind ho hhead htakes howed (g := fun o => { o with state := .complete })
    ⟨by intro; exact ⟨rfl, rfl, rfl⟩, by intro; rfl, by intro _ _; exact ⟨rfl, rfl⟩⟩ (.inl rfl) hwork

theorem reply_unable (hreply : x.toNat = 5) :
    Alike (s.event fun t => t.frameReceived c bytes) (((s.replied c f k 1).modOrder (be16 hi lo) fun o =>
        { o with state := .returned, returned := some .unable }).modCrew k.slot fun k => { k with queue := k.queue.erase (be16 hi lo) }) := by
  obtain ⟨ho', hhead'⟩ := h.reply_finds ho hhead htakes howed
  have hst : o.state = .accepted ∨ o.state = .blocked ∨ o.state = .working := by simpa [OrderState.takes, hreply] using htakes
  have hwork := State.orderReply_unable ho' hhead' hst
  rw [State.replyUnable, State.number_of_order? ho, ← hreply] at hwork
  exact h.reply_leaves hbody hkind ho hhead htakes howed (g := fun o => { o with state := .returned, returned := some .unable })
    ⟨by intro; exact ⟨rfl, rfl, rfl⟩, by intro; rfl, by intro _ _; exact ⟨rfl, rfl⟩⟩ (.inl rfl) hwork

end State.Arrives

end Sys2Proof.Machine
end

section
/-!
What a crew's STEP_REPORT and SURRENDER bring (R72 to R76, R82, R83, R92).
-/

namespace Sys2Proof.Machine
/-! ### STEP_REPORT (R72 to R76) -/

theorem Device.applyDone_waits (d : Device) : d.applyDone.waits = d.waits := by
  rw [Device.applyDone]
  split
  · rfl
  · split <;> rfl

/-- A permit whose outstanding instruction is reported done: it is dropped, and the stack grows or shrinks (R73). -/
def Permit.reported (i : Outstanding) (p : Permit) : Permit :=
  { p with
    outstanding := none
    stack := match i.role with
      | .isolation => (i.device, i.action) :: p.stack
      | .restoration => p.stack.drop 1 }

section
variable {s : State} {serial : Nat} {p : Permit} {i : Outstanding} (hp : s.permit? serial = some p) (hout : p.outstanding = some i)
include hp hout

/-- An instruction reported done, its device freed for no other permit but those that wait (R58, R73). -/
theorem State.releaseDone_record {d : Device} (hd : s.device? i.device = some d) (hno : serial ∉ d.waits) :
    ∃ q, (s.releaseDone serial).permit? serial = some q ∧ q.frame = (p.reported i).frame
      ∧ (d.waits = [] → (s.releaseDone serial).device? i.device = some { d.applyDone with pending := none }) := by
  generalize hs1 : (s.modDevice i.device Device.applyDone).modPermit serial (fun p =>
    match i.role with
    | .isolation => { p with stack := (i.device, i.action) :: p.stack }
    | .restoration => { p with stack := p.stack.drop 1 }) = s1
  have hrelease : s.releaseDone serial = (s1.freeDevice i.device).dropInstruction serial := by
    simp only [State.releaseDone, hp, Option.bind_some, hout, ← hs1] <;> rfl
  have hd1 : s1.device? i.device = some d.applyDone := by
    rw [← hs1]
    exact State.device?_modDevice (s := s) (f := Device.applyDone) Device.applyDone_number hd
  have hp1 : ∃ p1, s1.permit? serial = some p1 ∧ ({ p1 with outstanding := none } : Permit) = p.reported i := by
    rw [← hs1]
    refine ⟨_, State.permit?_modPermit (s := s.modDevice i.device Device.applyDone) (by intro p; split <;> rfl) hp, ?_⟩
    rw [Permit.reported]
    cases i.role <;> rfl
  obtain ⟨p1, hp1, hreported⟩ := hp1
  have hspared := s1.freeDevice_spared i.device
  have hkept := hspared.permits serial (by rw [hd1]; exact (congrArg (serial ∈ ·) d.applyDone_waits ▸ hno))
  rw [hp1] at hkept
  obtain ⟨q1, hq1, hq1frame⟩ := Option.map_eq_some_iff.1 hkept
  have hdrop := State.frameWatch_of_frame ((s1.freeDevice i.device).dropInstruction_frame serial)
  obtain ⟨q, hq, hqframe⟩ := State.permit?_of_frameWatch_some hdrop
    (State.permit?_modPermit (f := fun p => { p with outstanding := none }) (fun _ => rfl) hq1)
  rw [hrelease]
  refine ⟨q, hq, ?_, fun hwaits => ?_⟩
  · rw [hqframe, ← hreported]
    exact congrArg (fun f : Permit => ({ f with outstanding := none } : Permit)) hq1frame
  · have hfreed := State.freeDevice_of_no_waits hd1 (d.applyDone_waits.trans hwaits)
    rw [State.device?_of_frameWatch hdrop]
    refine (congrArg (fun t : State => t.device? i.device) hfreed).trans ?_
    exact State.device?_modDevice (f := fun d => { d with pending := none }) (fun _ => rfl) hd1

theorem State.releaseUnreported_device {d : Device} (hd : s.device? i.device = some d) (hwaits : d.waits = []) :
    (s.releaseUnreported serial).device? i.device = some { d with pending := none } := by
  have hrelease : s.releaseUnreported serial = ((s.freeDevice i.device).dropInstruction serial).modPermit serial fun p =>
      { p with lastReleased := some i.index } := by
    simp only [State.releaseUnreported, hp, Option.bind_some, hout]
  rw [hrelease]
  refine (State.device?_of_frameWatch (State.frameWatch_of_frame ((s.freeDevice i.device).dropInstruction_frame serial)) i.device).trans ?_
  rw [State.freeDevice_of_no_waits hd hwaits]
  exact State.device?_modDevice (f := fun d => { d with pending := none }) (fun _ => rfl) hd

end

/-- An issue called for, or owed under alarm hold (R78, R94). -/
theorem State.callIssue_record {s : State} {serial : Nat} {p : Permit} (hp : s.permit? serial = some p) :
    ∃ p', (s.callIssue serial).permit? serial = some p' ∧ p'.state = p.state ∧ p'.stack = p.stack ∧ p'.k = p.k
      ∧ (p.outstanding = none → p'.outstanding = none) ∧ (p.hold = false → p'.issueCount = p.issueCount + 1)
      ∧ (p.hold = true → p'.issueCount = p.issueCount ∧ p'.issueOwed = true)
      ∧ ∀ n, (s.callIssue serial).device? n = s.device? n := by
  cases hhold : p.hold with
  | true =>
    rw [State.callIssue_of_hold hp hhold]
    exact ⟨_, State.permit?_modPermit (by intro; rfl) hp, rfl, rfl, rfl, id, nofun, fun _ => ⟨rfl, rfl⟩, fun _ => rfl⟩
  | false =>
    have hissue := State.frameWatch_of_frame (State.issuePermit_frame s serial)
    rw [State.callIssue_of_free hp hhold]
    obtain ⟨p', hp', hframe⟩ := State.permit?_of_frameWatch_some hissue (State.permit?_modPermit (by intro; rfl) hp)
    refine ⟨p', hp', (congrArg Permit.state hframe :), (congrArg Permit.stack hframe :), (congrArg Permit.k hframe :), fun hout => ?_,
      fun _ => (congrArg Permit.issueCount hframe :), nofun, fun n => (State.device?_of_frameWatch hissue n).trans rfl⟩
    have hmap := congrArg Permit.outstanding hframe
    simpa [Permit.frame, hout] using hmap

/-- A permit whose restoration begins keeps its cancel wait. -/
theorem State.beginRestoration_cancelWait {s : State} {serial : Nat} {p : Permit} (hp : s.permit? serial = some p) (cause : PermitCause) :
    ∃ p', (s.beginRestoration serial cause).permit? serial = some p' ∧ p'.cancelWait = p.cancelWait := by
  simp only [State.beginRestoration, hp]
  split
  · obtain ⟨p', hp', hframe⟩ := State.permit?_of_frameWatch_some (State.closePermit_frameWatch hp cause)
      (State.permit?_modPermit (f := Permit.closedOff) (fun _ => rfl) (show (s.leaveWaits serial).permit? serial = some p from hp))
    exact ⟨p', hp', (congrArg Permit.cancelWait hframe :)⟩
  · obtain ⟨p', hp', hclaims⟩ := State.claimNext_claims (s := s) rfl hp
    exact ⟨p', hp', (congrArg Permit.cancelWait hclaims.core :)⟩

section
variable {s : State} {serial : Nat} {p : Permit} {i : Outstanding} {d : Device} (hp : s.permit? serial = some p)
  (hout : p.outstanding = some i)
include hp hout

/-- A report on an instruction whose permit was cancelled ends the wait for it (R92). -/
theorem State.report_cancelled (hd : s.device? i.device = some d) (hno : serial ∉ d.waits) (hwait : p.cancelWait = true) :
    (∃ p', (s.reportDone serial).permit? serial = some p' ∧ p'.cancelWait = false)
      ∧ ∃ p', (s.reportUnable serial).permit? serial = some p' ∧ p'.cancelWait = false := by
  obtain ⟨q, hq, -⟩ := State.releaseDone_record hp hout hd hno
  obtain ⟨r, hr, -⟩ := State.releaseUnreported_record hp hout
  constructor
  · simp only [State.reportDone, hp, if_pos hwait]
    exact State.beginRestoration_cancelWait (State.permit?_modPermit (f := fun p => { p with k := p.k + 1, cancelWait := false })
      (fun _ => rfl) hq) .restored
  · simp only [State.reportUnable, hp, if_pos hwait]
    exact State.beginRestoration_cancelWait (State.permit?_modPermit (f := fun p => { p with cancelWait := false }) (fun _ => rfl) hr) .restored

/-- An instruction that the crew is unable to carry out stalls its permit (R75). -/
theorem State.reportUnable_stalled (hwait : p.cancelWait = false) : ∃ p', (s.reportUnable serial).permit? serial = some p'
    ∧ p'.state = .stalled ∧ p'.stall = some (p.state.phase, .unable) ∧ p'.outstanding = none ∧ p'.lastReleased = some i.index
    ∧ p'.stack = p.stack ∧ p'.k = p.k
    ∧ (s.device? i.device = some d → d.waits = [] → (s.reportUnable serial).device? i.device = some { d with pending := none }) := by
  obtain ⟨q, hq, hqout, hlast, hcore, -⟩ := State.releaseUnreported_record hp hout
  have hwork : s.reportUnable serial = (s.releaseUnreported serial).stall serial p.state.phase .unable := by
    simp only [State.reportUnable, hp, hwait]
    rfl
  rw [hwork]
  refine ⟨_, State.stall_record hq _ _, rfl, rfl, hqout, hlast, (congrArg Permit.stack hcore :), (congrArg Permit.k hcore :),
    fun hd hwaits => ?_⟩
  rw [State.stall_of_permit? _ _ hq]
  refine (congrArg (tFind Device.number i.device) (State.post_devices _ _)).trans ?_
  refine ((s.releaseUnreported serial).device?_leaveWaits serial i.device).trans ?_
  rw [State.releaseUnreported_device hp hout hd hwaits]
  simp only [Option.map_some, hwaits, List.erase_nil]

variable (hd : s.device? i.device = some d) (hno : serial ∉ d.waits) (hwait : p.cancelWait = false)
include hd hno hwait

/-- A restoration reported done (R74, R85). -/
theorem State.reportDone_restoration (hst : p.state = .restoring) (hrole : i.role = .restoration) :
    ∃ p', (s.reportDone serial).permit? serial = some p' ∧ p'.stack = p.stack.drop 1
      ∧ p'.state = (if p.stack.drop 1 = [] then .closed else .restoring)
      ∧ (d.waits = [] → (∀ e, p.stack[1]? = some e → e.1 ≠ i.device) →
        (s.reportDone serial).device? i.device = some { d.applyDone with pending := none }) := by
  obtain ⟨q, hq, hqframe, hdevice⟩ := State.releaseDone_record hp hout hd hno
  have hwork : s.reportDone serial = (s.releaseDone serial).beginRestoration serial .restored := by
    simp only [State.reportDone, hp, hwait, hst, if_true]
    rfl
  have hqstate : q.state = .restoring := (congrArg Permit.state hqframe :).trans hst
  have hqstack : q.stack = p.stack.drop 1 := (congrArg Permit.stack hqframe :).trans (by simp only [Permit.frame, Permit.reported, hrole])
  obtain ⟨p', hp', hrestoring⟩ := State.beginRestoration_restoring (s := s.releaseDone serial) rfl hq hqstate .restored
  have hstate := hrestoring.state hqstate
  rw [hqstack] at hstate
  rw [hwork]
  refine ⟨p', hp', hrestoring.kept.1.trans hqstack, hstate, fun hwaits hnext => ?_⟩
  refine hrestoring.devices _ _ (hdevice hwaits) (d.applyDone_waits.trans hwaits) fun e he => hnext e ?_
  rw [hqstack] at he
  rw [← he]
  simp

/-- An isolation reported done (R73, R77). -/
theorem State.reportDone_isolation (hst : p.state = .switching) (hrole : i.role = .isolation) :
    ∃ p', (s.reportDone serial).permit? serial = some p' ∧ p'.k = p.k + 1 ∧ p'.stack = (i.device, i.action) :: p.stack
      ∧ (p.k + 1 = p.steps.length → p'.state = .issuing ∧ p'.outstanding = none)
      ∧ (p.k + 1 ≠ p.steps.length → p'.state = .switching ∨ (p'.state = .stalled ∧ p'.stall = some (.switching, .tagLimit)))
      ∧ (d.waits = [] → (∀ step, p.steps[p.k + 1]? = some step → step.device ≠ i.device) →
        (s.reportDone serial).device? i.device = some { d.applyDone with pending := none }) := by
  obtain ⟨q, hq, hqframe, hdevice⟩ := State.releaseDone_record hp hout hd hno
  have hq1 := State.permit?_modPermit (f := fun p => { p with k := p.k + 1 }) (fun _ => rfl) hq
  have hqk : q.k = p.k := (congrArg Permit.k hqframe :)
  have hqstate : q.state = .switching := (congrArg Permit.state hqframe :).trans hst
  have hqsteps : q.steps = p.steps := (congrArg Permit.steps hqframe :)
  have hqstack : q.stack = (i.device, i.action) :: p.stack :=
    (congrArg Permit.stack hqframe :).trans (by simp only [Permit.frame, Permit.reported, hrole])
  have hqout : q.outstanding = none := Option.map_eq_none_iff.1 (congrArg Permit.outstanding hqframe :)
  have hnot : ¬ p.state = .restoring := by rw [hst]; nofun
  by_cases hlast : p.k + 1 = p.steps.length
  · have hwork : s.reportDone serial = (((s.releaseDone serial).modPermit serial fun p => { p with k := p.k + 1 }).setPermitState serial
        .issuing .stepsDone).callIssue serial := by
      simp only [State.reportDone, hp, hwait, hnot, if_false, if_pos hlast, Bool.false_eq_true]
    have hset := State.setPermitState_frameWatch hq1 .issuing .stepsDone
    obtain ⟨q2, hq2, hq2frame⟩ := State.permit?_of_frameWatch_some hset
      (State.permit?_modPermit (f := fun p => { p with state := .issuing }) (fun _ => rfl) hq1)
    obtain ⟨p', hp', hstate, hstack, hk, hnone, -, -, hdevices⟩ := State.callIssue_record hq2
    rw [hwork]
    refine ⟨p', hp', hk.trans ((congrArg Permit.k hq2frame :).trans (congrArg (· + 1) hqk)),
      hstack.trans ((congrArg Permit.stack hq2frame :).trans hqstack), fun _ => ⟨hstate.trans (congrArg Permit.state hq2frame :), hnone ?_⟩,
      fun h => absurd hlast h, fun hwaits _ => ?_⟩
    · have hmap := congrArg Permit.outstanding hq2frame
      simpa [Permit.frame, hqout] using hmap
    · rw [hdevices, State.device?_of_frameWatch hset]
      exact hdevice hwaits
  · have hwork : s.reportDone serial = (((s.releaseDone serial).modPermit serial fun p => { p with k := p.k + 1 }).claimNext serial).1 := by
      simp only [State.reportDone, hp, hwait, hnot, if_false, if_neg hlast, Bool.false_eq_true]
    obtain ⟨p', hp', hclaims⟩ := State.claimNext_claims (s := (s.releaseDone serial).modPermit serial fun p => { p with k := p.k + 1 })
      rfl hq1
    have hcore := hclaims.core
    rw [hwork]
    refine ⟨p', hp', (congrArg Permit.k hcore :).trans (congrArg (· + 1) hqk), (congrArg Permit.stack hcore :).trans hqstack,
      fun h => absurd h hlast, fun _ => ?_, fun hwaits hnext => ?_⟩
    · by_cases hlimit : ((s.releaseDone serial).modPermit serial fun p => { p with k := p.k + 1 }).atLimit { q with k := q.k + 1 }
      · exact .inr (hclaims.of_limit hlimit)
      · exact .inl ((hclaims.of_not_limit hlimit).1.trans hqstate)
    · refine State.claimNext_device?_other hq1 (hdevice hwaits) (d.applyDone_waits.trans hwaits) fun n what hwants => ?_
      rw [Permit.wants] at hwants
      simp only [hqstate, hqsteps, hqk] at hwants
      obtain ⟨step, hstep, heq⟩ := Option.map_eq_some_iff.1 hwants
      cases heq
      exact hnext step hstep

end

/-! ### STEP_REPORT of a crew (R72 to R76) -/

theorem State.modChan_framePermits_congr {s t : State} (h : t.framePermits = s.framePermits) (c : Chan) {g : Channel → Channel}
    (hg : ∀ ch, (g ch).frame = (g ch.frame).frame) : (t.modChan c g).framePermits = (s.modChan c g).framePermits := by
  have hchans : t.chans.map Channel.frame = s.chans.map Channel.frame := (congrArg State.chans h :)
  have hone (u : State) : (u.chans.set c (g (u.chans.get c))).map Channel.frame
      = (u.chans.map Channel.frame).set c (g ((u.chans.map Channel.frame).get c)).frame := by
    rw [Four.map_set, Four.get_map, hg]
  have hset : (t.chans.set c (g (t.chans.get c))).map Channel.frame = (s.chans.set c (g (s.chans.get c))).map Channel.frame := by
    rw [hone, hone, hchans]
  exact congrArg₂ (fun (u : State) (x : Four Channel) => ({ u with chans := x } : State)) h hset

section
variable {s : State} {c : Chan} {f : Frame} {k : Crew} (hk : s.crew? k.slot = some k)
include hk

theorem State.accepting_permit? {serial : Nat} {p : Permit} (hp : s.permit? serial = some p) :
    ∃ q, (s.accepting c f k).permit? serial = some q ∧ q.frame = p.frame :=
  State.permit?_of_frameWatch_some (State.frameWatch_of_frame (State.accepting_frame hk)) (s0 := s.accepted c f k) hp

theorem State.accepting_permit?_of {serial : Nat} {q : Permit} (hq : (s.accepting c f k).permit? serial = some q) :
    ∃ p, s.permit? serial = some p ∧ q.frame = p.frame := by
  obtain ⟨p, hp, hframe⟩ := State.permit?_of_frameWatch_some (State.frameWatch_of_frame (State.accepting_frame (c := c) (f := f) hk)).symm hq
  exact ⟨p, hp, hframe.symm⟩

theorem State.accepting_device? (n : Nat) : (s.accepting c f k).device? n = s.device? n :=
  (State.device?_of_frameWatch (State.frameWatch_of_frame (State.accepting_frame hk)) n).trans rfl

end

/-- An outstanding instruction is the same in permits alike, but for how far its telegram has come. -/
theorem Permit.outstanding_of_frame {p q : Permit} {i : Outstanding} (h : q.frame = p.frame) (hout : p.outstanding = some i) :
    ∃ j : Outstanding, q.outstanding = some j ∧ j.index = i.index ∧ j.device = i.device ∧ j.role = i.role ∧ j.action = i.action := by
  have hmap : q.outstanding.map (fun i => { i with status := .queued }) = p.outstanding.map (fun i => { i with status := .queued }) :=
    (congrArg Permit.outstanding h :)
  rw [hout] at hmap
  obtain ⟨j, hj, heq⟩ := Option.map_eq_some_iff.1 hmap
  exact ⟨j, hj, (congrArg Outstanding.index heq :), (congrArg Outstanding.device heq :), (congrArg Outstanding.role heq :),
    (congrArg Outstanding.action heq :)⟩

theorem Permit.outstanding_none_of_frame {p q : Permit} (h : q.frame = p.frame) (hout : p.outstanding = none) : q.outstanding = none := by
  have hmap : q.outstanding.map (fun i => { i with status := .queued }) = p.outstanding.map (fun i => { i with status := .queued }) :=
    (congrArg Permit.outstanding h :)
  rw [hout] at hmap
  exact Option.map_eq_none_iff.1 hmap

section
variable {s : State} {slot serial index outcome : Nat}

/-- A report on no instruction outstanding posts its notice alone (R72, R76). -/
theorem State.stepReport_of_ignored (hno : ∀ p i, s.permit? serial = some p → p.holder = slot → outcome = 1 ∨ outcome = 2 →
    p.outstanding = some i → i.index ≠ index) : (s.stepReport slot serial index outcome).frame = s.frame := by
  rw [State.stepReport]
  dsimp only
  split
  · exact State.post_frame _ _
  next p hp =>
    split
    · exact State.post_frame _ _
    next hholder =>
      split
      · exact State.post_frame _ _
      next houtcome =>
        split
        next hmatch =>
          obtain ⟨i, hout, hindex⟩ := (Option.any_eq_true _ _).1 hmatch
          exact absurd (beq_iff_eq.1 hindex) (hno p i hp (not_not.1 hholder) (by omega) hout)
        · split
          · exact State.post_frame _ _
          · exact State.post_frame _ _

/-- A report on the instruction outstanding (R72). -/
theorem State.stepReport_of_outstanding {p : Permit} {i : Outstanding} (hp : s.permit? serial = some p) (hholder : p.holder = slot)
    (hout : p.outstanding = some i) (hindex : i.index = index) (houtcome : outcome = 1 ∨ outcome = 2) :
    s.stepReport slot serial index outcome = if outcome = 1 then s.reportDone serial else s.reportUnable serial := by
  have hknown : ¬ (outcome ≠ 1 ∧ outcome ≠ 2) := fun h => houtcome.elim h.1 h.2
  have hmatch : (p.outstanding.any fun i => i.index == index) = true := by simpa [hout] using hindex
  simp only [State.stepReport, hp, hholder, ne_eq, not_true, if_false, if_neg hknown, hmatch, if_true]

end

theorem State.accepted_answering {s : State} {c : Chan} {f : Frame} {k : Crew} {code : Nat} : (s.accepted c f k).modChan c
    (Channel.answering f .finish code (fullMap (blockCount f.header.len)) none) = s.replied c f k code :=
  congrArg (fun t : State => t.modCrew k.slot (Crew.accepted s.clock f.header.seq (s.busy c ((s.chan c).assembling f)))) State.taking_answering

namespace State.Arrives
variable {s : State} {c : Chan} {bytes : List Byte} {f : Frame} {k : Crew} (h : s.Arrives c bytes f k)
include h

section
variable {t : State} {code : Nat} (hroute : (s.atEvent.accepting c f k).route c k ((s.chan c).assembling f) = (t, code))
include hroute

/-- A permit after a telegram is as its routing leaves it, but for its telegrams. -/
theorem permit?_after {serial : Nat} {q : Permit} (hq : t.permit? serial = some q) :
    ∃ p', (s.event fun t => t.frameReceived c bytes).permit? serial = some p' ∧ p'.frame = q.frame := by
  refine Option.map_eq_some_iff.1 ((State.event_permit?_frame _ _).trans ?_)
  rw [h.atEvent.work hroute]
  exact congrArg (Option.map Permit.frame) hq

theorem device?_after (n : Nat) : (s.event fun t => t.frameReceived c bytes).device? n = t.device? n := by
  rw [State.event_eq, State.settle_device?, State.device?_of_frameWatch (State.frameWatch_of_frame (State.giveSignals_frame _)),
    h.atEvent.work hroute]
  rfl

theorem permit?_routed {serial : Nat} {p : Permit} (hp : s.permit? serial = some p) : ∃ q, t.permit? serial = some q := by
  have hshape : (s.atEvent.frameReceived c bytes).shape = s.shape := (s.atEvent.frameReceived_keeps c bytes).shape
  rw [h.atEvent.work hroute] at hshape
  have hserials : t.permits.map (·.serial) = s.permits.map (·.serial) := (congrArg Shape.serials hshape :)
  refine Option.isSome_iff_exists.1 (State.permit?_isSome_iff.2 ?_)
  rw [hserials]
  exact State.permit?_isSome_iff.1 (by rw [hp]; rfl)

theorem alike_but_permits (ht : t.framePermits = (s.atEvent.accepting c f k).framePermits) :
    AlikeButPermits (s.event fun t => t.frameReceived c bytes) (s.replied c f k code) := by
  have haccepted := State.framePermits_of_frame (State.accepting_frame (s := s.atEvent) (c := c) (f := f) h.stands)
  refine State.event_alikeButPermits ?_
  rw [h.atEvent.work hroute, State.modChan_framePermits_congr (ht.trans haccepted) c fun _ => rfl]
  rw [State.accepted_answering (s := s.atEvent)]
  exact State.framePermits_of_frame (State.replied_atEvent code)

end

variable {hi lo x y : Byte} (hbody : ((s.chan c).assembling f).body = [hi, lo, x, y])

section
variable (hkind : ((s.chan c).assembling f).kind = kindStepReport)
include hbody hkind

theorem report_ignored (hno : ∀ p i, s.permit? (be16 hi lo) = some p → p.holder = k.slot → y.toNat = 1 ∨ y.toNat = 2 →
    p.outstanding = some i → i.index ≠ x.toNat) : Alike (s.event fun t => t.frameReceived c bytes) (s.replied c f k 1) := by
  refine h.alike_kept (State.route_report hbody hkind) (State.stepReport_of_ignored fun q j hq hholder houtcome hout => ?_)
  obtain ⟨p, hp, hframe⟩ := State.accepting_permit?_of (s := s.atEvent) h.stands hq
  obtain ⟨i, hi', hindex, -⟩ := Permit.outstanding_of_frame hframe.symm hout
  rw [← hindex]
  exact hno p i hp ((congrArg Permit.holder hframe.symm :).trans hholder) houtcome hi'

variable {p : Permit} {i : Outstanding} {d : Device} (hp : s.permit? (be16 hi lo) = some p) (hholder : p.holder = k.slot)
  (hout : p.outstanding = some i) (hindex : i.index = x.toNat) (houtcome : y.toNat = 1 ∨ y.toNat = 2)
include hp hholder hout hindex houtcome

/-- The permit and its instruction as the report is routed. -/
theorem report : ∃ (q : Permit) (j : Outstanding), (s.atEvent.accepting c f k).permit? (be16 hi lo) = some q ∧ q.frame = p.frame
    ∧ q.outstanding = some j ∧ j.index = i.index ∧ j.device = i.device ∧ j.role = i.role ∧ j.action = i.action
    ∧ (s.atEvent.accepting c f k).route c k ((s.chan c).assembling f)
      = (if y.toNat = 1 then (s.atEvent.accepting c f k).reportDone (be16 hi lo)
        else (s.atEvent.accepting c f k).reportUnable (be16 hi lo), 1) := by
  obtain ⟨q, hq, hframe⟩ := State.accepting_permit? (s := s.atEvent) (c := c) (f := f) h.stands hp
  obtain ⟨j, hj, hjindex, hdevice, hrole, haction⟩ := Permit.outstanding_of_frame hframe hout
  refine ⟨q, j, hq, hframe, hj, hjindex, hdevice, hrole, haction, (State.route_report hbody hkind).trans ?_⟩
  rw [State.stepReport_of_outstanding hq ((congrArg Permit.holder hframe :).trans hholder) hj (hjindex.trans hindex) houtcome]

/-- What a report brings to its permit and its device (R72 to R76, R85, R92). -/
theorem reported (hd : s.device? i.device = some d) (hno : be16 hi lo ∉ d.waits) :
    ∃ p', (s.event fun t => t.frameReceived c bytes).permit? (be16 hi lo) = some p'
      ∧ AlikeButPermits (s.event fun t => t.frameReceived c bytes) (s.replied c f k 1)
      ∧ (p.cancelWait = true → p'.cancelWait = false)
      ∧ (y.toNat = 1 → p.cancelWait = false → p.state = .switching → i.role = .isolation →
          p'.k = p.k + 1 ∧ p'.stack = (i.device, i.action) :: p.stack
            ∧ (p.k + 1 = p.steps.length → p'.state = .issuing ∧ p'.outstanding = none)
            ∧ (p.k + 1 ≠ p.steps.length →
                p'.state = .switching ∨ (p'.state = .stalled ∧ p'.stall = some (.switching, .tagLimit)))
            ∧ (d.waits = [] → (∀ step, p.steps[p.k + 1]? = some step → step.device ≠ i.device) →
                (s.event fun t => t.frameReceived c bytes).device? i.device = some { d.applyDone with pending := none }))
      ∧ (y.toNat = 1 → p.cancelWait = false → p.state = .restoring → i.role = .restoration →
          p'.stack = p.stack.drop 1
            ∧ p'.state = (if p.stack.drop 1 = [] then .closed else .restoring)
            ∧ (d.waits = [] → (∀ e, p.stack[1]? = some e → e.1 ≠ i.device) →
                (s.event fun t => t.frameReceived c bytes).device? i.device = some { d.applyDone with pending := none }))
      ∧ (y.toNat = 2 → p.cancelWait = false → ∀ phase, p.state = phase.state →
          p'.state = .stalled ∧ p'.stall = some (phase, .unable) ∧ p'.outstanding = none
            ∧ p'.lastReleased = some i.index ∧ p'.stack = p.stack ∧ p'.k = p.k
            ∧ (d.waits = [] → (s.event fun t => t.frameReceived c bytes).device? i.device = some { d with pending := none })) := by
  obtain ⟨q, j, hq, hframe, hj, hjindex, hdevice, hrole, haction, hroute⟩ := h.report hbody hkind hp hholder hout hindex houtcome
  have hd' : (s.atEvent.accepting c f k).device? j.device = some d := by
    rw [State.accepting_device? (s := s.atEvent) h.stands, hdevice]
    exact hd
  have hwait : q.cancelWait = p.cancelWait := (congrArg Permit.cancelWait hframe :)
  have hstate : q.state = p.state := (congrArg Permit.state hframe :)
  have hstack : q.stack = p.stack := (congrArg Permit.stack hframe :)
  have hsteps : q.steps = p.steps := (congrArg Permit.steps hframe :)
  have hk : q.k = p.k := (congrArg Permit.k hframe :)
  obtain ⟨r, hr⟩ := h.permit?_routed hroute hp
  obtain ⟨p', hp', hafter⟩ := h.permit?_after hroute hr
  have hdevices := h.device?_after hroute i.device
  have hrouted (houtcome : y.toNat = 1) : (if y.toNat = 1 then (s.atEvent.accepting c f k).reportDone (be16 hi lo)
      else (s.atEvent.accepting c f k).reportUnable (be16 hi lo)) = (s.atEvent.accepting c f k).reportDone (be16 hi lo) := if_pos houtcome
  have hunable (houtcome : y.toNat = 2) : (if y.toNat = 1 then (s.atEvent.accepting c f k).reportDone (be16 hi lo)
      else (s.atEvent.accepting c f k).reportUnable (be16 hi lo)) = (s.atEvent.accepting c f k).reportUnable (be16 hi lo) :=
    if_neg (by omega)
  refine ⟨p', hp', h.alike_but_permits hroute ?_, fun hcancel => ?_, fun hy hnot hst hisolation => ?_, fun hy hnot hst hrestoration => ?_,
    fun hy hnot phase hphase => ?_⟩
  · split
    · exact State.reportDone_framePermits _ _
    · exact State.reportUnable_framePermits _ _
  · obtain ⟨⟨a, ha, hadone⟩, ⟨b, hb, hbdone⟩⟩ := State.report_cancelled hq hj hd' hno (hwait.trans hcancel)
    have hrwait : r.cancelWait = false := by
      rcases houtcome with hy | hy
      · rw [hrouted hy, ha] at hr
        cases hr
        exact hadone
      · rw [hunable hy, hb] at hr
        cases hr
        exact hbdone
    exact (congrArg Permit.cancelWait hafter :).trans hrwait
  · obtain ⟨a, ha, hak, hastack, hlast, hmore, hfreed⟩ := State.reportDone_isolation hq hj hd' hno (hwait.trans hnot)
      (hstate.trans hst) (hrole.trans hisolation)
    rw [hrouted hy, ha] at hr
    cases hr
    rw [hk, hsteps] at hlast hmore hfreed
    rw [hdevices, hrouted hy, ← hdevice]
    refine ⟨(congrArg Permit.k hafter :).trans (hak.trans (by rw [hk])),
      (congrArg Permit.stack hafter :).trans (hastack.trans (by rw [hdevice, haction, hstack])), fun hend => ?_, fun hend => ?_, hfreed⟩
    · exact ⟨(congrArg Permit.state hafter :).trans (hlast hend).1, Permit.outstanding_none_of_frame hafter (hlast hend).2⟩
    · have hphase : p'.state = r.state := (congrArg Permit.state hafter :)
      have hstall : p'.stall = r.stall := (congrArg Permit.stall hafter :)
      rw [hphase, hstall]
      exact hmore hend
  · obtain ⟨a, ha, hastack, hastate, hfreed⟩ := State.reportDone_restoration hq hj hd' hno (hwait.trans hnot)
      (hstate.trans hst) (hrole.trans hrestoration)
    rw [hrouted hy, ha] at hr
    cases hr
    rw [hstack] at hastack hastate hfreed
    rw [hdevices, hrouted hy, ← hdevice]
    exact ⟨(congrArg Permit.stack hafter :).trans hastack, (congrArg Permit.state hafter :).trans hastate, hfreed⟩
  · obtain ⟨a, ha, hastate, hastall, haout, halast, hastack, hak, hfreed⟩ := State.reportUnable_stalled (d := d) hq hj (hwait.trans hnot)
    rw [hunable hy, ha] at hr
    cases hr
    rw [hdevices, hunable hy, ← hdevice]
    refine ⟨(congrArg Permit.state hafter :).trans hastate, (congrArg Permit.stall hafter :).trans (hastall.trans ?_),
      Permit.outstanding_none_of_frame hafter haout, (congrArg Permit.lastReleased hafter :).trans (halast.trans (by rw [hjindex])),
      (congrArg Permit.stack hafter :).trans (hastack.trans hstack), (congrArg Permit.k hafter :).trans (hak.trans hk), hfreed hd'⟩
    rw [hstate, hphase, Phase.phase_state]

end
end State.Arrives

/-! ### SURRENDER (R82, R83) -/

theorem State.workingBound_of_frame {s t : State} (h : t.frame = s.frame) (serial holder : Nat) :
    t.workingBound serial holder = s.workingBound serial holder := by
  have hone (u : State) : u.workingBound serial holder
      = ((u.orders.map Order.frame).filter fun o => o.state == .working && o.bound == some serial && o.crew == some holder).length := by
    rw [List.filter_map, List.length_map, State.workingBound]
    refine congrArg List.length (List.filter_congr fun o _ => ?_)
    have hstate : (o.frame.state == OrderState.working) = (o.state == OrderState.working) := by
      cases hst : o.state <;> simp [Order.frame, OrderState.movable, hst]
    simp only [Function.comp_apply, hstate]
    rfl
  have horders : t.orders.map Order.frame = s.orders.map Order.frame := (congrArg State.orders h :)
  rw [hone, hone, horders]

section
variable {s : State} {slot serial : Nat}

/-- A surrender that is not taken brings an answer of its own or none (R82). -/
theorem State.surrenderAsked_of_ignored (hno : ∀ p, s.permit? serial = some p → p.holder = slot → p.state = .inForce → p.surrender = true) :
    (s.surrenderAsked slot serial).frame = s.frame := by
  rw [State.surrenderAsked]
  split
  · exact State.freeAnswer_frame _ _ _ _
  next p hp =>
    split
    · exact State.freeAnswer_frame _ _ _ _
    next hholder =>
      split
      · exact State.freeAnswer_frame _ _ _ _
      next hst => rw [if_pos (hno p hp (not_not.1 hholder) (not_not.1 hst))]

variable {p : Permit} (hp : s.permit? serial = some p) (hholder : p.holder = slot) (hst : p.state = .inForce)
  (hnot : p.surrender = false)
include hp hholder hst hnot

/-- A surrender of a permit in force (R82, R83). -/
theorem State.surrenderAsked_of_inForce : s.surrenderAsked slot serial =
    if p.hold then s.answerSurrender serial .held (some .alarm)
    else if 0 < s.workingBound serial slot then s.answerSurrender serial .held (some .ordersOpen)
    else ((s.dropAnswer serial).modPermit serial fun p => { p with surrender := true }).post (.surrenderRequested serial slot s.clock) := by
  simp only [State.surrenderAsked, hp, hholder, hst, hnot, ne_eq, not_true, if_false, Bool.false_eq_true]

omit hholder in
/-- A surrender that is held back (R83). -/
theorem State.answerSurrender_held (r : Option SurrenderReason) : ∃ q, (s.answerSurrender serial .held r).permit? serial = some q
    ∧ q.state = .inForce ∧ q.surrender = false ∧ q.answer.map (fun a => (a.answer, a.reason)) = some (.held, r) := by
  obtain ⟨q, hq, hframe⟩ := State.permit?_of_frameWatch_some (State.frameWatch_of_frame (State.answerSurrender_frame s serial .held r))
    (State.permit?_modPermit (f := fun p => { p with answer := some ⟨.held, r, .queued⟩ }) (fun _ => rfl) hp)
  refine ⟨q, hq, (congrArg Permit.state hframe :).trans hst, (congrArg Permit.surrender hframe :).trans hnot, ?_⟩
  have hanswer : q.answer.map (fun a => { a with status := .queued }) = some ⟨.held, r, .queued⟩ := (congrArg Permit.answer hframe :)
  obtain ⟨a, ha, heq⟩ := Option.map_eq_some_iff.1 hanswer
  rw [ha]
  exact congrArg some (Prod.ext (congrArg (·.answer) heq :) (congrArg (·.reason) heq :))

omit hholder hnot in
/-- A surrender that waits for its answer (R82). -/
theorem State.surrender_requested (x : Subject) : ∃ q,
    (((s.dropAnswer serial).modPermit serial fun p => { p with surrender := true }).post x).permit? serial = some q
      ∧ q.state = .inForce ∧ q.surrender = true := by
  have hdropped : ∃ r, (s.dropAnswer serial).permit? serial = some r ∧ r.state = .inForce := by
    have hone : ∃ r, (((s.takeBack serial .answer).modPermit serial fun p => { p with answer := none }).syncPermitDefer serial).permit? serial
        = some r ∧ r.state = .inForce := by
      have htaken : (s.takeBack serial .answer).permit? serial = some p :=
        (congrArg (tFind Permit.serial serial) (s.takeBack_kept serial .answer).1).trans hp
      obtain ⟨r, hr, hframe⟩ := State.permit?_of_frameWatch_some (State.frameWatch_of_frame (State.syncPermitDefer_frame _ serial))
        (State.permit?_modPermit (f := fun p => { p with answer := none }) (fun _ => rfl) htaken)
      exact ⟨r, hr, (congrArg Permit.state hframe :).trans hst⟩
    rw [State.dropAnswer]
    split
    · exact hone
    · exact hone
    · exact ⟨p, hp, hst⟩
  obtain ⟨r, hr, hrst⟩ := hdropped
  exact ⟨_, (congrArg (tFind Permit.serial serial) (State.post_permits _ _)).trans
    (State.permit?_modPermit (f := fun p => { p with surrender := true }) (fun _ => rfl) hr), hrst, rfl⟩

end

namespace State.Arrives
variable {s : State} {c : Chan} {bytes : List Byte} {f : Frame} {k : Crew} (h : s.Arrives c bytes f k)
  {hi lo : Byte} (hbody : ((s.chan c).assembling f).body = [hi, lo]) (hkind : ((s.chan c).assembling f).kind = kindSurrender)
include h hbody hkind

theorem surrender_ignored (hno : ∀ p, s.permit? (be16 hi lo) = some p → p.holder = k.slot → p.state = .inForce → p.surrender = true) :
    Alike (s.event fun t => t.frameReceived c bytes) (s.replied c f k 1) := by
  refine h.alike_kept (State.route_surrender hbody hkind) (State.surrenderAsked_of_ignored fun q hq hholder hst => ?_)
  obtain ⟨p, hp, hframe⟩ := State.accepting_permit?_of (s := s.atEvent) h.stands hq
  exact (congrArg Permit.surrender hframe :).trans (hno p hp ((congrArg Permit.holder hframe.symm :).trans hholder)
    ((congrArg Permit.state hframe.symm :).trans hst))

/-- What a surrender brings to its permit (R82, R83). -/
theorem surrendered {p : Permit} (hp : s.permit? (be16 hi lo) = some p) (hholder : p.holder = k.slot) (hst : p.state = .inForce)
    (hnot : p.surrender = false) :
    ∃ p', (s.event fun t => t.frameReceived c bytes).permit? (be16 hi lo) = some p'
      ∧ AlikeButPermits (s.event fun t => t.frameReceived c bytes) (s.replied c f k 1) ∧ p'.state = .inForce
      ∧ (p.hold = true → p'.surrender = false ∧ p'.answer.map (fun a => (a.answer, a.reason)) = some (.held, some .alarm))
      ∧ (p.hold = false → 0 < s.workingBound (be16 hi lo) k.slot →
          p'.surrender = false ∧ p'.answer.map (fun a => (a.answer, a.reason)) = some (.held, some .ordersOpen))
      ∧ (p.hold = false → ¬ 0 < s.workingBound (be16 hi lo) k.slot → p'.surrender = true) := by
  obtain ⟨q, hq, hframe⟩ := State.accepting_permit? (s := s.atEvent) (c := c) (f := f) h.stands hp
  have hqst : q.state = .inForce := (congrArg Permit.state hframe :).trans hst
  have hqnot : q.surrender = false := (congrArg Permit.surrender hframe :).trans hnot
  have hqhold : q.hold = p.hold := (congrArg Permit.hold hframe :)
  have hbound : (s.atEvent.accepting c f k).workingBound (be16 hi lo) k.slot = s.workingBound (be16 hi lo) k.slot :=
    (State.workingBound_of_frame (State.accepting_frame (s := s.atEvent) h.stands) _ _).trans rfl
  have hasked := State.surrenderAsked_of_inForce hq ((congrArg Permit.holder hframe :).trans hholder) hqst hqnot
  rw [hqhold, hbound] at hasked
  have hroute := State.route_surrender (c := c) (s := s.atEvent.accepting c f k) (k := k) hbody hkind
  have halike := h.alike_but_permits hroute (State.surrenderAsked_framePermits _ _ _)
  have hheld {r : Option SurrenderReason} (hwork : (s.atEvent.accepting c f k).surrenderAsked k.slot (be16 hi lo)
      = (s.atEvent.accepting c f k).answerSurrender (be16 hi lo) .held r) :
      ∃ p', (s.event fun t => t.frameReceived c bytes).permit? (be16 hi lo) = some p' ∧ p'.state = .inForce
        ∧ p'.surrender = false ∧ p'.answer.map (fun a => (a.answer, a.reason)) = some (.held, r) := by
    obtain ⟨r', hr, hrst, hrnot, hranswer⟩ := State.answerSurrender_held hq hqst hqnot r
    rw [← hwork] at hr
    obtain ⟨p', hp', hafter⟩ := h.permit?_after hroute hr
    refine ⟨p', hp', (congrArg Permit.state hafter :).trans hrst, (congrArg Permit.surrender hafter :).trans hrnot, ?_⟩
    have hmap : p'.answer.map (fun a => { a with status := .queued }) = r'.answer.map (fun a => { a with status := .queued }) :=
      (congrArg Permit.answer hafter :)
    have hof (o : Option AnswerTg) : o.map (fun a => (a.answer, a.reason))
        = (o.map fun a => { a with status := .queued }).map fun a => (a.answer, a.reason) := by
      rw [Option.map_map]
      rfl
    rw [hof, hmap, ← hof]
    exact hranswer
  cases hhold : p.hold with
  | true =>
    rw [hhold, if_pos rfl] at hasked
    obtain ⟨p', hp', hst', hno, hanswer⟩ := hheld hasked
    exact ⟨p', hp', halike, hst', fun _ => ⟨hno, hanswer⟩, nofun, nofun⟩
  | false =>
    rw [hhold, if_neg nofun] at hasked
    by_cases hworking : 0 < s.workingBound (be16 hi lo) k.slot
    · rw [if_pos hworking] at hasked
      obtain ⟨p', hp', hst', hno, hanswer⟩ := hheld hasked
      exact ⟨p', hp', halike, hst', nofun, fun _ _ => ⟨hno, hanswer⟩, fun _ hnone => absurd hworking hnone⟩
    · rw [if_neg hworking] at hasked
      obtain ⟨r, hr, hrst, hrasked⟩ := State.surrender_requested hq hqst (.surrenderRequested (be16 hi lo) k.slot
        (s.atEvent.accepting c f k).clock)
      rw [← hasked] at hr
      obtain ⟨p', hp', hafter⟩ := h.permit?_after hroute hr
      exact ⟨p', hp', halike, (congrArg Permit.state hafter :).trans hrst, nofun, fun _ hpos => absurd hpos hworking,
        fun _ _ => (congrArg Permit.surrender hafter :).trans hrasked⟩

end State.Arrives

end Sys2Proof.Machine
end

section
/-!
What a crew's READBACK brings (R79 to R81).
-/

namespace Sys2Proof.Machine
/-! ### BLOCKED orders set WORKING (R81) -/

/-- An order BLOCKED under a permit that has come in force: it works, and ORDER_CLEARED is to follow (R81). -/
def Order.unblocked (o : Order) : Order := { o with state := .working, followUp := some (.cleared, .owed) }

/-- Which orders are BLOCKED under a permit in its holder's hands. -/
def State.BlockedOnly (serial slot : Nat) (l : List Nat) (t : State) : Prop :=
  ∀ o ∈ t.orders, o.state = .blocked → o.bound = some serial → o.crew = some slot → o.number ∈ l

/-- Traffic blocks no order. -/
theorem State.BlockedOnly.modOrder {s : State} {serial slot : Nat} {l : List Nat} (h : s.BlockedOnly serial slot l) (n : Nat)
    {f : Order → Order} (hf : ∀ o, (f o).number = o.number ∧ (f o).bound = o.bound ∧ (f o).crew = o.crew
      ∧ ((f o).state = .blocked → o.state = .blocked)) : (s.modOrder n f).BlockedOnly serial slot l := by
  intro o ho hst hbound hcrew
  obtain ⟨x, hx, rfl⟩ := List.mem_map.1 ho
  split at hst
  next heq =>
    rw [if_pos heq] at hbound hcrew ⊢
    obtain ⟨hnumber, hbound', hcrew', hstate⟩ := hf x
    rw [hnumber]
    exact h x hx (hstate hst) (hbound'.symm.trans hbound) (hcrew'.symm.trans hcrew)
  next heq =>
    rw [if_neg heq] at hbound hcrew ⊢
    exact h x hx hst hbound hcrew

theorem blockedOnly_spared (serial slot : Nat) (l : List Nat) : Spares (fun _ => True) (State.BlockedOnly serial slot l) where
  posted := posted_of_notices fun _ _ _ h => h
  quiet := fun _ _ _ _ h => h
  marks := fun _ _ _ _ h => h
  crew := fun _ _ _ _ h => h
  enter := fun _ _ _ _ h => h
  leave := fun _ _ _ _ _ _ _ h => h
  drop := fun _ _ _ _ h => h
  order := fun s n st f _ _ hf h => h.modOrder n fun o => by
    split
    next ho =>
      obtain ⟨hsame, -, hblocked⟩ := hf o ho
      exact ⟨(congrArg Order.number hsame :), (congrArg Order.bound hsame :), (congrArg Order.crew hsame :), hblocked⟩
    · exact ⟨rfl, rfl, rfl, id⟩
  followUp := fun s n _ _ h => h.modOrder n fun _ => ⟨rfl, rfl, rfl, id⟩
  permit := fun _ _ _ _ _ h => h
  mark := fun _ _ _ h => h
  prompt := fun s m body st _ h => by
    unfold State.setPrompts
    split <;> exact h
  reorder := fun _ _ _ _ _ _ _ _ _ _ h => h
  respond := fun _ _ _ _ h => h
  settle := fun _ h => h
  headDue := fun _ _ _ _ _ _ _ _ _ _ => trivial
  followUpDue := fun _ _ _ _ _ _ _ => trivial
  permitDue := fun _ _ _ _ _ _ _ => trivial
  displaced := fun _ _ _ _ _ _ _ _ _ => trivial
  evicted := fun _ _ _ _ _ _ _ => ⟨fun _ _ => .inl trivial, fun _ _ => trivial, fun _ _ => trivial⟩

section
variable {s : State}

theorem State.clearBlocked_frame (n slot : Nat) : (s.clearBlocked n slot).frame = (s.modOrder n Order.unblocked).frame :=
  (State.check_frame _ _).trans ((State.offerFollowUp_frame _ _).trans (State.post_frame _ _))

/-- No permit changes as the orders BLOCKED under one are set WORKING, but for its telegrams. -/
theorem State.tellInForce_permit? (serial slot n : Nat) :
    ((s.tellInForce serial slot).permit? n).map Permit.frame = (s.permit? n).map Permit.frame := by
  have hfold : ∀ (l : List Order) (t : State),
      ((l.foldl (fun t o => t.clearBlocked o.number slot) t).permit? n).map Permit.frame = (t.permit? n).map Permit.frame := by
    intro l
    induction l with
    | nil => exact fun t => rfl
    | cons o l ih => exact fun t => (ih _).trans (State.permit?_of_frameWatch (State.frameWatch_of_frame (t.clearBlocked_frame o.number slot)) n)
  exact hfold _ s

section
variable {serial slot : Nat}

/-- The orders that a permit in force sets WORKING (R81). -/
def State.blockedUnder (s : State) (serial slot : Nat) : List Order :=
  s.orders.filter fun o => o.state == .blocked && o.bound == some serial && o.crew == some slot

theorem State.mem_blockedUnder {o : Order} : o ∈ s.blockedUnder serial slot
    ↔ o ∈ s.orders ∧ o.state = .blocked ∧ o.bound = some serial ∧ o.crew = some slot := by
  simp only [State.blockedUnder, List.mem_filter, Bool.and_eq_true, beq_iff_eq, and_assoc]

theorem State.tellInForce_eq : s.tellInForce serial slot
    = (s.blockedUnder serial slot).foldl (fun t o => t.clearBlocked o.number slot) s := rfl

theorem State.tellInForce_of_none (h : s.BlockedOnly serial slot []) : s.tellInForce serial slot = s := by
  have hnone : s.blockedUnder serial slot = [] := List.eq_nil_iff_forall_not_mem.2 fun o ho => by
    obtain ⟨hin, hst, hbound, hcrew⟩ := State.mem_blockedUnder.1 ho
    exact List.not_mem_nil (h o hin hst hbound hcrew)
  rw [State.tellInForce_eq, hnone]
  rfl

/-- Where one order alone is BLOCKED under the permit, it alone is set WORKING. -/
theorem State.tellInForce_of_one {n : Nat} {o : Order} (h : s.BlockedOnly serial slot [n]) (hrising : rising (s.orders.map (·.number)))
    (ho : s.order? n = some o) (hst : o.state = .blocked) (hbound : o.bound = some serial) (hcrew : o.crew = some slot) :
    s.tellInForce serial slot = s.clearBlocked n slot := by
  have hnodup : (s.orders.map (·.number)).Nodup := hrising.imp fun hlt => Nat.ne_of_lt hlt
  have hone : ∀ x ∈ s.blockedUnder serial slot, x = o := fun x hx => by
    obtain ⟨hin, hxst, hxbound, hxcrew⟩ := State.mem_blockedUnder.1 hx
    exact List.inj_on_of_nodup_map hnodup hin (tFind_some Order.number ho).2
      ((List.mem_singleton.1 (h x hin hxst hxbound hxcrew)).trans (State.number_of_order? ho).symm)
  have hin : o ∈ s.blockedUnder serial slot := State.mem_blockedUnder.2 ⟨(tFind_some Order.number ho).2, hst, hbound, hcrew⟩
  have hlist : s.blockedUnder serial slot = [o] := by
    have hrep := List.eq_replicate_of_mem hone
    have hlen : (s.blockedUnder serial slot).length ≤ 1 := by
      have hnodup' := (List.Nodup.of_map _ hnodup).filter fun o : Order => o.state == .blocked && o.bound == some serial && o.crew == some slot
      by_contra hlong
      rw [show s.orders.filter _ = s.blockedUnder serial slot from rfl, hrep, List.nodup_replicate] at hnodup'
      exact hlong hnodup'
    have hpos := List.length_pos_of_mem hin
    rw [hrep, show (s.blockedUnder serial slot).length = 1 by omega]
    rfl
  rw [State.tellInForce_eq, hlist, List.foldl_cons, List.foldl_nil, State.number_of_order? ho]

end
end

/-! ### ORDER_CLEARED queued (R81, R166) -/

/-- An ORDER_CLEARED for an order and a permit. -/
structure Entry.Clears (addr : Addr) (n serial : Nat) (e : Entry) : Prop where
  owner : e.owner = .followUp n
  kind  : e.kind = .orderCleared
  cls   : e.cls = .safety
  addr  : e.addr = addr
  body  : e.body = .bytes (u16 n ++ u16 serial)

theorem Entry.Clears.firm {addr : Addr} {n serial : Nat} {e : Entry} (h : e.Clears addr n serial) : e.Firm :=
  ⟨by rw [h.cls]; nofun, by rw [h.cls]; nofun, by rw [h.kind]; nofun, fun m => by rw [h.owner]; nofun⟩

section
variable {s : State} {n : Nat} {o : Order} {k : Crew} {slot : Nat}

/-- A follow-up offered to a queue with room (R46). -/
theorem State.offerFollowUp_of_room {kind : FollowKind} {st : FollowStatus} (ho : s.order? n = some o)
    (hfollow : o.followUp = some (kind, st)) (hcrew : o.crew = some slot) (hk : s.crew? slot = some k)
    (hroom : (s.chan k.current).queue.length < 24) : s.offerFollowUp n =
      ((s.modCrew k.slot fun k => { k with outSeq := k.outSeq + 1 }).enqueue k.current
        { newEntry (.followUp n) kind.tgKind .safety k.addr (.bytes (followUpBody o kind)) none with seq := some k.outSeq }).setFollowUp
          n .queued := by
  have hslot : s.crew? k.slot = some k := by rw [State.slot_of_crew? hk]; exact hk
  simp only [State.offerFollowUp, ho, hfollow, hcrew, Option.bind_some, hk]
  exact State.offerWith_safety _ _ _ rfl hslot rfl hroom

/-- The follow-up of an order set WORKING, and its ORDER_CLEARED that waits. -/
theorem State.clearBlocked_told {serial : Nat} (ho : s.order? n = some o) (hbound : o.bound = some serial) (hcrew : o.crew = some slot)
    (hk : s.crew? slot = some k) (hroom : (s.chan k.current).queue.length < 24) (hwaits : s.noneWaits (.followUp n)) :
    (s.clearBlocked n slot).Followed n .cleared .queued
      ∧ ∃ e ∈ ((s.clearBlocked n slot).chan k.current).queue, e.Clears k.addr n serial := by
  generalize ht : (s.modOrder n Order.unblocked).post (.orderState n (some slot) .blocked .working none) = t
  have horders : t.orders = (s.modOrder n Order.unblocked).orders := by rw [← ht]; exact State.post_orders _ _
  have hchan (c : Chan) : t.chan c = s.chan c := by rw [← ht]; exact (State.post_chan _ _ c).trans rfl
  have ho1 : t.order? n = some o.unblocked := (congrArg (tFind Order.number n) horders).trans
    (State.order?_modOrder (f := Order.unblocked) (by intro; rfl) ho)
  have hk1 : t.crew? slot = some k := by rw [← ht]; exact (congrArg (tFind Crew.slot slot) (State.post_crews _ _)).trans hk
  have hoffer := State.offerFollowUp_of_room ho1 rfl hcrew hk1 (by rw [hchan]; exact hroom)
  have hwork : s.clearBlocked n slot = (t.offerFollowUp n).check slot := by rw [← ht]; rfl
  generalize he : ({ newEntry (.followUp n) FollowKind.cleared.tgKind .safety k.addr (.bytes (followUpBody o.unblocked .cleared)) none with
    seq := some k.outSeq } : Entry) = e at hoffer
  have hclears : ∀ a, ({ e with admission := a } : Entry).Clears k.addr n serial := by
    rw [← he]
    intro a
    refine ⟨rfl, rfl, rfl, rfl, ?_⟩
    show Body.bytes (u16 o.number ++ u16 (o.bound.getD 0)) = .bytes (u16 n ++ u16 serial)
    rw [State.number_of_order? ho, hbound]
    rfl
  generalize hv : (t.modCrew k.slot fun k => { k with outSeq := k.outSeq + 1 }).enqueue k.current e = v at hoffer
  have hov : v.order? n = some o.unblocked := by
    rw [← hv]
    exact (congrArg (tFind Order.number n) (State.enqueue_onlyChans _ _ _).orders).trans ho1
  have hin : ∃ x ∈ (v.chan k.current).queue, x.Clears k.addr n serial := by
    rw [← hv]
    exact ⟨_, State.mem_enqueue, hclears _⟩
  have hfirm (c : Chan) (x : Entry) (hx : x ∈ (v.chan c).queue) (howner : x.owner = .followUp n) (hwait : x.inFlight = false)
      (hlinked : x.linked = true) : x.Firm := by
    rw [← hv] at hx
    rcases State.mem_enqueue_iff hx with heq | hold
    · rw [heq]
      exact (hclears _).firm
    · exact State.firm_of_noneWaits hwaits c x (hchan c ▸ hold) howner hwait hlinked
  have hset := State.setFollowUp_followed (st := .queued) hov rfl hfirm nofun
  rw [hwork, hoffer]
  refine ⟨(followed_spared n .cleared (st := .queued) nofun).check hset slot, (firm_spared k.current fun _ => Entry.Clears.firm).check ?_ slot⟩
  rw [(State.sameQueues_setFollowUp n .queued).2]
  exact hin

end

/-! ### READBACK (R79, R80) -/

section
variable {s : State} {slot serial digest : Nat}

/-- A permit whose readback has come: the wait for it is over and no issue telegram of it waits. -/
def State.readbackTaken (s : State) (serial : Nat) : State :=
  (s.modPermit serial fun p => { p with readback := none }).dropIssue serial

/-- A permit whose readback is right, before the orders BLOCKED under it are set WORKING. -/
def State.readbackRight (s : State) (serial : Nat) : State :=
  ((s.readbackTaken serial).modPermit serial fun p => { p with issueOwed := false }).setPermitState serial .inForce .readbackOk

/-- A readback that no permit in ISSUING awaits posts its notice alone (R79). -/
theorem State.readback_of_ignored (hno : ∀ p, s.permit? serial = some p → p.holder = slot → p.state ≠ .issuing) :
    (s.readback slot serial digest).frame = s.frame := by
  rw [State.readback]
  dsimp only
  split
  · exact State.post_frame _ _
  next p hp =>
    split
    · exact State.post_frame _ _
    next hholder => rw [if_pos (hno p hp (not_not.1 hholder))]; exact State.post_frame _ _

theorem State.readbackTaken_framePermits : (s.readbackTaken serial).framePermits = s.framePermits :=
  (State.dropIssue_framePermits _ _).trans rfl

theorem State.readbackRight_framePermits : (s.readbackRight serial).framePermits = s.framePermits :=
  (State.setPermitState_framePermits _ _ _ _).trans (State.readbackTaken_framePermits (s := s))

variable {p : Permit} (hp : s.permit? serial = some p)
include hp

/-- What a readback does to a permit in ISSUING (R79, R80). -/
theorem State.readback_of_issuing (hholder : p.holder = slot) (hst : p.state = .issuing) : s.readback slot serial digest =
    if digest = p.digest.getD (s.digest p) then (s.readbackRight serial).tellInForce serial slot
    else if p.issueCount < s.params.issueLimit then (s.readbackTaken serial).callIssue serial
    else (s.readbackTaken serial).stall serial .issuing .readback := by
  simp only [State.readback, hp, hholder, hst, ne_eq, not_true, if_false]
  rfl

theorem State.readbackTaken_record : ∃ q, (s.readbackTaken serial).permit? serial = some q
    ∧ q.frame = ({ p with readback := none } : Permit).frame :=
  State.permit?_of_frameWatch_some (State.frameWatch_of_frame (State.dropIssue_frame _ serial))
    (State.permit?_modPermit (f := fun p => { p with readback := none }) (fun _ => rfl) hp)

/-- A right readback puts its permit in force (R79). -/
theorem State.readbackRight_record : ∃ q, (s.readbackRight serial).permit? serial = some q ∧ q.state = .inForce ∧ q.readback = none
    ∧ q.issueOwed = false := by
  obtain ⟨q, hq, hframe⟩ := State.readbackTaken_record hp
  have howed := State.permit?_modPermit (s := s.readbackTaken serial) (f := fun p => { p with issueOwed := false }) (by intro; rfl) hq
  obtain ⟨r, hr, hrframe⟩ := State.permit?_of_frameWatch_some (State.setPermitState_frameWatch howed .inForce .readbackOk)
    (State.permit?_modPermit (f := fun p => { p with state := .inForce }) (fun _ => rfl) howed)
  have hread : q.readback = none := (congrArg Permit.readback hframe :)
  exact ⟨r, hr, (congrArg Permit.state hrframe :), (congrArg Permit.readback hrframe :).trans hread, (congrArg Permit.issueOwed hrframe :)⟩

/-- A wrong readback stalls its permit or has it issued again (R80). -/
theorem State.readback_wrong (hholder : p.holder = slot) (hst : p.state = .issuing) (hwrong : digest ≠ p.digest.getD (s.digest p)) :
    (s.readback slot serial digest).framePermits = s.framePermits ∧ ∃ q, (s.readback slot serial digest).permit? serial = some q
      ∧ (s.params.issueLimit ≤ p.issueCount → q.state = .stalled ∧ q.stall = some (.issuing, .readback))
      ∧ (p.issueCount < s.params.issueLimit → q.state = .issuing ∧ (p.hold = false → q.issueCount = p.issueCount + 1)
        ∧ (p.hold = true → q.issueCount = p.issueCount ∧ q.issueOwed = true)) := by
  obtain ⟨q, hq, hframe⟩ := State.readbackTaken_record hp
  have hqst : q.state = .issuing := (congrArg Permit.state hframe :).trans hst
  have hqhold : q.hold = p.hold := (congrArg Permit.hold hframe :)
  have hqcount : q.issueCount = p.issueCount := (congrArg Permit.issueCount hframe :)
  rw [State.readback_of_issuing hp hholder hst, if_neg hwrong]
  by_cases hlimit : p.issueCount < s.params.issueLimit
  · rw [if_pos hlimit]
    obtain ⟨r, hr, hrst, -, -, -, hfree, hheld, -⟩ := State.callIssue_record hq
    rw [hqhold, hqcount] at hfree hheld
    exact ⟨(State.callIssue_framePermits _ _).trans State.readbackTaken_framePermits, r, hr, fun h => absurd hlimit (not_lt.2 h),
      fun _ => ⟨hrst.trans hqst, hfree, hheld⟩⟩
  · rw [if_neg hlimit]
    exact ⟨(State.stall_framePermits _ _ _ _).trans State.readbackTaken_framePermits, _, State.stall_record hq _ _, fun _ => ⟨rfl, rfl⟩,
      fun h => absurd h hlimit⟩

/-! The crews, orders and queues as a permit comes in force. -/

omit hp in
theorem State.syncPermitDefer_orders (s : State) (serial : Nat) : (s.syncPermitDefer serial).orders = s.orders := by
  rw [State.syncPermitDefer]
  split
  · rfl
  · split
    · rfl
    · split
      · split <;> rfl
      · rfl

omit hp in
theorem State.takeBack_orders (s : State) (serial : Nat) (tg : PermitTg) : (s.takeBack serial tg).orders = s.orders := by
  rw [State.takeBack]
  split
  · exact (s.withdraw_onlyChans _).orders
  · rfl
  · rfl

omit hp in
/-- No telegram comes to wait as one of a permit is taken back. -/
theorem State.noneWaits_kept_takeBack {o : Owner} (h : s.noneWaits o) (tg : PermitTg) : (s.takeBack serial tg).noneWaits o := by
  rw [State.takeBack]
  split
  · exact State.noneWaits_of_queues (fun c e he _ => (State.mem_withdraw he).1) h
  · intro c e he howner hwait
    rw [State.unlink, State.modEntries, State.modChans_chan] at he
    obtain ⟨x, hx, rfl⟩ := List.mem_map.1 he
    split at howner
    · rw [if_pos ‹_›]
    next hno =>
      rw [if_neg hno] at hwait ⊢
      exact h c x hx howner hwait
  · exact h

omit hp in
theorem State.readbackTaken_kept (s : State) (serial : Nat) : (s.readbackTaken serial).crews = s.crews
    ∧ (s.readbackTaken serial).orders = s.orders
    ∧ (∀ c, ((s.readbackTaken serial).chan c).queue.length ≤ (s.chan c).queue.length)
    ∧ ∀ o, s.noneWaits o → (s.readbackTaken serial).noneWaits o := by
  have hkept := (s.modPermit serial fun p => { p with readback := none }).takeBack_kept serial .issue
  have hqueues := (State.sameQueues_syncPermitDefer (s := ((s.modPermit serial fun p => { p with readback := none }).takeBack serial .issue).modPermit
    serial fun p => { p with issue := if p.issue = some .delivered then p.issue else none }) serial).2
  refine ⟨(State.syncPermitDefer_crews _ _).trans hkept.2.1, (State.syncPermitDefer_orders _ _).trans (State.takeBack_orders _ _ _),
    fun c => ?_, fun o h => ?_⟩
  · rw [State.readbackTaken, State.dropIssue, hqueues]
    exact hkept.2.2 c
  · have htaken := State.noneWaits_kept_takeBack (s := s.modPermit serial fun p => { p with readback := none }) (serial := serial) h .issue
    exact State.noneWaits_of_queues (fun c e he _ => by rwa [State.readbackTaken, State.dropIssue, hqueues] at he) htaken

theorem State.readbackRight_kept (hst : p.state = .issuing) : (s.readbackRight serial).crews = s.crews
    ∧ (s.readbackRight serial).orders = s.orders
    ∧ (∀ c, ((s.readbackRight serial).chan c).queue.length ≤ (s.chan c).queue.length)
    ∧ ∀ o, s.noneWaits o → (s.readbackRight serial).noneWaits o := by
  obtain ⟨hcrews, horders, hlength, hwaits⟩ := s.readbackTaken_kept serial
  obtain ⟨q, hq, hframe⟩ := State.readbackTaken_record hp
  have howed := State.permit?_modPermit (s := s.readbackTaken serial) (f := fun p => { p with issueOwed := false }) (by intro; rfl) hq
  have hactive : q.state.active = true := by rw [show q.state = .issuing from (congrArg Permit.state hframe :).trans hst]; rfl
  rw [State.readbackRight, State.setPermitState_of_active howed hactive]
  refine ⟨(State.post_crews _ _).trans hcrews, (State.post_orders _ _).trans horders, fun c => ?_, fun o h => ?_⟩
  · rw [State.post_chan]
    exact hlength c
  · exact State.noneWaits_of_queues (fun c e he _ => by rw [State.post_chan] at he; exact he) (hwaits o h)

end

/-! ### READBACK of a crew (R79, R80, R81) -/

section
variable {s : State}

/-- What does not turn on how crews are reached and heard is kept as a telegram of a crew is accepted. -/
theorem Spares.accepting {may : Owner → Prop} {P : State → Prop} (hP : Spares may P)
    (hheard : ∀ (t : State) (n : Nat) (f : Crew → Crew),
      (∀ k, f k = { k with failures := (f k).failures, reach := (f k).reach, lastHeard := (f k).lastHeard, inSeq := (f k).inSeq }) →
        P t → P (t.modCrew n f)) {c : Chan} {f : Frame} {k : Crew} (hk : s.crew? k.slot = some k)
    (hs : P (s.modChan c (Channel.taking f))) : P (s.accepting c f k) := by
  have hroster := hP.rosterHeard (fun t n f hf => hheard t n f fun k => by rw [hf]) hs k.slot
  rw [State.accepting, State.acceptFrom_cases (s := s.modChan c (Channel.taking f)) hk]
  split
  · exact hroster
  · exact hheard _ _ _ (fun _ => rfl) hroster

theorem State.numbers_of_frame {t : State} (h : t.frame = s.frame) : t.orders.map (·.number) = s.orders.map (·.number) :=
  congrArg Shape.numbers (State.shape_of_frame h)

theorem State.HeadStands.accepting {n : Nat} {k : Crew} {o : Order} (hk : s.crew? k.slot = some k) (hhead : s.settledHead k n)
    (ho : s.order? n = some o) (hst : o.state ≠ .assigned ∧ o.state ≠ .sent) (c : Chan) (f : Frame) :
    (s.accepting c f k).HeadStands k.slot n k.queue s.priority? o.told := by
  obtain ⟨-, hsecond, hapart⟩ := hhead
  have hbefore : s.HeadStands k.slot n k.queue s.priority? o.told :=
    ⟨⟨congrArg (Option.map (·.queue)) hk, rfl⟩, hapart, congrArg (Option.map Order.told) ho⟩
  exact (headStands_spared (calm_of_none hsecond) hst.1 hst.2).accepting
    (fun t m f hf h => h.modCrew m fun k => by rw [hf]; exact ⟨rfl, fun _ => rfl, id⟩) hk (hbefore.of_records rfl rfl)

theorem Order.unblocked_frame {o o' : Order} (hframe : o'.frame = o.frame) (htold : o'.told = o.told) :
    o'.unblocked.frame = o.unblocked.frame := by
  simp only [Order.told, Prod.mk.injEq] at htold
  obtain ⟨-, -, hacceptance, -, hunanswered, hdeferral⟩ := htold
  have hof (o : Order) : o.unblocked.frame = { o.frame with
      state := .working, followUp := some (.cleared, .owed), acceptance := o.acceptance, unanswered := o.unanswered
      deferral := o.deferral } := rfl
  rw [hof, hof, hframe, hacceptance, hunanswered, hdeferral]

theorem Order.state_of_frame {o o' : Order} (h : o'.frame = o.frame) (hst : o.state.movable = false) : o'.state = o.state := by
  have hstate : (if o'.state.movable then OrderState.assigned else o'.state) = if o.state.movable then .assigned else o.state :=
    (congrArg Order.state h :)
  rw [hst] at hstate
  split at hstate
  · rw [show o.state = OrderState.assigned from hstate.symm] at hst
    cases hst
  · exact hstate

theorem State.modOrder_framePermits_congr {t : State} (h : t.framePermits = s.framePermits) (n : Nat) {g : Order → Order}
    (hg : ∀ o, (g o).frame = (g o.frame).frame) : (t.modOrder n g).framePermits = (s.modOrder n g).framePermits := by
  have horders := tMod_map_congr (fr := Order.frame) (fun _ => Order.frame_number _) hg n (congrArg State.orders h :)
  exact congrArg₂ (fun (u : State) (x : List Order) => ({ u with orders := x } : State)) h horders

end

theorem State.Noted.chan {s t : State} (h : s.Noted t) (c : Chan) : t.chan c = s.chan c := by
  rcases h with h | ⟨n, -, h⟩
  · rw [h]
  · rw [h, State.post_chan]

theorem State.accepting_digest {s : State} {c : Chan} {f : Frame} {k : Crew} (hk : s.crew? k.slot = some k) {p q : Permit}
    (hframe : q.frame = p.frame) (hholder : p.holder = k.slot) : (s.accepting c f k).digest q = s.digest p := by
  obtain ⟨k', hk', -, hunit, -⟩ := State.accepting_crew? (c := c) (f := f) hk hk
  have hserial : q.serial = p.serial := (congrArg Permit.serial hframe :)
  have hsteps : q.steps = p.steps := (congrArg Permit.steps hframe :)
  have hqholder : q.holder = k.slot := (congrArg Permit.holder hframe :).trans hholder
  rw [State.digest, State.digest, hqholder, hholder, hk', hk, digestOf, digestOf, hserial, hsteps]
  simp only [Option.map_some, hunit]

namespace State.Arrives
variable {s : State} {c : Chan} {bytes : List Byte} {f : Frame} {k : Crew} (h : s.Arrives c bytes f k)
  {hi lo x y : Byte} (hbody : ((s.chan c).assembling f).body = [hi, lo, x, y]) (hkind : ((s.chan c).assembling f).kind = kindReadback)
include h hbody hkind

theorem readback_ignored (hno : ∀ p, s.permit? (be16 hi lo) = some p → p.holder = k.slot → p.state ≠ .issuing) :
    Alike (s.event fun t => t.frameReceived c bytes) (s.replied c f k 1) := by
  refine h.alike_kept (State.route_readback hbody hkind) (State.readback_of_ignored fun q hq hholder => ?_)
  obtain ⟨p, hp, hframe⟩ := State.accepting_permit?_of (s := s.atEvent) h.stands hq
  have hstate : q.state = p.state := (congrArg Permit.state hframe :)
  rw [hstate]
  exact hno p hp ((congrArg Permit.holder hframe.symm :).trans hholder)

variable {p : Permit} (hp : s.permit? (be16 hi lo) = some p) (hholder : p.holder = k.slot) (hst : p.state = .issuing)
include hp hholder hst

omit hbody hkind in
/-- The permit as its readback is routed. -/
theorem readback : ∃ q, (s.atEvent.accepting c f k).permit? (be16 hi lo) = some q ∧ q.holder = k.slot ∧ q.state = .issuing
    ∧ q.frame = p.frame
    ∧ q.digest.getD ((s.atEvent.accepting c f k).digest q) = p.digest.getD (s.digest p) := by
  obtain ⟨q, hq, hframe⟩ := State.accepting_permit? (s := s.atEvent) (c := c) (f := f) h.stands hp
  have hdigest : q.digest = p.digest := (congrArg Permit.digest hframe :)
  refine ⟨q, hq, (congrArg Permit.holder hframe :).trans hholder, (congrArg Permit.state hframe :).trans hst, hframe, ?_⟩
  rw [hdigest, State.accepting_digest (s := s.atEvent) h.stands hframe hholder]
  rfl

/-- What a wrong readback brings (R80). -/
theorem readback_wrong (hwrong : be16 x y ≠ p.digest.getD (s.digest p)) :
    ∃ p', (s.event fun t => t.frameReceived c bytes).permit? (be16 hi lo) = some p'
      ∧ AlikeButPermits (s.event fun t => t.frameReceived c bytes) (s.replied c f k 1)
      ∧ (s.params.issueLimit ≤ p.issueCount → p'.state = .stalled ∧ p'.stall = some (.issuing, .readback))
      ∧ (p.issueCount < s.params.issueLimit → p'.state = .issuing
        ∧ (p.hold = false → p'.issueCount = p.issueCount + 1)
        ∧ (p.hold = true → p'.issueCount = p.issueCount ∧ p'.issueOwed = true)) := by
  obtain ⟨q, hq, hqholder, hqst, hframe, hdigest⟩ := h.readback hp hholder hst
  have hroute := State.route_readback (c := c) (s := s.atEvent.accepting c f k) (k := k) hbody hkind
  obtain ⟨hrest, r, hr, hstalls, hissues⟩ := State.readback_wrong hq hqholder hqst (by rw [hdigest]; exact hwrong)
  obtain ⟨p', hp', hafter⟩ := h.permit?_after hroute hr
  have hparams : (s.atEvent.accepting c f k).params = s.params :=
    (congrArg State.params (State.accepting_frame (s := s.atEvent) (c := c) (f := f) h.stands) :)
  have hcount : q.issueCount = p.issueCount := (congrArg Permit.issueCount hframe :)
  have hhold : q.hold = p.hold := (congrArg Permit.hold hframe :)
  have hstate : p'.state = r.state := (congrArg Permit.state hafter :)
  have hstall : p'.stall = r.stall := (congrArg Permit.stall hafter :)
  have hissued : p'.issueCount = r.issueCount := (congrArg Permit.issueCount hafter :)
  have howed : p'.issueOwed = r.issueOwed := (congrArg Permit.issueOwed hafter :)
  rw [hparams, hcount] at hstalls hissues
  rw [hhold] at hissues
  refine ⟨p', hp', h.alike_but_permits hroute hrest, ?_⟩
  rw [hstate, hstall, hissued, howed]
  exact ⟨hstalls, hissues⟩

section
variable (hright : be16 x y = p.digest.getD (s.digest p))
include hright

/-- The state after a right readback, and its permit (R79). -/
theorem readback_right : ((s.atEvent.accepting c f k).readbackRight (be16 hi lo)).crews = (s.atEvent.accepting c f k).crews
    ∧ ((s.atEvent.accepting c f k).readbackRight (be16 hi lo)).orders = (s.atEvent.accepting c f k).orders
    ∧ (∀ d, (((s.atEvent.accepting c f k).readbackRight (be16 hi lo)).chan d).queue.length ≤ ((s.atEvent.accepting c f k).chan d).queue.length)
    ∧ (∀ o, (s.atEvent.accepting c f k).noneWaits o → ((s.atEvent.accepting c f k).readbackRight (be16 hi lo)).noneWaits o)
    ∧ (s.atEvent.accepting c f k).route c k ((s.chan c).assembling f)
      = (((s.atEvent.accepting c f k).readbackRight (be16 hi lo)).tellInForce (be16 hi lo) k.slot, 1)
    ∧ ∃ p', (s.event fun t => t.frameReceived c bytes).permit? (be16 hi lo) = some p' ∧ p'.state = .inForce ∧ p'.readback = none
      ∧ p'.issueOwed = false := by
  obtain ⟨q, hq, hqholder, hqst, hframe, hdigest⟩ := h.readback hp hholder hst
  have hroute : (s.atEvent.accepting c f k).route c k ((s.chan c).assembling f)
      = (((s.atEvent.accepting c f k).readbackRight (be16 hi lo)).tellInForce (be16 hi lo) k.slot, 1) := by
    rw [State.route_readback hbody hkind, State.readback_of_issuing hq hqholder hqst, if_pos (hright.trans hdigest.symm)]
  obtain ⟨r, hr, hrst, hrread, hrowed⟩ := State.readbackRight_record hq
  have htold := State.tellInForce_permit? (s := (s.atEvent.accepting c f k).readbackRight (be16 hi lo)) (be16 hi lo) k.slot (be16 hi lo)
  rw [hr] at htold
  obtain ⟨r', hr', hr'frame⟩ := Option.map_eq_some_iff.1 htold
  obtain ⟨p', hp', hafter⟩ := h.permit?_after hroute hr'
  have hsame := hafter.trans hr'frame
  obtain ⟨hcrews, horders, hlength, hwaits⟩ := State.readbackRight_kept hq hqst
  exact ⟨hcrews, horders, hlength, hwaits, hroute, p', hp', (congrArg Permit.state hsame :).trans hrst,
    (congrArg Permit.readback hsame :).trans hrread, (congrArg Permit.issueOwed hsame :).trans hrowed⟩

omit h hbody hkind hp hholder hst hright in
/-- What orders are BLOCKED under the permit as its readback is routed. -/
theorem blockedOnly (h : s.Arrives c bytes f k) {serial : Nat} {l : List Nat} (hblocked : s.BlockedOnly serial k.slot l) :
    (s.atEvent.accepting c f k).BlockedOnly serial k.slot l :=
  (blockedOnly_spared serial k.slot l).accepting (s := s.atEvent) (fun _ _ _ _ h => h) h.stands hblocked

/-- A right readback of a permit under which no order is BLOCKED (R79). -/
theorem readback_unblocked (hnone : s.BlockedOnly (be16 hi lo) k.slot []) :
    AlikeButPermits (s.event fun t => t.frameReceived c bytes) (s.replied c f k 1) := by
  obtain ⟨-, horders, -, -, hroute, -⟩ := h.readback_right hbody hkind hp hholder hst hright
  have hnone' : ((s.atEvent.accepting c f k).readbackRight (be16 hi lo)).BlockedOnly (be16 hi lo) k.slot [] := by
    rw [State.BlockedOnly, horders]
    exact h.blockedOnly hnone
  rw [State.tellInForce_of_none hnone'] at hroute
  exact h.alike_but_permits hroute State.readbackRight_framePermits

/-- The one order BLOCKED under the permit, as its readback is routed. -/
theorem blocked_stands {n : Nat} {o : Order} (ho : s.order? n = some o) (hblocked : o.state = .blocked) (hhead : s.settledHead k n) :
    ∃ o', ((s.atEvent.accepting c f k).readbackRight (be16 hi lo)).order? n = some o' ∧ o'.frame = o.frame ∧ o'.told = o.told := by
  obtain ⟨-, horders, -⟩ := h.readback_right hbody hkind hp hholder hst hright
  have hstands := State.HeadStands.accepting (s := s.atEvent) h.stands hhead ho (by rw [hblocked]; exact ⟨nofun, nofun⟩) c f
  obtain ⟨o', ho', htold⟩ := Option.map_eq_some_iff.1 hstands.record
  have hframe := State.order?_of_frameWatch (State.frameWatch_of_frame (State.accepting_frame (s := s.atEvent) (c := c) (f := f) h.stands)) n
  have hbefore : ((s.atEvent.accepted c f k).order? n) = some o := ho
  rw [ho', hbefore] at hframe
  exact ⟨o', (congrArg (tFind Order.number n) horders).trans ho', Option.some_inj.1 hframe, htold⟩

/-- A right readback of a permit under which one order is BLOCKED, the head of its crew's queue (R79, R81). -/
theorem readback_blocked {n : Nat} {o : Order} (hrising : rising (s.orders.map (·.number))) (ho : s.order? n = some o)
    (hblocked : o.state = .blocked) (hbound : o.bound = some (be16 hi lo)) (hcrew : o.crew = some k.slot) (hhead : s.settledHead k n)
    (hone : s.BlockedOnly (be16 hi lo) k.slot [n]) :
    (s.atEvent.accepting c f k).route c k ((s.chan c).assembling f)
        = (((s.atEvent.accepting c f k).readbackRight (be16 hi lo)).clearBlocked n k.slot, 1)
      ∧ AlikeButPermits (s.event fun t => t.frameReceived c bytes) ((s.replied c f k 1).modOrder n Order.unblocked) := by
  obtain ⟨-, horders, -, -, hroute, -⟩ := h.readback_right hbody hkind hp hholder hst hright
  obtain ⟨o', ho', hframe, htold⟩ := h.blocked_stands hbody hkind hp hholder hst hright ho hblocked hhead
  have haccepting := State.accepting_frame (s := s.atEvent) (c := c) (f := f) h.stands
  generalize hv : (s.atEvent.accepting c f k).readbackRight (be16 hi lo) = v at hroute ho' horders ⊢
  have hrising' : rising (v.orders.map (·.number)) := by
    rw [horders, State.numbers_of_frame haccepting]
    exact hrising
  have hone' : v.BlockedOnly (be16 hi lo) k.slot [n] := by
    rw [State.BlockedOnly, horders]
    exact h.blockedOnly hone
  have hclears := State.tellInForce_of_one hone' hrising' ho' ((congrArg (·.1) htold).trans hblocked)
    ((congrArg Order.bound hframe :).trans hbound) ((congrArg Order.crew hframe :).trans hcrew)
  rw [hclears] at hroute
  refine ⟨hroute, State.event_alikeButPermits ?_⟩
  have hrest : v.framePermits = (s.atEvent.accepted c f k).framePermits := by
    rw [← hv]
    exact State.readbackRight_framePermits.trans (State.framePermits_of_frame haccepting)
  have hset : (v.clearBlocked n k.slot).framePermits = ((s.atEvent.accepted c f k).modOrder n Order.unblocked).framePermits :=
    calc (v.clearBlocked n k.slot).framePermits
      _ = (v.modOrder n Order.unblocked).framePermits := State.framePermits_of_frame (State.clearBlocked_frame n k.slot)
      _ = (v.modOrder n fun _ => o.unblocked).framePermits :=
        State.framePermits_of_frame (State.modOrder_frame_at hrising' ho' (Order.unblocked_frame hframe htold))
      _ = ((s.atEvent.accepted c f k).modOrder n fun _ => o.unblocked).framePermits := State.modOrder_framePermits_congr hrest n fun _ => rfl
      _ = ((s.atEvent.accepted c f k).modOrder n Order.unblocked).framePermits :=
        State.framePermits_of_frame (State.modOrder_frame_at (s := s.atEvent.accepted c f k) hrising ho rfl)
  rw [h.atEvent.work hroute, State.modChan_framePermits_congr hset c fun _ => rfl]
  exact congrArg (fun t : State => (t.modOrder n Order.unblocked).framePermits) (State.accepted_answering (s := s.atEvent))

/-- The ORDER_CLEARED of the order set WORKING waits in its crew's queue (R81, R166). -/
theorem readback_cleared {n : Nat} {o : Order} (hrising : rising (s.orders.map (·.number))) (ho : s.order? n = some o)
    (hblocked : o.state = .blocked) (hbound : o.bound = some (be16 hi lo)) (hcrew : o.crew = some k.slot) (hhead : s.settledHead k n)
    (hone : s.BlockedOnly (be16 hi lo) k.slot [n]) (hreach : k.reach ≠ .lost) (hroom : (s.chan k.current).queue.length < 24)
    (hwaits : s.noneWaits (.followUp n)) :
    ((s.event fun t => t.frameReceived c bytes).order? n).map (fun o => (o.state, o.followUp)) = some (.working, some (.cleared, .queued))
      ∧ ∃ e ∈ ((s.event fun t => t.frameReceived c bytes).chan k.current).queue, e.Clears k.addr n (be16 hi lo) := by
  obtain ⟨hcrews, -, hlength, hnone, -, -⟩ := h.readback_right hbody hkind hp hholder hst hright
  obtain ⟨o', ho', hframe, -⟩ := h.blocked_stands hbody hkind hp hholder hst hright ho hblocked hhead
  obtain ⟨hroute, -⟩ := h.readback_blocked hbody hkind hp hholder hst hright hrising ho hblocked hbound hcrew hhead hone
  obtain ⟨k', hk', hslot, hunit, hcurrent, -⟩ := State.accepting_crew? (s := s.atEvent) (c := c) (f := f) h.stands h.stands
  have hqueues (d : Chan) : ((s.atEvent.accepting c f k).chan d).queue = (s.chan d).queue := by
    have hnoted := State.accepting_noted (s := s.atEvent) (c := c) (f := f) h.stands (.inl hreach)
    rw [hnoted.chan]
    refine (congrArg Channel.queue (State.modChan_chan (s := s.atEvent) (c := c) (d := d) (f := Channel.taking f))).trans ?_
    split
    next heq => subst heq; rfl
    · rfl
  generalize hv : (s.atEvent.accepting c f k).readbackRight (be16 hi lo) = v at hroute ho' hlength hcrews hnone
  have hk1 : v.crew? k.slot = some k' := (congrArg (tFind Crew.slot k.slot) hcrews).trans hk'
  have hroom' : (v.chan k'.current).queue.length < 24 := by
    rw [hcurrent]
    exact (hlength _).trans_lt (by rw [hqueues]; exact hroom)
  have hwaits' : v.noneWaits (.followUp n) := hnone _ (State.noneWaits_of_queues (fun d e he _ => by rwa [hqueues] at he) hwaits)
  obtain ⟨hfollowed, hqueued⟩ := State.clearBlocked_told ho' ((congrArg Order.bound hframe :).trans hbound)
    ((congrArg Order.crew hframe :).trans hcrew) hk1 hroom' hwaits'
  have haddr : k'.addr = k.addr := by rw [Crew.addr, Crew.addr, hslot, hunit]
  rw [hcurrent, haddr] at hqueued
  have hwork := h.atEvent.work hroute
  have hfollowed' : (s.event fun t => t.frameReceived c bytes).Followed n .cleared .queued := by
    refine (followed_spared n .cleared (st := .queued) nofun).event ?_
    rw [hwork]
    exact hfollowed.modChan fun ch x hx => .inl hx
  have hqueued' := (firm_spared k.current fun (e : Entry) (he : e.Clears k.addr n (be16 hi lo)) => he.firm).event (s := s)
    (work := fun t => t.frameReceived c bytes) (by
      obtain ⟨e, he, hclears⟩ := hqueued
      rw [hwork]
      exact ⟨e, State.mem_queue_modChan he id, hclears⟩)
  refine ⟨?_, hqueued'⟩
  obtain ⟨u, hu, hufollow⟩ := Option.map_eq_some_iff.1 hfollowed'.record
  have huframe := State.event_order?_frame s (fun t => t.frameReceived c bytes) n
  rw [hwork] at huframe
  have hcleared := State.order?_of_frameWatch (State.frameWatch_of_frame (State.clearBlocked_frame (s := v) n k.slot)) n
  rw [State.order?_modOrder (f := Order.unblocked) (by intro; rfl) ho'] at hcleared
  rw [hu] at huframe ⊢
  have hustate := Order.state_of_frame (Option.some_inj.1 (huframe.trans hcleared)) rfl
  exact congrArg some (Prod.ext hustate hufollow)

end
end State.Arrives

end Sys2Proof.Machine
end

section
/-!
How a received frame is judged, answered and routed: O59.
-/

namespace Sys2Proof.Machine
/-! ### A telegram from a stranger, and one received before (R183, R186) -/

section
variable {s : State} {c : Chan} {bytes : List Byte} {f : Frame}
  (hover : (s.chan c).state = .receiving ∧ receptionOver (s.chan c).carrier bytes = true) (hframe : readFrame bytes = some f)
  (hbase : f.header.toBase = true) (hkind : f.header.kind ≠ 1) (hwhole : ((s.chan c).assembling f).complete = true)
include hover hframe hbase hkind hwhole

/-- A telegram that brings a notice at most. -/
theorem State.frameReceived_of_judge {code : Nat} {x : Subject}
    (hjudge : (s.modChan c (Channel.taking f)).judge c ((s.chan c).assembling f) = ((s.modChan c (Channel.taking f)).post x, code)) :
    s.frameReceived c bytes = (s.modChan c (Channel.replying f .finish code (fullMap (blockCount f.header.len)) none)).post x := by
  rw [State.frameReceived_whole hover hframe hbase hkind hwhole, hjudge]
  dsimp only
  rw [State.post_modChan, State.taking_answering, ← State.post_modChan]

theorem State.frameReceived_of_repeated {k : Crew} (hk : s.crewOfUnit? f.header.src = some k) (hseq : k.inSeq = some f.header.seq) :
    s.frameReceived c bytes = s.modChan c (Channel.replying f .finish 1 (fullMap (blockCount f.header.len)) none) := by
  obtain ⟨hsrc, hseq', -, -⟩ := (s.chan c).assembling_header f
  rw [State.frameReceived_whole hover hframe hbase hkind hwhole,
    State.judge_of_repeated (k := k) (by rw [hsrc]; exact hk) (by rw [hseq']; exact hseq), State.taking_answering]
  rfl

variable (hnone : s.crewOfUnit? f.header.src = none)
include hnone

theorem State.frameReceived_of_stranger (hother : f.header.kind ≠ kindEmergency) : s.frameReceived c bytes =
    (s.modChan c (Channel.replying f .finish 4 (fullMap (blockCount f.header.len)) none)).post
      (.stranger c f.header.src f.header.kind f.header.seq) := by
  obtain ⟨hsrc, hseq, hkind', -⟩ := (s.chan c).assembling_header f
  refine State.frameReceived_of_judge hover hframe hbase hkind hwhole ?_
  rw [State.judge_of_stranger (by rw [hsrc]; exact hnone), State.fromStranger, if_neg (by rw [hkind']; exact hother), hsrc, hseq, hkind']
  rfl

variable (hemergency : f.header.kind = kindEmergency)
include hemergency

theorem State.frameReceived_of_strangerEmergency {h l x : Byte} (hbody : ((s.chan c).assembling f).body = [h, l, x]) :
    s.frameReceived c bytes = (s.modChan c (Channel.replying f .finish 1 (fullMap (blockCount f.header.len)) none)).post
      (.strangerEmergency c f.header.src f.header.seq (be16 h l) (emergencyCause x.toNat)) := by
  obtain ⟨hsrc, hseq, hkind', -⟩ := (s.chan c).assembling_header f
  refine State.frameReceived_of_judge hover hframe hbase hkind hwhole ?_
  rw [State.judge_of_stranger (by rw [hsrc]; exact hnone), State.fromStranger, if_pos (by rw [hkind']; exact hemergency), hbody, hsrc, hseq]
  rfl

theorem State.frameReceived_of_strangerUnfit (hbody : ((s.chan c).assembling f).body.length ≠ 3) :
    s.frameReceived c bytes = (s.modChan c (Channel.replying f .finish 1 (fullMap (blockCount f.header.len)) none)).post
      (.strangerEmergency c f.header.src f.header.seq 0 .panic) := by
  obtain ⟨hsrc, hseq, hkind', -⟩ := (s.chan c).assembling_header f
  refine State.frameReceived_of_judge hover hframe hbase hkind hwhole ?_
  rw [State.judge_of_stranger (by rw [hsrc]; exact hnone), State.fromStranger, if_pos (by rw [hkind']; exact hemergency), hsrc, hseq]
  split
  next heq => rw [heq] at hbody; exact absurd rfl hbody
  · rfl

end

/-! ### The telegrams of the watch as O59 tells them (R108 to R111) -/

namespace State.Arrives
variable {s : State} {c : Chan} {bytes : List Byte} {f : Frame} {k : Crew} (h : s.Arrives c bytes f k)
  {hi lo : Byte} (hbody : ((s.chan c).assembling f).body = [hi, lo]) (hin : be16 hi lo ∈ k.members) {w : Worker}
  (hw : s.worker? (be16 hi lo) = some w)
include h hbody hin hw

/-- A CHECK_IN or RESUME that puts the member under watch again (R108, R110). -/
theorem watched_again {e lead : Nat} {g : Worker → Worker}
    (he : e = effectiveInterval w.interval w.missed (s.highRisk w.crew) s.params.highRiskCap) (hl : lead = leadTime s.params.promptLead e)
    (hkind : (((s.chan c).assembling f).kind = kindCheckIn ∨ ((s.chan c).assembling f).kind = kindResume)
        ∧ (w.watch = .watching ∨ w.watch = .due)
      ∨ ((s.chan c).assembling f).kind = kindResume ∧ w.watch = .resting)
    (hg : ∀ v : Worker, (g v).frame
      = (if w.watch = .watching then v.restarted e lead else { v.restarted e lead with watch := .watching }).frame) :
    Alike (s.event fun t => t.frameReceived c bytes) ((s.replied c f k 1).modWorker (be16 hi lo) g)
      ∧ ((s.event fun t => t.frameReceived c bytes).worker? (be16 hi lo)).map (·.leadOwed) = some (decide (0 < lead)) := by
  obtain ⟨halike, howed⟩ := h.restarts hw he hl fun w' hw' hsame => by
    rw [← hsame] at hkind
    rcases hkind with ⟨hcheck | hresume, hwatch⟩ | ⟨hresume, hwatch⟩
    · exact (h.watch_of_checkIn hbody hin hcheck).trans (by rw [State.checkIn_of_watched hw' hwatch])
    · exact (h.watch_of_resume hbody hin hresume).trans (by rw [State.resume_of_watched hw' (hwatch.imp_right .inl)])
    · exact (h.watch_of_resume hbody hin hresume).trans (by rw [State.resume_of_watched hw' (.inr (.inr hwatch))])
  exact ⟨halike.trans (congrArg State.bare (State.modWorker_frame_ext (be16 hi lo) fun v => (hg v).symm)), howed⟩

/-- A CHECK_IN or RESUME of a member that is not under watch (R108, R110). -/
theorem watch_stands
    (hkind : ((s.chan c).assembling f).kind = kindCheckIn ∧ w.watch = .resting
      ∨ (((s.chan c).assembling f).kind = kindCheckIn ∨ ((s.chan c).assembling f).kind = kindResume)
        ∧ (w.watch = .off ∨ w.watch = .alarm ∨ w.watch = .acknowledged)) :
    Alike (s.event fun t => t.frameReceived c bytes) (s.replied c f k 1) := by
  obtain ⟨w', hw', hsame, -⟩ := h.worker hw
  rw [← hsame] at hkind
  rcases hkind with ⟨hcheck, hwatch⟩ | ⟨hcheck | hresume, hwatch⟩
  · exact h.alike_kept (h.watch_of_checkIn hbody hin hcheck) (State.checkIn_of_not hw' (by rw [hwatch]; exact ⟨nofun, nofun⟩))
  · refine h.alike_kept (h.watch_of_checkIn hbody hin hcheck) (State.checkIn_of_not hw' ?_)
    rcases hwatch with h | h | h <;> (rw [h]; exact ⟨nofun, nofun⟩)
  · exact h.alike_kept (h.watch_of_resume hbody hin hresume) (State.resume_of_not hw' hwatch)

variable (hkind : ((s.chan c).assembling f).kind = kindRest)
include hkind

/-- A REST that begins (R109). -/
theorem rests (hwatch : w.watch = .watching ∨ w.watch = .due) (hrisk : s.highRisk w.crew = false) :
    Alike (s.event fun t => t.frameReceived c bytes) ((s.replied c f k 1).modWorker (be16 hi lo) fun w =>
      { w with watch := .resting, remaining := some s.params.restLimit, graceLeft := none }) := by
  obtain ⟨w', hw', hsame, -, hrisk', -⟩ := h.worker hw
  have hframe := State.accepting_frame (s := s.atEvent) (c := c) (f := f) h.stands
  have hparams : (s.atEvent.accepting c f k).params = s.params := (congrArg State.params hframe :)
  obtain ⟨hcode, hrest⟩ := State.rest_of_watched hw' (by rw [hsame]; exact hwatch) (hrisk'.trans hrisk)
  rw [hparams] at hrest
  refine h.alike (effect := fun u => u.modWorker (be16 hi lo) fun w =>
    { w with watch := .resting, remaining := some s.params.restLimit, graceLeft := none })
    ((h.watch_of_rest hbody hin hkind).trans (Prod.ext rfl hcode)) (hrest.trans ?_) fun _ => rfl
  exact State.modWorker_frame_congr hframe _ fun _ => rfl

/-- A REST that is refused (R109). -/
theorem rest_refused (hno : (w.watch ≠ .watching ∧ w.watch ≠ .due) ∨ s.highRisk w.crew = true) :
    Alike (s.event fun t => t.frameReceived c bytes) (s.replied c f k 3) := by
  obtain ⟨w', hw', hsame, -, hrisk', -⟩ := h.worker hw
  obtain ⟨hcode, hrest⟩ := State.rest_of_refused hw' (by rw [hsame, hrisk']; exact hno)
  exact h.alike_kept ((h.watch_of_rest hbody hin hkind).trans (Prod.ext rfl hcode)) hrest

end State.Arrives

/-! ### How a received frame is judged: O59 -/

/-- Which telegrams a kind takes, as one test (R187). -/
theorem fitsKind_eq (kind len : Nat) : fitsKind kind len = ((kind == 0x30 && 1 ≤ len && len ≤ 80)
    || ((kind == 0x21 || kind == 0x25) && len == 3)
    || ((kind == 0x22 || kind == 0x23 || kind == 0x24 || kind == 0x28) && len == 2)
    || ((kind == 0x26 || kind == 0x27) && len == 4)) := by
  simp only [fitsKind, kindText, kindOrderReply, kindEmergency, kindCheckIn, kindRest, kindResume, kindSurrender, kindStepReport,
    kindReadback]
  by_cases htext : kind = 0x30
  · simp [htext]
  by_cases hthree : kind = 0x21 ∨ kind = 0x25
  · rcases hthree with h | h <;> simp [h]
  by_cases htwo : kind = 0x22 ∨ kind = 0x23 ∨ kind = 0x24 ∨ kind = 0x28
  · rcases htwo with h | h | h | h <;> simp [h]
  by_cases hfour : kind = 0x26 ∨ kind = 0x27
  · rcases hfour with h | h <;> simp [h]
  simp only [not_or] at hthree htwo hfour
  simp [htext, hthree, htwo, hfour]

section
variable {s : State} {c : Chan} {bytes : List Byte} {f : Frame} {k : Crew}

theorem runs_frame_chan {g : Channel → Channel} (hw : s.atEvent.frameReceived c bytes = s.atEvent.modChan c g) :
    Runs (.frameReceived c bytes) s (Takes s (s.modChan c g)) :=
  runs_event_effect (work := fun t => t.frameReceived c bytes) rfl hw rfl rfl rfl rfl

theorem runs_frame_post {g : Channel → Channel} {x : Subject} (hw : s.atEvent.frameReceived c bytes = (s.atEvent.modChan c g).post x) :
    Runs (.frameReceived c bytes) s (Takes s ((s.modChan c g).post x)) :=
  runs_event_effect (work := fun t => t.frameReceived c bytes) rfl (hw.trans (State.atEvent_post (s.modChan c g) x))
    (State.post_held _ _) (State.post_responseLost _ _) (State.post_linkOut _ _) (State.post_pending _ _)

theorem State.Arrives.gives {effect : State} (halike : Alike (s.event fun t => t.frameReceived c bytes) effect) :
    Runs (.frameReceived c bytes) s fun t => Quiet s t ∧ Alike t effect := ⟨_, rfl, State.Arrives.quiet, halike⟩

end

/-- Settles O59: a frame in error or not for the part through the rules of the end of a reception, a telegram by who sent it, and a new
one of a crew by the routing of its kind. -/
theorem frameReceivedIsJudged : Obligations.FrameReceivedIsJudged := by
  intro c bytes s cmd ch done ignored answering
  refine ⟨fun hnot => ?_, fun hdone hignored horigin => ?_, fun hdone hignored horigin => ?_, fun f hdone hframe hbase hkind => ?_⟩
  · exact runs_event_effect (effect := s) (work := fun t => t.frameReceived c bytes) rfl (State.frameReceived_of_not (s := s.atEvent) hnot)
      rfl rfl rfl rfl
  · exact runs_frame_chan (State.frameReceived_idle (s := s.atEvent) hdone hignored horigin)
  · exact runs_frame_chan (State.frameReceived_awaitRepeat (s := s.atEvent) hdone hignored horigin)
  intro held a full
  refine ⟨fun hpart => ?_, fun hwhole hnone hother => ?_, fun hi lo x hwhole hnone hemergency hbody => ?_,
    fun hwhole hnone hemergency hbody => ?_, fun k hwhole hk hseq => ?_, fun k hwhole hk hstands hnew => ?_⟩
  · exact runs_frame_chan (State.frameReceived_part (s := s.atEvent) hdone hframe hbase hkind hpart)
  · exact runs_frame_post (State.frameReceived_of_stranger (s := s.atEvent) hdone hframe hbase hkind hwhole hnone hother)
  · exact runs_frame_post (State.frameReceived_of_strangerEmergency (s := s.atEvent) hdone hframe hbase hkind hwhole hnone hemergency hbody)
  · exact runs_frame_post (State.frameReceived_of_strangerUnfit (s := s.atEvent) hdone hframe hbase hkind hwhole hnone hemergency hbody)
  · exact runs_frame_chan (State.frameReceived_of_repeated (s := s.atEvent) hdone hframe hbase hkind hwhole hk hseq)
  intro kind len fits busy heard gives
  have h : s.Arrives c bytes f k := ⟨hdone, hframe, hbase, hkind, hwhole, hk, hstands, hnew⟩
  obtain ⟨-, -, hkind', -⟩ := ch.assembling_header f
  have hkind' : a.kind = kind := hkind'
  have hfits : fits = fitsKind a.kind a.body.length := by
    rw [fitsKind_eq, hkind']
  have hheard (code : Nat) : heard code = s.replied c f k code := by
    have hbusy : busy = s.busy c a := by
      show (kind == 0x30 && fits && decide (2 ≤ ch.mailbox.length)) = _
      rw [hfits, State.busy, hkind']
      rfl
    show (s.modChan c (Channel.replying f .finish code full none)).modCrew k.slot (Crew.accepted s.clock f.header.seq busy) = _
    rw [hbusy]
    rfl
  have hgives {code : Nat} {effect : State → State}
      (halike : Alike (s.event fun t => t.frameReceived c bytes) (effect (s.replied c f k code))) : gives code effect := by
    show Runs _ _ fun t => Quiet s t ∧ Alike t (effect (heard code))
    rw [hheard]
    exact State.Arrives.gives halike
  clear_value heard
  obtain rfl : heard = s.replied c f k := funext hheard
  refine ⟨fun hno => ?_, fun htext hfit hfull => ?_, fun htext hfit hroom => ?_, fun hi lo hbody hwatch hout => ?_,
    fun hi lo w hbody hin hw => ?_, fun hi lo x hbody hemergency hinv => ?_, fun hi lo x hbody hreply => ?_,
    fun hi lo x y hbody hreport => ?_, fun hi lo x y hbody hread => ?_, fun hi lo hbody hask => ?_⟩
  · exact hgives (h.unfit (hfits.symm.trans hno))
  · exact hgives (h.text_full (hfits.symm.trans hfit) (hkind'.trans htext) hfull)
  · exact hgives (effect := fun u => u.modChan c _) (h.text_room (hfits.symm.trans hfit) (hkind'.trans htext) hroom)
  · exact hgives (h.watch_of_stranger hbody (hwatch.imp hkind'.trans (.imp hkind'.trans hkind'.trans)) hout)
  · intro e restarted restarts
    have hrestarts {g : Worker → Worker}
        (hwhich : (a.kind = kindCheckIn ∨ a.kind = kindResume) ∧ (w.watch = .watching ∨ w.watch = .due)
          ∨ a.kind = kindResume ∧ w.watch = .resting)
        (hg : ∀ v : Worker, (g v).frame = (if w.watch = .watching then v.restarted e (leadTime s.params.promptLead e)
          else { v.restarted e (leadTime s.params.promptLead e) with watch := .watching }).frame) : restarts g :=
      ⟨_, rfl, State.Arrives.quiet, h.watched_again hbody hin hw rfl rfl hwhich hg⟩
    refine ⟨fun hwhich hwatch => hrestarts (.inl ⟨hwhich.imp hkind'.trans hkind'.trans, .inl hwatch⟩) fun v => ?_,
      fun hwhich => hrestarts ?_ fun v => ?_, fun hwhich => hgives (h.watch_stands hbody hin hw ?_), fun hrest hwatch hrisk =>
        hgives (effect := fun u => u.modWorker (be16 hi lo) _) (h.rests hbody hin hw (hkind'.trans hrest) hwatch hrisk), fun hrest hno =>
        hgives (h.rest_refused hbody hin hw (hkind'.trans hrest) hno)⟩
    · rw [if_pos hwatch]
      rfl
    · exact hwhich.imp (fun hd => ⟨hd.1.imp hkind'.trans hkind'.trans, .inr hd.2⟩) fun hd => ⟨hkind'.trans hd.1, hd.2⟩
    · rw [if_neg (by rcases hwhich with ⟨-, h⟩ | ⟨-, h⟩ <;> (rw [h]; nofun))]
      rfl
    · exact hwhich.imp (fun hd => ⟨hkind'.trans hd.1, hd.2⟩) fun hd => ⟨hd.1.imp hkind'.trans hkind'.trans, hd.2⟩
  · intro cause entered
    obtain ⟨-, -, -, -, ⟨hserials, -⟩⟩ := hinv.tables
    have hcause : cause = emergencyCause x.toNat := by
      show (if x.toNat = 2 then AlarmCause.manDown else .panic) = _
      rfl
    clear_value cause
    subst hcause
    have hkind' := hkind'.trans hemergency
    exact ⟨fun w at' hin hw hat => ⟨fun hwatch => hgives (effect := fun u => (entered (.worker (be16 hi lo)) at' u).modWorker (be16 hi lo) _)
          (h.worker_alarmed hbody hkind' hin hw hat hwatch hserials),
        fun hwatch => hgives (effect := fun u => u.modWorker (be16 hi lo) _) (h.worker_alarmed_again hbody hkind' hin hw hat hwatch)⟩,
      fun hno => ⟨fun halarm => hgives (effect := fun u => (entered (.crew k.slot) k u).modCrew k.slot _)
          (h.crew_alarmed hbody hkind' hno halarm hserials),
        fun halarm => hgives (effect := fun u => u.modCrew k.slot _) (h.crew_alarmed_again hbody hkind' hno halarm)⟩⟩
  · intro n reply allowed
    have hkind' := hkind'.trans hreply
    refine ⟨fun hreach hno => hgives (h.reply_ignored hbody hkind' hreach hno), fun o ho hhead htakes howed => ?_⟩
    intro mayWork alone stays leaves
    have hstays {st : OrderState} {g : Order → Order} (hmoved : Alike (s.event fun t => t.frameReceived c bytes) ((s.replied c f k 1).modOrder n g)
        ∧ (k.queue = [n] → (∀ k' ∈ s.crews, k'.slot ≠ k.slot → n ∉ k'.queue) →
          ((s.event fun t => t.frameReceived c bytes).order? n).map (fun o => (o.state, o.acceptance, o.unanswered))
            = some (st, (g o).acceptance, o.unanswered))) : stays st g :=
      ⟨_, rfl, State.Arrives.quiet, hmoved.1, fun halone => hmoved.2 halone.1 halone.2⟩
    have hleaves {g : Order → Order} (halike : Alike (s.event fun t => t.frameReceived c bytes)
        (((s.replied c f k 1).modOrder n g).modCrew k.slot fun k => { k with queue := k.queue.erase n })) : leaves g :=
      hgives (effect := fun u => (u.modOrder n g).modCrew k.slot _) halike
    have hwork := h.reply_mayWork ho hhead htakes howed
    exact ⟨fun hone => hstays (h.reply_accept hbody hkind' ho hhead htakes howed hone),
      fun htwo => hleaves (h.reply_decline hbody hkind' ho hhead htakes howed htwo),
      fun hthree hmay => hstays (h.reply_onSite hbody hkind' ho hhead htakes howed hthree (if_pos (hwork.2 hmay))),
      fun hthree hmay => hstays (h.reply_onSite hbody hkind' ho hhead htakes howed hthree (if_neg fun hno => hmay (hwork.1 hno))),
      fun hfour => hleaves (h.reply_complete hbody hkind' ho hhead htakes howed hfour),
      fun hfive => hleaves (h.reply_unable hbody hkind' ho hhead htakes howed hfive)⟩
  · intro serial
    have hkind' := hkind'.trans hreport
    refine ⟨fun hno => hgives (h.report_ignored hbody hkind' hno), fun p i d hp hholder hout hindex hd hno houtcome => ?_⟩
    obtain ⟨p', hp', hrest⟩ := h.reported hbody hkind' hp hholder hout hindex houtcome hd hno
    exact ⟨_, rfl, p', hp', State.Arrives.quiet, hrest⟩
  · intro serial
    have hkind' := hkind'.trans hread
    refine ⟨fun hno => hgives (h.readback_ignored hbody hkind' hno), fun p hp hholder hst => ?_⟩
    intro right
    by_cases hright : right
    · obtain ⟨-, -, -, -, -, p', hp', hforce, hreadback, howed⟩ := h.readback_right hbody hkind' hp hholder hst hright
      refine ⟨_, rfl, p', hp', State.Arrives.quiet, fun _ => ⟨hforce, hreadback, howed⟩, fun hwrong => absurd hright hwrong,
        fun hwrong => absurd hright hwrong, fun hnone => ?_, fun _ hinv n hhead => ?_⟩
      · exact h.readback_unblocked hbody hkind' hp hholder hst hright fun o ho hblocked hbound hcrew =>
          absurd hcrew (hnone.resolve_left (not_not.2 hright) o ho hblocked hbound)
      · rintro cleared ⟨o, ho, hblocked, hbound, hcrew⟩ honly
        obtain ⟨-, -, ⟨hrising, -⟩, -⟩ := hinv.tables
        have hone : s.BlockedOnly serial k.slot [n] := fun o ho hblocked hbound hcrew =>
          List.mem_singleton.2 (honly o ho ⟨hblocked, hbound, hcrew⟩)
        refine ⟨(h.readback_blocked hbody hkind' hp hholder hst hright hrising ho hblocked hbound hcrew hhead hone).2,
          fun hreach hroom hwaits => ?_⟩
        obtain ⟨horder, e, he, hclears⟩ := h.readback_cleared hbody hkind' hp hholder hst hright hrising ho hblocked hbound hcrew hhead hone
          hreach hroom hwaits
        exact ⟨horder, e, he, hclears.owner, hclears.kind, hclears.cls, hclears.addr, hclears.body⟩
    · obtain ⟨p', hp', halike, hstalls, hissues⟩ := h.readback_wrong hbody hkind' hp hholder hst hright
      exact ⟨_, rfl, p', hp', State.Arrives.quiet, fun h => absurd h hright, fun _ => hstalls, fun _ => hissues, fun _ => halike,
        fun h => absurd h hright⟩
  · intro serial
    have hkind' := hkind'.trans hask
    refine ⟨fun hno => hgives (h.surrender_ignored hbody hkind' hno), fun p hp hholder hst hnot => ?_⟩
    intro working
    obtain ⟨p', hp', halike, hst', hheld, hworking, hfree⟩ := h.surrendered hbody hkind' hp hholder hst hnot
    rw [State.workingBound_pos] at hworking hfree
    exact ⟨_, rfl, p', hp', State.Arrives.quiet, halike, hst', hheld, hworking, hfree⟩

end Sys2Proof.Machine
end
